-- ==== Sys2Proof/Word.lean ====
section
/-! DEFINITION. The device's words: 32-bit registers, bytes and the 48-bit rail sets (R6, R7 and "Names of instances"
of 00_scope.md). -/

namespace Sys2Proof

/-- A register (32 bits, "Register notation" of 00_scope.md). -/
abbrev Word := BitVec 32

/-- A byte of the ledger, of data RAM and of an image. -/
abbrev Byte := BitVec 8

/-- A 48-bit rail set: bit n stands for rail Ln. -/
abbrev RailSet := BitVec 48

/-- USEC: a 48-bit count of microseconds. -/
abbrev Usec := BitVec 48

end Sys2Proof
end

