-- ==== Sys2Proof/Machine/Types.lean ====
section
/-! DEFINITION. The types of the device's named things: states, modes, agents, reasons and records, as the chapters of
the spec name them. -/

namespace Sys2Proof.Machine

/-- R92: a STAMP. -/
structure Stamp where
  boot  : Word
  usec  : Usec
  rev   : Word
  angle : BitVec 16
deriving DecidableEq, Repr

/-- R22: the device states. -/
inductive DevState where
  | unpowered | powerHold | boot | bootFail | run | holdUp | thermalOff
deriving DecidableEq, Repr

/-- SYS.STATE.CODE of 01. -/
def DevState.code : DevState → Nat
  | .unpowered => 0 | .powerHold => 1 | .boot => 2 | .bootFail => 3 | .run => 4 | .holdUp => 5 | .thermalOff => 6

/-- The operating modes (R30), coded as SYS.MODE.REQ. -/
inductive Mode where
  | guard | audit | watch
deriving DecidableEq, Repr

def Mode.code : Mode → Nat
  | .guard => 0 | .audit => 1 | .watch => 2

/-- R133: the rail states. -/
inductive RailCode where
  | unused | off | armed | rising | qualifying | good | falling | faulted
deriving DecidableEq, Repr

/-- RAIL[n].STATE.CODE of 04. -/
def RailCode.code : RailCode → Nat
  | .unused => 0 | .off => 1 | .armed => 2 | .rising => 3 | .qualifying => 4 | .good => 5 | .falling => 6
  | .faulted => 7

/-- RAIL[n].STATE.OUT of 04. -/
inductive RailOut where
  | off | on | falling
deriving DecidableEq, Repr

def RailOut.code : RailOut → Nat
  | .off => 0 | .on => 1 | .falling => 2

/-- A rail's purse request: not made, waiting, granted (R141). -/
inductive Grant where
  | none | waiting | granted
deriving DecidableEq, Repr

/-- The owners of a resource (R578), coded as the ownership table of R290. -/
inductive Owner where
  | none | door (d : Fin 4) | program
deriving DecidableEq, Repr

def Owner.code : Owner → Nat
  | .none => 0 | .door d => d.val + 1 | .program => 5

/-- R290: the owner of an ownership code. -/
def Owner.ofCode : Nat → Option Owner
  | 0 => some .none | 1 => some (.door 0) | 2 => some (.door 1) | 3 => some (.door 2) | 4 => some (.door 3)
  | 5 => some .program | _ => Option.none

/-- Who writes a register at a close: a door (posting or single write) or a teller (WRR and its kin). -/
inductive Writer where
  | door (d : Fin 4) | teller (k : Fin 8)
deriving DecidableEq, Repr

/-- The owner for whom a writer acts (R188). -/
def Writer.owner : Writer → Owner
  | .door d => .door d
  | .teller _ => .program

/-- R613: the reason codes. -/
inductive Reason where
  | outOfRange | notOwner | locked | booting | asleep | busy | precedence | tellerRank | merged | count | length
  | owned | railActive | unused | notClaimed | falling | faulted | tableRunning | fltLow | gateSelf | gateCycle
  | noPhases | stageHot | noOvPath | vaultLost | tellerRunning | modeRefused | purseRefused | noReservation | budget
  | suspended | archiveFull | trigOverrun | notArmed | winOrder | noMd | mdBusy | marginOff | marginThrottle
  | marginWindow | marginLimit | marginHeat | bankActive | winAddr | winRo | winAlign | eccUncorr
deriving DecidableEq, Repr

/-- R613: the numeric values. -/
def Reason.code : Reason → Nat
  | .outOfRange => 0x01 | .notOwner => 0x02 | .locked => 0x03 | .booting => 0x04 | .asleep => 0x05 | .busy => 0x06
  | .precedence => 0x07 | .tellerRank => 0x08 | .merged => 0x09 | .count => 0x0A | .length => 0x0B | .owned => 0x0C
  | .railActive => 0x0D | .unused => 0x10 | .notClaimed => 0x11 | .falling => 0x12 | .faulted => 0x13
  | .tableRunning => 0x14 | .fltLow => 0x15 | .gateSelf => 0x16 | .gateCycle => 0x17 | .noPhases => 0x18
  | .stageHot => 0x19 | .noOvPath => 0x1A | .vaultLost => 0x1B | .tellerRunning => 0x1C | .modeRefused => 0x1D
  | .purseRefused => 0x20 | .noReservation => 0x21 | .budget => 0x22 | .suspended => 0x23 | .archiveFull => 0x24
  | .trigOverrun => 0x28 | .notArmed => 0x29 | .winOrder => 0x2A | .noMd => 0x30 | .mdBusy => 0x31
  | .marginOff => 0x32 | .marginThrottle => 0x33 | .marginWindow => 0x34 | .marginLimit => 0x35
  | .marginHeat => 0x36 | .bankActive => 0x38 | .winAddr => 0x39 | .winRo => 0x3A | .winAlign => 0x3B
  | .eccUncorr => 0x3C

/-- One masked write of a register: an entry of a posting (R596), a single write (mask of ones), or one register of a
teller's request. -/
structure RegWrite where
  reg  : Nat
  mask : Word
  val  : Word
deriving DecidableEq, Repr

/-- R357: the entries of the shutdown table. -/
inductive Entry where
  | normal | vinLoss | dangerous | external
deriving DecidableEq, Repr

/-- SHUT.STATUS.ENTRY of 09. -/
def Entry.code : Entry → Nat
  | .normal => 0 | .vinLoss => 1 | .dangerous => 2 | .external => 3

/-- R358: the rank of an entry, higher prevails. -/
def Entry.rank : Entry → Nat
  | .dangerous => 3 | .vinLoss => 2 | .external => 1 | .normal => 0

/-- R340: the action of a step. -/
inductive StepAct where
  | off | foff | rsto | finish
deriving DecidableEq, Repr

/-- R340: one step of the shutdown table. `voff` is a VOFF wait; otherwise `time` microseconds. `limit` in ms. -/
structure TStep where
  mask    : RailSet
  act     : StepAct
  rstoSet : BitVec 8
  voff    : Bool
  time    : Nat
  limit   : Nat
deriving DecidableEq, Repr

/-- R548: the verdicts. -/
inductive Verdict where
  | transient | lasting | inconclusive
deriving DecidableEq, Repr

def Verdict.code : Verdict → Nat
  | .transient => 1 | .lasting => 2 | .inconclusive => 3

/-- R547: the probes, each with the object it tests. -/
inductive Path where
  | sense (rail : Fin 48) | window (rail : Fin 48) | windowPg (rail : Fin 48) | conv (cv : Fin 6) | isns (p : Fin 24)
  | tsns (p : Fin 24) | sc (n : Fin 8) | iword (a : Nat) | dword (a : Nat) | lword (a : Nat) | tally | dieSensors | ntc (i : Fin 4)
  | monitor (typ : Nat) | clock | reference | table | monLevel | pin (code : Nat) | selftest (test obj : Nat)
deriving DecidableEq, Repr

/-- One journal record waiting for the array (R522, R525). `slotOf` names the record (by its place in the order of
entry) whose slot index goes into ARG0 when the record is written (R524). -/
structure JRec where
  typ    : Nat
  obj    : Nat
  ff     : Bool
  probe  : Bool
  shadow : Bool
  stamp  : Stamp
  arg0   : Word
  arg1   : Word
  slotOf : Option Nat
deriving DecidableEq, Repr

/-- R513-R519: the frozen content of this boot's first-fault folio; `at_` is the instant of the decision (R513). -/
structure Folio where
  stamp     : Stamp
  kind      : Nat
  obj       : Nat
  dangerous : Bool
  shadow    : Bool
  arg0      : Word
  arg1      : Word
  state     : Byte
  tally     : Byte
  levels    : Byte
  meas      : List Word
  pcs       : List (BitVec 16)
  tstat     : Word
  at_       : Nat
deriving DecidableEq, Repr

/-- An error waiting for its probe, or being probed (R549-R552): the path, the type and object of the error (0 for a
teller's own PROBE), the entry number of its record, whether it stands in the folio, the teller that waits; `joined`: a PROBE
that shares the probe of an error (R265). -/
structure Probe where
  path   : Path
  typ    : Nat
  obj    : Nat
  recNo  : Option Nat
  folio  : Bool
  cls    : Nat
  teller : Option (Fin 8)
  latent : Bool
  since  : Nat := 0
  joined : Bool := false
deriving DecidableEq, Repr

/-- R213: the condition codes of format J. -/
inductive Cond where
  | al | eq | ne | lt | ge | le | gt | lo | hs | ls | hi | ts | tc | ds | dc
deriving DecidableEq, Repr

def Cond.code : Cond → Nat
  | .al => 0 | .eq => 1 | .ne => 2 | .lt => 3 | .ge => 4 | .le => 5 | .gt => 6 | .lo => 7 | .hs => 8 | .ls => 9
  | .hi => 10 | .ts => 11 | .tc => 12 | .ds => 13 | .dc => 14

/-- The table of teller states in 05. -/
inductive TRun where
  | halted | running | waiting | suspended
deriving DecidableEq, Repr

def TRun.code : TRun → Nat
  | .halted => 0 | .running => 1 | .waiting => 2 | .suspended => 3

/-- R196: the exceptions. -/
inductive Exc where
  | illegal | ifetchEcc | dataEcc | dataAddr | stackOver | stackUnder | watchdog | owner | range | double
deriving DecidableEq, Repr

def Exc.code : Exc → Nat
  | .illegal => 1 | .ifetchEcc => 2 | .dataEcc => 3 | .dataAddr => 4 | .stackOver => 5 | .stackUnder => 6
  | .watchdog => 7 | .owner => 8 | .range => 9 | .double => 10

/-- What a request does to a rail (R136, R242). -/
inductive RailOp where
  | on | off | foff
deriving DecidableEq, Repr

/-- A teller's queued request (R183): one rail, the rails of a mask (R243), or a write of register fields applied
whole or refused whole (R184), with `locks` for those that LOCK refuses whatever they change (R246, R247); the margin of a rail (R276), whose register the close finds. -/
inductive TReqBody where
  | rail (n : Fin 48) (op : RailOp)
  | rails (set : RailSet) (on : Bool)
  | writes (ws : List RegWrite) (locks : Bool)
  | margin (n : Fin 48) (v : BitVec 10)
  | lock
  | give (v : Word)
deriving DecidableEq, Repr

/-- A queued request with the PC of the instruction that queued it (R220). -/
structure TReq where
  pc   : BitVec 16
  body : TReqBody
deriving DecidableEq, Repr

/-- What a WAITING teller waits for (R235, R236, R249, R255, R265, R269); instants are in ns. `due`: the close it waits for
has passed; `inWatch`: the watch teller executed WWAKE in WATCH; `path` is that of the PROBE and `arrive`
the converter clock of the INJ's trigger. -/
inductive Wait where
  | sync (due : Bool)
  | wwake (rd : Fin 16) (inWatch due : Bool)
  | time (until_ : Nat)
  | await (m : Fin 64) (deadline : Option Nat)
  | woff (m : Fin 64) (deadline : Option Nat)
  | wang (g : Fin 16) (fired : Bool) (deadline : Option Nat)
  | spend (deadline : Option Nat)
  | reserve (rd : Fin 16) (deadline : Option Nat)
  | probe (rd : Fin 16) (path : Path)
  | inj (rd : Fin 16) (cv : Fin 6) (arrive : Nat)
deriving DecidableEq, Repr

/-- Why a RUNNING teller stalls: its queue is full with this request (R186), or the journal takes no NOTE (R261). -/
inductive Stall where
  | queue (r : TReq)
  | note (r : JRec)
deriving DecidableEq, Repr

/-- The three budgets of 08. -/
inductive Budget where
  | inrush | hold | heat
deriving DecidableEq, Repr

def Budget.code : Budget → Nat
  | .inrush => 0 | .hold => 1 | .heat => 2

/-- Whose purse request it is (R302). -/
inductive PWho where
  | rail (n : Fin 48) | teller (k : Fin 8)
deriving DecidableEq, Repr

/-- A purse request waiting in its budget's queue (R303, R304): the amount in coins or mW, the rank class (0-3 the
doors, then the tellers under R182), the microsecond of entry. `fresh` until the first scheduler run (R309). -/
structure PReq where
  budget : Budget
  who    : PWho
  amt    : Nat
  rank   : Nat
  usec   : Nat
  isNew  : Bool
deriving DecidableEq, Repr

/-- Who holds a HEAT reservation (R325-R329). -/
inductive HWho where
  | rail (n : Fin 48) | teller (k : Fin 8) (num : Nat) | audit | arch
deriving DecidableEq, Repr

/-- A HEAT reservation: holder, mW, the instant of its grant in ns (R326), and whether it is FRESH. -/
structure HRes where
  who   : HWho
  amt   : Nat
  since : Nat
  young : Bool
deriving DecidableEq, Repr

/-- What a read of a protected word meets (R507, R179): no error, a corrected one, an uncorrectable one. -/
inductive Ecc where
  | clean | corrected | uncorrectable
deriving DecidableEq, Repr

/-- The open health day of one rail (R494): sums and counts up to now; `onAt` and `margAt` the instants (ns) since
which the output is on and a margin is in force. -/
structure HAcc where
  onNs    : Nat := 0
  onAt    : Option Nat := none
  vMin    : Nat := 0xFFFFF
  vMax    : Nat := 0
  meanSum : Nat := 0
  meanN   : Nat := 0
  ppMax   : Nat := 0
  rmsMax  : Nat := 0
  droops  : Nat := 0
  nint    : Nat := 0
  uvShort : Nat := 0
  pgShort : Nat := 0
  uvCnt   : Nat := 0
  ovCnt   : Nat := 0
  faults  : Nat := 0
  cycles  : Nat := 0
  margNs  : Nat := 0
  margAt  : Option Nat := none
  margIvl : Bool := false
  tempMax : Option Int := none
  clip    : Bool := false
deriving DecidableEq, Repr

/-- The open day as a whole: its index, the BOOTNO at which it opened, operation counted so far in ns, the instant
from which it counts on, whether a checkpoint was lost in it (R493-R497), and the 48 accumulators. -/
structure HDay where
  day       : Nat
  bootFirst : Word
  ns        : Nat
  since     : Option Nat
  gap       : Bool
  acc       : Vector HAcc 48
deriving DecidableEq, Repr

/-- A write of the array as the device begins it (R506): the instant of its first word, its first byte, its length, the bytes that
stood there (none for an opaque copy of R501), the words of it that read as uncorrectable then, and the two numbers that a pair of
opaque copies held before. -/
structure Recent where
  since : Nat
  addr  : Nat
  len   : Nat
  old   : List Byte
  bad   : List Nat
  held  : Nat × Nat
  stopped : Option Nat := none   -- how many of its words were over as VDD1V8 left its window (R697)
deriving DecidableEq, Repr

/-- How many words of the array a write touches (R505). -/
def Recent.words (r : Recent) : Nat := (r.addr + r.len + 7) / 8 - r.addr / 8

/-- The instant at which its last word is in the array, at one word every 20 ns ("Order of writing"). -/
def Recent.doneAt (r : Recent) : Nat := r.since + 20 * r.words

end Sys2Proof.Machine
end

