-- ==== Sys2Proof/Machine/Parts.lean ====
section
/-! DEFINITION. The types of the device's working parts: the tally, the converters with their triggers, the capture
buffers and the rail statistics. -/

namespace Sys2Proof.Machine

/-! ### The tally (R96-R111) -/

/-- What one accepted transition of TB_A or TB_B is, before DIRINV (R98, R99). -/
inductive QStep where
  | forward | backward | illegal
deriving DecidableEq, Repr

/-- The kinds of tally error that R109 journals at most once per second. -/
inductive TErr where
  | qerr | indexErr | syncJump
deriving DecidableEq, Repr

/-- The tally's working state: the QUAD position and its windows, the SYNC edges, the synthetic angle's base, and the
counts that wait for their record (R109). Instants are in ns. -/
structure Tally where
  p        : Nat := 0               -- R98
  first    : Bool := true           -- no index pulse since SEEKING (R101)
  travel   : Int := 0               -- counts since the last index (R102)
  counts   : Nat := 0               -- counts since SEEKING, for the window of R99
  illegal  : List Nat := []         -- `counts` at each illegal transition within the last revolution, newest first
  lastBad  : Bool := false          -- the last index pulse counted an INDEX_ERR (R100)
  indexAt  : Option Nat := none     -- the last index pulse
  edgeAt   : Option Nat := none     -- the last accepted TB_SYNC edge (R103)
  period   : Option Nat := none     -- the last SYNC period in TCLK cycles
  alike    : Nat := 0               -- consecutive periods within SYNCTOL (R105)
  angleAt  : Nat := 0               -- SYNC: the instant at which ANGLE was last 0
  synth0   : Nat := 0               -- SANGLE at `synthAt` (R111)
  synthAt  : Nat := 0
  quadAt   : Option Nat := none     -- the last accepted transition of TB_A or TB_B (R97)
  gateA    : Nat := 0               -- ANGLE at the last comparison of the gates (R113)
  gateS    : Nat := 0               -- SANGLE at it, not reduced modulo 65,536
  gateDue  : List (Fin 16) := []    -- gates whose targets were crossed and that have yet to fire (R115)
  qWait    : Nat := 0               -- R109: counts since the previous record, and its instant
  qAt      : Option Nat := none
  iWait    : Nat := 0
  iAt      : Option Nat := none
  sWait    : Nat := 0
  sAt      : Option Nat := none
deriving DecidableEq, Repr

/-- A shutter (R119, R120): the instant its blanking began, and whether it waits for its source to leave the window. -/
structure Shutter where
  since : Nat := 0
  spent : Bool := false
deriving DecidableEq, Repr

/-! ### Converters (R371-R411) -/

/-- The sources of a trigger (R386); `wrr` is a teller's WRR to INJCTL, whose result goes to INJRES (R392). -/
inductive TrigSrc where
  | window (n : Fin 48) (ov : Bool) | gate (g : Fin 16) | teller (k : Fin 8) (pc : BitVec 16) | wrr (k : Fin 8) (pc : BitVec 16)
  | door (d : Fin 4)
deriving DecidableEq, Repr

/-- An external trigger: its source, channel, operation, the STAMP of R437, and the converter clock in which it
arrived (R386). -/
structure Trig where
  src    : TrigSrc
  ch     : Nat
  burst  : Bool
  stamp  : Stamp
  arrive : Nat
deriving DecidableEq, Repr

/-- The device's own dwells (R388): a background dwell (R401), a dwell of the open-wire test (R405), one of a probe. -/
inductive Internal where
  | plaus (ch : Nat) | wire (ch : Nat) | probe (ch : Nat)
deriving DecidableEq, Repr

def Internal.ch : Internal → Nat
  | .plaus c => c | .wire c => c | .probe c => c

/-- What a converter is doing (CV[n].STATUS.OP), with the operation in progress. -/
inductive CvOp where
  | idle | scan | dwell (t : Trig) (pended : Bool) | burst (t : Trig) (pended : Bool) (len done : Nat)
  | own (i : Internal) | cal | slow
deriving DecidableEq, Repr

/-- What a dwell is whose samples are complete and whose result is still in the pipeline (R374); `slow`: of the slow scan of
WATCH, which no shutter blanks (R126). -/
inductive FlightKind where
  | scan (k : Fin 8) | slow (k : Fin 8) | dwell (t : Trig) | run (ch : Nat) | own (i : Internal)
deriving DecidableEq, Repr

/-- Such a dwell: the instant it or its burst began, the instants between which a blanking spoils it (R122), S and N and the
converter clock (ns) that held for it (R375, R390), and whether its words have gone to the buffer. -/
structure Flight where
  kind  : FlightKind
  began : Nat
  first : Nat
  last  : Nat
  s     : Nat
  n     : Nat
  clk   : Nat
  told  : Bool
deriving DecidableEq, Repr

/-- The open-wire test (R404-R409): its channel, the step (1: V0; 2: SNSP source on; 3: SNSN source on; 4: both off),
whether the step's settling time has passed and its dwell is under way, the step's instant, and V0, V1, V2. -/
structure Wire where
  ch    : Nat
  step  : Nat
  dwell : Bool
  since : Nat
  v0    : Nat
  v1    : Nat
  v2    : Nat
  probe : Bool
deriving DecidableEq, Repr

/-- A window test (R426-R429): rail, comparator under test, step 1-4, the step's instant, whether a step of the UV and
of the OV comparator failed, and whether a probe (not a latent test) runs it. -/
structure WTest where
  rail  : Fin 48
  ov    : Bool
  step  : Nat
  since : Nat
  badUv : Bool
  badOv : Bool
  probe : Bool
deriving DecidableEq, Repr

/-- The last window test of a converter, as its probe's verdict needs it. -/
structure WDone where
  rail  : Fin 48
  badUv : Bool
  badOv : Bool
deriving DecidableEq, Repr

/-- The latent tests that run in rounds or at an interval (R570, R572). -/
inductive LatKind where
  | window | converter | phase | flt
deriving DecidableEq, Repr

def LatKind.idx : LatKind → Fin 4
  | .window => 0 | .converter => 1 | .phase => 2 | .flt => 3

/-- The latent rounds: the time R572 counts (ns), counted on since `since`; for each test the time at which it is due,
whether it is under way and whether it is late; the next converter and phase; the counted time of the last scrub of the tellers'
memories. -/
structure Latent where
  ns        : Nat := 0
  since     : Option Nat := none
  due       : Vector Nat 4 := Vector.replicate 4 0
  going     : Vector Bool 4 := Vector.replicate 4 false
  late      : Vector Bool 4 := Vector.replicate 4 false
  nextConv  : Fin 6 := 0
  nextPhase : Fin 24 := 0
  ramAt     : Nat := 0
deriving DecidableEq, Repr

/-- A converter. `slot` is the scan's next or present slot, `began` the instant its dwell or operation began, `s` and
`n` the settling samples and averaged samples in force (R375), `must` the dwells left of the scan of R387, `ownMust`
those an internal request still waits for (R388), `own` the internal request held, with what waits behind it to be the next
one (R388), `calWait` the operations a calibration waits for and `owes` whether the one in progress is of them (R395),
`injReady` the READY that INJRES had before the dwell a host requested (R392), `injCh` the rail channel of the word that INJRES
holds (R378), `pstep` the results of a converter probe so
far, `pbad` its first failed part and `pAt` the instant at which its test DAC took its code (R547), `plaus12` that the last
CONV_PLAUS now probed was of channel 12 (R565). -/
structure Conv where
  op      : CvOp := .idle
  slot    : Fin 8 := 0
  began   : Nat := 0
  s       : Nat := 8
  n       : Nat := 32
  fast    : Bool := false                 -- STATUS.RATE
  arriving : Option Trig := none          -- presented, to be accepted within 2 clocks (R383)
  pend    : Option Trig := none
  must    : Nat := 0
  ownMust : Nat := 0
  own     : List Internal := []
  flights : List Flight := []
  calPend : Bool := false
  calWait : Nat := 0
  owes    : Bool := false
  injReady : Bool := false
  injCh   : Option Nat := none
  calAt   : Nat := 0                      -- the calibration in progress began
  calOkAt : Option Nat := none            -- the last successful one ended
  rotate  : Nat := 0                      -- place in the rotation of R401
  plausAt : Nat := 0                      -- the last background tick
  wire    : Option Wire := none
  wireOut : Option (Nat × Nat) := none    -- the channel of the last test that turned a source on, and its end (R408)
  wtest   : Option WTest := none
  wdone   : Option WDone := none
  restore : Option Nat := none            -- the test DAC settles since (R429)
  pstep   : Nat := 0
  pbad    : Nat := 0
  pAt     : Nat := 0
  plaus12 : Bool := false
  valid12 : Option Nat := none            -- the latest VALID result of channel 12, 100 uV (R565)
  dieT    : Option Int := none            -- channel 11 for a probe of the die sensors (R547), 0.1 C
deriving DecidableEq, Repr

/-! ### Capture (R431-R441) -/

/-- A capture buffer's working state: the instant since which it has been ARMED or CAPTURING in AUDIT, and the last such spans
that have ended (R433), an interruption since the last word (R433), the words written without one, the capture in progress (L
is with the operation; here the words before its tag, GAP of its tag, CLAMPED and SHORTPRE), a DISARM that waits for a burst,
the state an archive commit returns to (R440), CAP.STATUS as a commit's copy of the buffer began (R533). -/
structure Cap where
  heldAt  : Option Nat := none
  held    : List (Nat × Nat) := []
  gap     : Bool := true
  run     : Nat := 0
  pre     : Nat := 0
  tagGap  : Bool := true
  clamped : Bool := false
  short   : Bool := false
  disarm  : Bool := false
  back    : Option Nat := none
  snap    : Word := 0
deriving DecidableEq, Repr

/-! ### Statistics (R442-R445) -/

/-- The open interval of one rail. Samples are exact: in units of 100 uV / 2^30 for MIN and MAX, with 2^7 more for the
means and 2^74 for the mean squares. -/
structure Stat where
  lo     : Int := 0
  hi     : Int := 0
  sumM   : Int := 0
  sumR   : Nat := 0
  nres   : Nat := 0
  droops : Nat := 0
  clip   : Bool := false
  prev   : Option Nat := none    -- the rail's previous result (R444)
deriving DecidableEq, Repr

/-! ### Stage controllers (R447-R479) -/

/-- A controller. `ref0` is the output-equivalent reference in uV at `refAt` (R456, R463); `want` an on-time that waits
for a phase (R459), `next` the place in rotation; `totHold` says that the total limit withholds it; current limit holds
since `limAt` and until `limEnd` (R468); the short condition since `shortAt`; `itot` is the exact sum of the reports
in mA (R466); `imb` counts milliseconds of R476; `rampAt` is the start of the last on-time since the entry to RISING (R455, R463). -/
structure Sc where
  ref0    : Nat := 0
  refAt   : Nat := 0
  rampEnd : Nat := 0
  want    : Bool := false
  next    : Nat := 0
  totHold : Bool := false
  limAt   : Nat := 0
  limEnd  : Nat := 0
  shortAt : Option Nat := none
  itot    : Int := 0
  imb     : Nat := 0
  imbAt   : Option Nat := none
  rampAt  : Option Nat := none
deriving DecidableEq, Repr

/-- A phase: the on-time in progress and its length in ns, the instant of the last off-time, mid-level before the first on-time or
after a zero crossing (R460, R463), mid-level within the discharge state (R465), current limit until (R468), the instants of its last
on-times, newest first, and its ISNS codes with their instants, newest first (R470), the 1 ms mean, the reading counts of R474 and
R475. -/
structure Ph where
  onAt     : Option Nat := none
  onLen    : Nat := 0
  offAt    : Nat := 0
  mid      : Bool := false
  dmid     : Bool := false
  limEnd   : Nat := 0
  fltDone  : Bool := false      -- STAGE_FLT is declared for the level that stands (R469)
  cycles   : List Nat := []
  hist     : List (Nat × Nat) := []
  sum      : Int := 0
  cnt      : Nat := 0
  openAt   : Option Nat := none
  badN     : Nat := 0
  warnUp   : Nat := 0
  warnDown : Nat := 0
  shutUp   : Nat := 0
  shutDown : Nat := 0
  tBad     : Nat := 0
deriving DecidableEq, Repr

/-! ### Power entry (R46-R82) -/

/-- The power entry: restarts of step 2 and the wait of R79, the instant of the vault's PLL start (R706), of the boot
step in progress; the consecutive samples of R49; the samples of VIN, newest first (R68); since when VIN falls faster
than SLOPE, since when the recovery to level 1 and to level 0 holds; charger start, HOLD above VCV + 3.0 V since, first
instant and records of R54; OR_GATE on since, and its judgement is made (R65); VSUP below 11.0 V (R58). -/
structure Power where
  tries   : Nat := 0
  waitAt  : Option Nat := none
  stuck   : Bool := false
  stepAt  : Nat := 0
  high    : Nat := 0
  low     : Nat := 0
  vins    : List Nat := []
  fastAt  : Option Nat := none
  rec1At  : Option Nat := none
  rec0At  : Option Nat := none
  chgAt   : Nat := 0
  ovAt    : Option Nat := none
  lowAt   : Option Nat := none
  lowN    : Nat := 0
  orAt    : Option Nat := none
  orDone  : Bool := false
  vsupLow : Bool := false
  reached : Bool := false        -- R61: HOLD has reached VCV - 1.0 V since the charger's start
deriving DecidableEq, Repr

/-! ### Checks between the regions and the die sensors (R26, R558-R566) -/

/-- Counts of consecutive results: the previous clock count, reference comparisons beyond 1.5 %, die readings further
apart than 30.0 C, and each TSn's readings above 165 C, with its last reading in 0.1 C and the instant of the last
readings (R330). -/
structure Checks where
  clkPrev : Nat := 0
  refBad  : Nat := 0
  grad    : Nat := 0
  sd      : Vector Nat 4 := Vector.replicate 4 0
  sdT     : Vector Int 4 := Vector.replicate 4 0
  readAt  : Option Nat := none
  lastClose : Nat := 0
deriving DecidableEq, Repr

/-! ### Archive commits (R271, R440, R533-R537) -/

/-- A commit in progress: the buffers, who asked (a door, or a teller), and the STAMP of its start. -/
structure Arch where
  mask    : BitVec 6
  door    : Bool
  num     : Nat
  stamp0  : Stamp
deriving DecidableEq, Repr

/-! ### Door protocols (R616-R644) -/

/-- R620, R633: what came of a request's check byte: it matches, it does not, none came. -/
inductive Check where
  | good | bad | absent
deriving DecidableEq, Repr

/-- The wire of a request: its check byte, the width bits of its command byte, whether its length agrees with the command
and COUNT (R620), whether a payload of door D holds LEN + 3 bytes (R638), door D's CNT (R637), the opcode where it is another
than the command's (R620 check 2), and the address (door C, R630) or identifier (door D, R636) where it is another than the
door's own. -/
structure Frame where
  check  : Check
  width  : BitVec 2
  agrees : Bool
  holds  : Bool
  cnt    : BitVec 8
  op     : Option (BitVec 6)
  dest   : Option (BitVec 11)
deriving DecidableEq, Repr

/-- R616: the commands, with header and data. -/
inductive DoorCmd where
  | rreg (addr count : Nat)
  | wreg (addr : Nat) (vals : List Word)
  | rwin (addr count : Nat)
  | wwin (addr : Nat) (vals : List Word)
  | pstat
deriving DecidableEq, Repr

/-- One door's protocol state: RES and reason of the last frame other than PSTAT (R624), RES of the last frame of all (R628),
the counts of R624, the result data of the last request answered and the bytes the door sent for it (the model's view of its
wire), a window write under way (its frame, window address and words), whose RES is still to come, and the requests that wait
behind it (R629, R640). -/
structure Port where
  res     : Nat := 0
  why     : Nat := 0
  lastRes : Nat := 0
  ok      : Nat := 0
  bad     : Nat := 0
  short   : Nat := 0
  other   : Nat := 0
  data    : List Word := []
  sent    : List Byte := []
  wwin    : Option (Frame × Nat × List Word) := none
  waits   : List (Frame × DoorCmd × List Ecc) := []
deriving DecidableEq, Repr

/-- Door D: the error counters and state (R636: 0 active, 1 passive, 2 off), responses waiting (R640), the last request
accepted, with its instant and response (R639), whether it stands integrated to the bus (R644), the frames ignored and
counted (the table of 17), and the last frame it sent: identifier and payload (the model's view of the bus). -/
structure Can where
  tec   : Nat := 0
  rec_  : Nat := 0
  state : Nat := 0
  out   : List (List Byte) := []
  last  : Option (List Byte × Nat) := none
  resp  : List Byte := []
  integ : Bool := true
  ignored : Nat := 0
  sentId : Nat := 0
  sent  : List Byte := []
deriving DecidableEq, Repr

end Sys2Proof.Machine
end

