-- ==== Sys2Proof/Syntax.lean ====
section
/-! DEFINITION. The commands: one constructor per row of spec/opcode_table.json, in the table's order. Every command names
the instant `ts` (ns) at which it comes about; its other operands are what the outside gives: levels at pins, readings,
codes of samples, what a read of a protected word meets, the outcome of a check in the silicon (log entries 1 and 2). -/

namespace Sys2Proof

open Sys2Proof.Machine

/-- The commands of the device. -/
inductive Instr where
  /-- SUPPLY_PRESENT (R22): VIN or HOLD rises above 8 V and the device leaves UNPOWERED for POWER-HOLD. -/
  | supplyPresent (ts : Nat)
  /-- SUPPLY_LOST (R22): VIN and HOLD both fall below 8 V and the device becomes UNPOWERED from any state. -/
  | supplyLost (ts : Nat) (torn : Option Nat)
  /-- VIN_RISE_LOCKOUT (R50): VIN rises above the 28.0 V lockout threshold and the device leaves POWER-HOLD for BOOT
  at boot step 1. -/
  | vinRiseLockout (ts : Nat)
  /-- VDD5_SOFT_START_DONE (R56): The pre-regulator soft start of boot step 2 completes and the vault wakes at step 3. -/
  | vdd5SoftStartDone (ts : Nat) (ok : Bool)
  /-- SUPPLY_WINDOW_RETRY (R79): The 100 ms wait after VCORE or VVLT was found outside its window at step 3 expires,
  and step 2 restarts or FLT_N is held after three attempts. -/
  | supplyWindowRetry (ts : Nat)
  /-- PLL_LOCK (R86): The PLL reports lock in boot step 3, USEC starts at 0 and the main region is released. -/
  | pllLock (ts : Nat) (dadr : Fin 8)
  /-- PLL_LOCK_TIMEOUT (R706): The PLL has not locked 0.5 ms after start and the vault treats the boot as under R79. -/
  | pllLockTimeout (ts : Nat)
  /-- CAL_SET_LOAD (R659): Boot step 4 loads and checks the calibration set and increments BOOTNO. -/
  | calSetLoad (ts : Nat)
  /-- BANK_LOAD (R297): Boot step 5 selects a candidate bank, checks it and loads the image or falls back. -/
  | bankLoad (ts : Nat)
  /-- START_UP_SELFTEST (R557): Boot step 7 runs the window tests, converter probes, reference comparison and scrub. -/
  | startUpSelftest (ts : Nat) (fails : List (Fin 4 × Nat × Nat)) (corrected : Nat) (dev : Int)
      (diag : List (Fin 6 × Fin 3 × Nat))
  /-- TELLERS_START (R191): Boot step 8 writes the presets, sets owners, starts the marked tellers and enters RUN in
  GUARD. -/
  | tellersStart (ts : Nat) (uv ov : RailSet)
  /-- BOOT_VIN_DROP (R52): VIN stays below 25.5 V for 2 us in BOOT and the device returns to POWER-HOLD. -/
  | bootVinDrop (ts : Nat) (torn : Option Nat)
  /-- VIN_LOSS (R63): VIN stays below 25.5 V for 2 us in RUN; the device declares VIN loss, enters HOLD-UP and starts
  the table at VIN_LOSS. -/
  | vinLoss (ts : Nat)
  /-- OR_FAIL (R65): VSUP has not risen within 2.0 V of HOLD 20 us after OR_GATE turns on and OR_FAIL is declared. -/
  | orFail (ts : Nat)
  /-- VSUP_LOW (R58): VSUP falls below 11.0 V, the pre-regulator stops and every output goes high-impedance. -/
  | vsupLow (ts : Nat)
  /-- VDD5_UV (R57): VDD5 stays below 4.50 V for 20 us in RUN or HOLD-UP and the dangerous fault VDD5_UV is declared. -/
  | vdd5Uv (ts : Nat)
  /-- VIN_HIGH (R49): Ten consecutive monitor samples above 82.0 V set VIN_HIGH, journal it and stop the charger. -/
  | vinHigh (ts : Nat)
  /-- VIN_HIGH_CLEAR (R49): One hundred consecutive samples below 80.0 V clear VIN_HIGH and the charger resumes. -/
  | vinHighClear (ts : Nat)
  /-- VIN_LOW_WAIT (R54): Each whole second while a rail still waits in ARMED below VSTART writes a further
  VIN_LOW_WAIT record. -/
  | vinLowWait (ts : Nat)
  /-- CHG_TIMEOUT (R61): HOLD has not reached VCV minus 1.0 V within TMAX and the charger stops with TIMEOUT. -/
  | chgTimeout (ts : Nat)
  /-- HOLD_OV (R61): HOLD stays above VCV plus 3.0 V for 1 ms and the charger stops with HOLD_OV. -/
  | holdOv (ts : Nat)
  /-- CHG_WRITE (R61): A write of PWR.CHG by its owner restarts the charger. -/
  | chgWrite (ts : Nat) (wr : Writer) (mask val : Word)
  /-- SAG_LEVEL_UP (R68): VIN below SAGV or DEPTH, or falling faster than SLOPE for 50 us, raises the sag governor
  level and changes the core clock. -/
  | sagLevelUp (ts : Nat)
  /-- SAG_LEVEL_DOWN (R68): VIN above the recovery level for 1 ms with the slope below SLOPE lowers the sag governor
  level. -/
  | sagLevelDown (ts : Nat)
  /-- REBOOT_REQUEST (R25): A write of 0xA5 to SYS.RESET.KEY starts the table at NORMAL in RUN, or enters BOOT at once
  in BOOT-FAIL. -/
  | rebootRequest (ts : Nat) (wr : Writer)
  /-- THERMAL_SHUTDOWN (R26): Eight consecutive die sensor readings above 165 C assert FLT_N and start the table at
  DANGEROUS. -/
  | thermalShutdown (ts : Nat)
  /-- THERMAL_OFF_ENTRY (R26): The table completes, or 50 ms pass after a thermal shutdown, and the device enters
  THERMAL-OFF. -/
  | thermalOffEntry (ts : Nat)
  /-- WAKE_PIN (R42): WAKE_N falls in WATCH and either leaves WATCH for GUARD or resumes the watch teller. -/
  | wakePin (ts : Nat)
  /-- WATCH_EXIT_COMPLETE (R44): The device is running in GUARD with all converters scanning after leaving WATCH, and
  doors answer normally. -/
  | watchExitComplete (ts : Nat)
  /-- CLOSE (R604): At each close the device applies vault actions, postings, teller queues and ownership changes,
  copies statements and clears latches. -/
  | close (ts : Nat)
  /-- USEC_WRAP_COPY (R89): At least 1 ms before the USEC wrap the device writes BOOTNO plus 1 into the older BOOTNO
  copy. -/
  | usecWrapCopy (ts : Nat)
  /-- USEC_WRAP (R89): USEC passes its maximum; BOOTNO takes the new value, USEC restarts at 0, a WRAP record is
  written and a new folio opens. -/
  | usecWrap (ts : Nat)
  /-- QUAD_COUNT (R98): An accepted TB_A or TB_B transition counts the position forward or backward and updates REV
  and ANGLE. `stable` is how long the new level has been stable, ns (R97). -/
  | quadCount (ts : Nat) (q : QStep) (stable : Nat)
  /-- INDEX_PULSE (R100): An index pulse on TB_Z resets the position, corrects REV and may count an INDEX_ERR or reach
  LOCKED. -/
  | indexPulse (ts stable : Nat)
  /-- SYNC_EDGE (R104): An accepted TB_SYNC edge measures the period, sets ANGLE to 0 and may lock or lose the tally. -/
  | syncEdge (ts : Nat) (rising : Bool) (stable : Nat)
  /-- SYNC_ANGLE_WRAP (R103): ANGLE passes 65,535 between edges, wraps to 0 and increments REV. -/
  | syncAngleWrap (ts : Nat)
  /-- TALLY_FLYWHEEL (R106): No edge arrives within the tolerance of the period and the tally enters FLYWHEEL. -/
  | tallyFlywheel (ts : Nat)
  /-- FLYWHEEL_EXHAUSTED (R106): FLYN flywheel periods pass without an edge and the tally goes to LOST. -/
  | flywheelExhausted (ts : Nat)
  /-- TALLY_ERR_REPORT (R109): Once per second per kind the device journals the QERR, INDEX_ERR or SYNCJUMP count
  since the last record. -/
  | tallyErrReport (ts : Nat) (k : TErr)
  /-- ANGLE_GATE_FIRE (R113): The watched angle crosses a gate's target; the gate fires, sets FIRED or OVR and may
  trigger a capture. -/
  | angleGateFire (ts : Nat) (routes : List (Fin 16 × Fin 48))
  /-- SHUTTER_BLANK_START (R119): A shutter's angle source enters its window and the named rails are blanked from the
  scan. -/
  | shutterBlankStart (ts : Nat) (n : Fin 16)
  /-- SHUTTER_BLANK_END (R119): The angle source leaves the window and the shutter's blanking ends. -/
  | shutterBlankEnd (ts : Nat) (n : Fin 16)
  /-- SHUTTER_CAPPED (R120): A blanking reaches MAXT, ends and sets the shutter's CAPPED bit. -/
  | shutterCapped (ts : Nat) (n : Fin 16)
  /-- RAIL_START (R140): All conditions hold in one TCLK cycle and an ARMED rail enters RISING with its output on. -/
  | railStart (ts : Nat) (n : Fin 48)
  /-- RAIL_GOOD_COND_MET (R133): The composite good condition holds and a RISING rail enters QUALIFYING. -/
  | railGoodCondMet (ts : Nat) (n : Fin 48)
  /-- RAIL_GOOD_COND_LOST (R133): The composite good condition fails and a QUALIFYING rail returns to RISING. -/
  | railGoodCondLost (ts : Nat) (n : Fin 48)
  /-- RAIL_QUALIFIED (R143): The composite good condition has held for QUAL and the rail enters GOOD. -/
  | railQualified (ts : Nat) (n : Fin 48)
  /-- FALL_TIMEOUT (R135): No result has fallen below VOFF within FALLTO of the output switching off and FALL_TIMEOUT
  is journalled. -/
  | fallTimeout (ts : Nat) (n : Fin 48)
  /-- RISE_TIMEOUT (R145): A rail has not reached GOOD within RISETO and RISE_TIMEOUT is declared with its reaction. -/
  | riseTimeout (ts : Nat) (n : Fin 48)
  /-- RAIL_OV (R147): The OV comparator shows its condition for OVFILT; OV is a dangerous fault and the rail enters
  FAULTED. -/
  | railOv (ts : Nat) (n : Fin 48)
  /-- RAIL_UV (R147): The UV comparator shows its condition for UVFILT on a GOOD rail and REACT.UV applies. -/
  | railUv (ts : Nat) (n : Fin 48)
  /-- PG_LOSS (R147): PG stays inactive for UVFILT on a GOOD rail with PGUSE and REACT.PG applies. -/
  | pgLoss (ts : Nat) (n : Fin 48)
  /-- PG_CHANGE (R158): A PG level stable for 512 ns is accepted as the new PG level. -/
  | pgChange (ts : Nat) (n : Fin 48) (level : Bool)
  /-- RSTO_RELEASE (R161): Every masked rail has been GOOD for STRETCH and the reset output is released. -/
  | rstoRelease (ts : Nat) (k : Fin 8)
  /-- SEQ_OUT_RELEASE (R165): Every rail of the cascade mask has been GOOD for OUTDLY and SEQ_OUT is released. -/
  | seqOutRelease (ts : Nat)
  /-- SEQ_IN_CHANGE (R167): A SEQ_IN level stable for 10 us is accepted; a fall in RUN sets INFALL and may start the
  table at NORMAL. -/
  | seqInChange (ts : Nat) (level : Bool)
  /-- NOP (R223): No operation. -/
  | nop (ts : Nat) (k : Fin 8) (e : Ecc)
  /-- ADD (R223): Adds two registers and sets Z, N and C. -/
  | add (ts : Nat) (k : Fin 8) (e : Ecc) (rd ra rb : Fin 16)
  /-- SUB (R223): Subtracts two registers and sets Z, N and C. -/
  | sub (ts : Nat) (k : Fin 8) (e : Ecc) (rd ra rb : Fin 16)
  /-- AND (R223): Bitwise AND of two registers. -/
  | and (ts : Nat) (k : Fin 8) (e : Ecc) (rd ra rb : Fin 16)
  /-- OR (R223): Bitwise OR of two registers. -/
  | or (ts : Nat) (k : Fin 8) (e : Ecc) (rd ra rb : Fin 16)
  /-- XOR (R223): Bitwise XOR of two registers. -/
  | xor (ts : Nat) (k : Fin 8) (e : Ecc) (rd ra rb : Fin 16)
  /-- SHL (R223): Shifts a register left by a register amount. -/
  | shl (ts : Nat) (k : Fin 8) (e : Ecc) (rd ra rb : Fin 16)
  /-- SHR (R223): Shifts a register right logically by a register amount. -/
  | shr (ts : Nat) (k : Fin 8) (e : Ecc) (rd ra rb : Fin 16)
  /-- SAR (R223): Shifts a register right arithmetically by a register amount. -/
  | sar (ts : Nat) (k : Fin 8) (e : Ecc) (rd ra rb : Fin 16)
  /-- MUL (R223): Multiplies two registers unsigned modulo 2^32. -/
  | mul (ts : Nat) (k : Fin 8) (e : Ecc) (rd ra rb : Fin 16)
  /-- CMP (R223): Compares two registers and sets Z, N and C. -/
  | cmp (ts : Nat) (k : Fin 8) (e : Ecc) (ra rb : Fin 16)
  /-- ADDI (R223): Adds a sign-extended immediate to a register. -/
  | addi (ts : Nat) (k : Fin 8) (e : Ecc) (rd ra : Fin 16) (imm : BitVec 18)
  /-- ANDI (R223): Bitwise AND with a zero-extended immediate. -/
  | andi (ts : Nat) (k : Fin 8) (e : Ecc) (rd ra : Fin 16) (imm : BitVec 18)
  /-- ORI (R223): Bitwise OR with a zero-extended immediate. -/
  | ori (ts : Nat) (k : Fin 8) (e : Ecc) (rd ra : Fin 16) (imm : BitVec 18)
  /-- XORI (R223): Bitwise XOR with a zero-extended immediate. -/
  | xori (ts : Nat) (k : Fin 8) (e : Ecc) (rd ra : Fin 16) (imm : BitVec 18)
  /-- SHLI (R223): Shifts a register left by an immediate amount. -/
  | shli (ts : Nat) (k : Fin 8) (e : Ecc) (rd ra : Fin 16) (n : BitVec 5)
  /-- SHRI (R223): Shifts a register right logically by an immediate amount. -/
  | shri (ts : Nat) (k : Fin 8) (e : Ecc) (rd ra : Fin 16) (n : BitVec 5)
  /-- SARI (R223): Shifts a register right arithmetically by an immediate amount. -/
  | sari (ts : Nat) (k : Fin 8) (e : Ecc) (rd ra : Fin 16) (n : BitVec 5)
  /-- CMPI (R223): Compares a register with a sign-extended immediate. -/
  | cmpi (ts : Nat) (k : Fin 8) (e : Ecc) (ra : Fin 16) (imm : BitVec 18)
  /-- LUI (R223): Loads an immediate shifted left by 14 into a register. -/
  | lui (ts : Nat) (k : Fin 8) (e : Ecc) (rd : Fin 16) (imm : BitVec 18)
  /-- CLRF (R223): Clears the flags whose bits are set in the immediate. -/
  | clrf (ts : Nat) (k : Fin 8) (e : Ecc) (f : BitVec 5)
  /-- LD (R224): Loads a word from data RAM into a register. -/
  | ld (ts : Nat) (k : Fin 8) (e d : Ecc) (rd ra : Fin 16) (imm : BitVec 18)
  /-- ST (R224): Stores a register word into data RAM. -/
  | st (ts : Nat) (k : Fin 8) (e : Ecc) (rd ra : Fin 16) (imm : BitVec 18)
  /-- LDB (R224): Loads a zero-extended byte from data RAM. -/
  | ldb (ts : Nat) (k : Fin 8) (e d : Ecc) (rd ra : Fin 16) (imm : BitVec 18)
  /-- STB (R226): Stores a byte into data RAM by read, correct and rewrite of its word. -/
  | stb (ts : Nat) (k : Fin 8) (e d : Ecc) (rd ra : Fin 16) (imm : BitVec 18)
  /-- STAMP (R227): Takes a STAMP in the issue slot and stores its 16 bytes in data RAM. -/
  | stamp (ts : Nat) (k : Fin 8) (e : Ecc) (ra : Fin 16) (imm : BitVec 18)
  /-- RDR (R228): Reads a device register at its live value into a register. -/
  | rdr (ts : Nat) (k : Fin 8) (e : Ecc) (rd ra : Fin 16) (imm : BitVec 16)
  /-- WRR (R229): Checks ownership and range and queues a register write for the next close. -/
  | wrr (ts : Nat) (k : Fin 8) (e : Ecc) (rd ra : Fin 16) (imm : BitVec 16)
  /-- B (R232): Branches to the target when the condition holds. -/
  | b (ts : Nat) (k : Fin 8) (e : Ecc) (c : Cond) (target : BitVec 16)
  /-- CALL (R233): Pushes the return address and branches, raising STACK_OVER at depth 16. -/
  | call (ts : Nat) (k : Fin 8) (e : Ecc) (target : BitVec 16)
  /-- RET (R233): Pops the return address, raising STACK_UNDER at depth 0. -/
  | ret (ts : Nat) (k : Fin 8) (e : Ecc)
  /-- RETT (R234): Ends the trap state and continues at the address in a register. -/
  | rett (ts : Nat) (k : Fin 8) (e : Ecc) (ra : Fin 16)
  /-- HALT (R232): Advances the PC and halts the teller with EXC = 0. -/
  | halt (ts : Nat) (k : Fin 8) (e : Ecc)
  /-- KICK (R195): Restarts the teller's watchdog count. -/
  | kick (ts : Nat) (k : Fin 8) (e : Ecc)
  /-- SYNC (R235): Puts the teller in WAITING until the next close. -/
  | sync (ts : Nat) (k : Fin 8) (e : Ecc)
  /-- SYNC_END (R235): SYNC ends at the teller's first slot after the close, with its queued requests resolved. -/
  | syncEnd (ts : Nat) (k : Fin 8)
  /-- WWAKE (R236): Waits for a wake event in WATCH, or for the next close outside WATCH. -/
  | wwake (ts : Nat) (k : Fin 8) (e : Ecc) (rd : Fin 16)
  /-- WWAKE_END (R236): WWAKE ends on a wake event or close and writes the causes to its register. -/
  | wwakeEnd (ts : Nat) (k : Fin 8)
  /-- LOCK (R237): Queues the setting of SYS.LOCK.LOCKED for the next close. -/
  | lock (ts : Nat) (k : Fin 8) (e : Ecc)
  /-- MBIN (R238): Reads the teller's MBOXIN into a register. -/
  | mbin (ts : Nat) (k : Fin 8) (e : Ecc) (rd : Fin 16)
  /-- MBOUT (R238): Writes the teller's MBOXOUT in its slot. -/
  | mbout (ts : Nat) (k : Fin 8) (e : Ecc) (ra : Fin 16) (obj : BitVec 6)
  /-- TCTL (R239): Queues a control command to a teller's CTL for the next close. -/
  | tctl (ts : Nat) (k : Fin 8) (e : Ecc) (ra : Fin 16) (obj : BitVec 6) (cmd : BitVec 3)
  /-- ON (R240): Queues an ON to a rail. -/
  | on (ts : Nat) (k : Fin 8) (e : Ecc) (ra : Fin 16) (obj : BitVec 6)
  /-- OFF (R240): Queues an OFF to a rail. -/
  | off (ts : Nat) (k : Fin 8) (e : Ecc) (ra : Fin 16) (obj : BitVec 6)
  /-- FOFF (R242): Queues an OFF with active discharge request to a rail. -/
  | foff (ts : Nat) (k : Fin 8) (e : Ecc) (ra : Fin 16) (obj : BitVec 6)
  /-- ONM (R243): Queues an ON to every rail of a mask. -/
  | onm (ts : Nat) (k : Fin 8) (e : Ecc) (ra : Fin 16) (obj : BitVec 6)
  /-- OFFM (R243): Queues an OFF to every rail of a mask. -/
  | offm (ts : Nat) (k : Fin 8) (e : Ecc) (ra : Fin 16) (obj : BitVec 6)
  /-- GATE (R246): Queues a rail's interlock from a mask and SEQINREQ bit. -/
  | gate (ts : Nat) (k : Fin 8) (e : Ecc) (ra : Fin 16) (obj m : BitVec 6) (seq : Bool)
  /-- MSET (R247): Queues a write of one half of a mask. -/
  | mset (ts : Nat) (k : Fin 8) (e : Ecc) (ra rb : Fin 16) (obj : BitVec 6) (h : Bool)
  /-- MLD (R240): Reads one half of a mask live into a register. -/
  | mld (ts : Nat) (k : Fin 8) (e : Ecc) (rd ra : Fin 16) (obj : BitVec 6) (h : Bool)
  /-- TSTM (R248): Tests the rails of a mask live and sets Z, N and C. -/
  | tstm (ts : Nat) (k : Fin 8) (e : Ecc) (ra : Fin 16) (obj : BitVec 6)
  /-- WAIT (R250): Waits a number of microseconds timed from REFCLK. -/
  | wait (ts : Nat) (k : Fin 8) (e : Ecc) (ra : Fin 16) (imm : BitVec 18)
  /-- WAIT_ELAPSED (R250): The WAIT duration passes and the wait ends at the teller's next slot. -/
  | waitElapsed (ts : Nat) (k : Fin 8)
  /-- AWAIT (R252): Waits until every rail of a mask is GOOD, with a timeout. -/
  | await (ts : Nat) (k : Fin 8) (e : Ecc) (ra rb : Fin 16) (obj : BitVec 6)
  /-- AWAIT_END (R252): The whole mask is GOOD in one slot and AWAIT ends with T cleared. -/
  | awaitEnd (ts : Nat) (k : Fin 8)
  /-- WOFF (R251): Waits until every rail of a mask is OFF or UNUSED, with a timeout. -/
  | woff (ts : Nat) (k : Fin 8) (e : Ecc) (ra rb : Fin 16) (obj : BitVec 6)
  /-- WOFF_END (R251): Every rail of the mask is OFF or UNUSED and WOFF ends. -/
  | woffEnd (ts : Nat) (k : Fin 8)
  /-- WANG (R253): Waits for an angle gate to fire after issue, with a timeout. -/
  | wang (ts : Nat) (k : Fin 8) (e : Ecc) (ra rb : Fin 16) (obj : BitVec 6)
  /-- WANG_END (R253): The named gate fires and WANG ends in the teller's next slot. -/
  | wangEnd (ts : Nat) (k : Fin 8)
  /-- WAIT_TIMEOUT (R210): A wait's timeout expires and it ends with T set, or SPEND and RESERVE are refused. -/
  | waitTimeout (ts : Nat) (k : Fin 8)
  /-- SPEND (R256): Requests coins from the INRUSH or HOLD purse and waits for a grant. -/
  | spend (ts : Nat) (k : Fin 8) (e : Ecc) (ra rb : Fin 16) (obj : BitVec 6) (hold : Bool)
  /-- RESERVE (R257): Requests a HEAT reservation and waits for a grant. -/
  | reserve (ts : Nat) (k : Fin 8) (e : Ecc) (rd ra rb : Fin 16) (obj : BitVec 6)
  /-- RELEASE (R258): Releases a HEAT reservation by number. -/
  | release (ts : Nat) (k : Fin 8) (e : Ecc) (ra : Fin 16) (obj : BitVec 6)
  /-- NOTE (R261): Places a NOTE record in the journal write queue. -/
  | note (ts : Nat) (k : Fin 8) (e : Ecc) (ra rb : Fin 16) (code : BitVec 14)
  /-- NOTE_STALL_RESUME (R261): The journal queue accepts a stalled NOTE and the teller continues. -/
  | noteStallResume (ts : Nat) (k : Fin 8)
  /-- FAULT (R262): Records a program-declared fault that is not dangerous. -/
  | fault (ts : Nat) (k : Fin 8) (e : Ecc) (ra rb : Fin 16) (code : BitVec 13)
  /-- DFAULT (R263): Records a program-declared dangerous fault, asserting FLT_N and starting the table at DANGEROUS. -/
  | dfault (ts : Nat) (k : Fin 8) (e : Ecc) (ra rb : Fin 16) (code : BitVec 13)
  /-- PROBE (R265): Runs a targeted self-test of a path and waits for its verdict. -/
  | probe (ts : Nat) (k : Fin 8) (e : Ecc) (rd ra : Fin 16) (obj : BitVec 6) (cls : BitVec 3)
  /-- CAPT (R268): Presents a burst capture trigger for a rail to its converter. -/
  | capt (ts : Nat) (k : Fin 8) (e : Ecc) (ra : Fin 16) (obj : BitVec 6)
  /-- INJ (R269): Presents an injected dwell of a channel and waits for its measurement word. -/
  | inj (ts : Nat) (k : Fin 8) (e : Ecc) (rd ra : Fin 16) (obj : BitVec 6) (ch : BitVec 4)
  /-- CAL (R270): Requests self-calibration of a converter. -/
  | cal (ts : Nat) (k : Fin 8) (e : Ecc) (ra : Fin 16) (obj : BitVec 6)
  /-- ARCH (R271): Starts an archive commit of the named capture buffers. -/
  | arch (ts : Nat) (k : Fin 8) (e : Ecc) (ra : Fin 16) (obj : BitVec 6)
  /-- MODE (R275): Queues a change of the requested mode. -/
  | mode (ts : Nat) (k : Fin 8) (e : Ecc) (m : BitVec 2)
  /-- MRGN (R276): Queues a margin for a rail. -/
  | mrgn (ts : Nat) (k : Fin 8) (e : Ecc) (ra rb : Fin 16) (obj : BitVec 6)
  /-- WATCHDOG (R195): A teller has been RUNNING for WDOG ms without waiting or kicking and raises WATCHDOG. -/
  | watchdog (ts : Nat) (k : Fin 8)
  /-- QUEUE_STALL_RESUME (R186): The close empties a full request queue and the stalled instruction completes. -/
  | queueStallResume (ts : Nat) (k : Fin 8)
  /-- TELLER_HALT (R192): The HALT command stops a teller after its current instruction. -/
  | tellerHalt (ts : Nat) (wr : Writer) (k : Fin 8)
  /-- TELLER_RESUME (R192): The RESUME command runs a HALTED teller from its PC. -/
  | tellerResume (ts : Nat) (wr : Writer) (k : Fin 8)
  /-- TELLER_RESTART (R192): The RESTART command resets a teller's state and runs it from its entry. -/
  | tellerRestart (ts : Nat) (wr : Writer) (k : Fin 8)
  /-- TELLER_STEP (R192): The STEP command executes one instruction of a HALTED teller. -/
  | tellerStep (ts : Nat) (wr : Writer) (k : Fin 8)
  /-- LOCK_KEY (R155): A write of 0x5A to SYS.LOCK.KEY by the MODE owner sets LOCKED. -/
  | lockKey (ts : Nat) (wr : Writer)
  /-- RAIL_CMD_ON (R589): A write of ON to RAIL[n].CMD requests ON of the rail. -/
  | railCmdOn (ts : Nat) (wr : Writer) (n : Fin 48)
  /-- RAIL_CMD_OFF (R589): A write of OFF to RAIL[n].CMD requests OFF of the rail. -/
  | railCmdOff (ts : Nat) (wr : Writer) (n : Fin 48)
  /-- RAIL_CMD_FOFF (R589): A write of FOFF to RAIL[n].CMD requests fast off of the rail. -/
  | railCmdFoff (ts : Nat) (wr : Writer) (n : Fin 48)
  /-- START_NORMAL (R357): A write of START_NORMAL to SHUT.CTL requests entry to the table at NORMAL at the close. -/
  | startNormal (ts : Nat) (wr : Writer)
  /-- RELEASE_FLT (R365): A write of RELEASE_FLT to SHUT.CTL releases FLT_N when the table is idle. -/
  | releaseFlt (ts : Nat) (wr : Writer)
  /-- OWN_GIVE (R581): A write of OWN.GIVE transfers or claims ownership of a resource at the close. -/
  | ownGive (ts : Nat) (wr : Writer) (res : BitVec 8) (dst : BitVec 3)
  /-- INJECTED_DWELL_REQUEST (R392): INJCTL with GO and KIND 0 requests an injected dwell whose result goes to INJRES. -/
  | injectedDwellRequest (ts : Nat) (wr : Writer) (c : Fin 6) (ch : BitVec 4)
  /-- BURST_REQUEST (R392): INJCTL with GO and KIND 1 requests an injected burst on an armed buffer. -/
  | burstRequest (ts : Nat) (wr : Writer) (c : Fin 6) (ch : BitVec 4)
  /-- CALIBRATION_REQUEST (R394): A write of CALCTL.START requests calibration of the converter at the close. -/
  | calibrationRequest (ts : Nat) (wr : Writer) (c : Fin 6)
  /-- OPEN_WIRE_START (R404): A write of OWCTL.START starts an open-wire test of a rail channel. -/
  | openWireStart (ts : Nat) (wr : Writer) (c : Fin 6) (ch : Fin 8)
  /-- CAPTURE_ARM (R432): The ARM command takes a capture buffer to ARMED at the close. -/
  | captureArm (ts : Nat) (wr : Writer) (c : Fin 6)
  /-- CAPTURE_DISARM (R432): The DISARM command takes a capture buffer to OFF after any burst in progress. -/
  | captureDisarm (ts : Nat) (wr : Writer) (c : Fin 6)
  /-- REINSTATE (R473): The REINSTATE command returns excluded phases of a controller whose rail is OFF or UNUSED. -/
  | reinstate (ts : Nat) (wr : Writer) (c : Fin 8)
  /-- ARCHIVE_GO (R537): The GO command of LEDG.ARCHCTL requests an archive commit of the named buffers. -/
  | archiveGo (ts : Nat) (wr : Writer) (m : BitVec 6)
  /-- ARCHIVE_RESET (R536): The RESET command of LEDG.ARCHCTL sets ARCHFILL and the entry count to 0. -/
  | archiveReset (ts : Nat) (wr : Writer)
  /-- STATEMENT_REQUEST (R590): A write of REQUEST to SCMD asks for a statement at the next close. -/
  | statementRequest (ts : Nat) (d : Fin 4)
  /-- STATEMENT_DROP (R593): A write of DROP to SCMD clears HOLD and makes the door's reads live. -/
  | statementDrop (ts : Nat) (d : Fin 4)
  /-- PADD (R596): A write of PADD appends a posting entry from PMASK and PVAL. -/
  | padd (ts : Nat) (d : Fin 4) (reg : BitVec 16)
  /-- POST (R598): A write of POST to PCMD submits the staged posting for the next close. -/
  | post (ts : Nat) (d : Fin 4)
  /-- DISCARD (R597): A write of DISCARD to PCMD empties the posting buffer. -/
  | discard (ts : Nat) (d : Fin 4)
  /-- SUBST_END (R337): The HEAT owner writes 1 to a THERM.SUBST bit and ends that sensor's substitution. -/
  | substEnd (ts : Nat) (wr : Writer) (bits : Word)
  /-- STAMPV_CLEAR (R423): Writing 1 to STAMPV clears it so the next routed latch takes a new STAMP. -/
  | stampvClear (ts : Nat) (wr : Writer) (n : Fin 48)
  /-- REGISTER_WRITE (R599): A write to a register with no row of its own is checked and applied at a close. -/
  | registerWrite (ts : Nat) (wr : Writer) (reg : BitVec 16) (mask val : Word)
  /-- RREG (R616): A door command that reads COUNT registers from ADDR. -/
  | rreg (ts : Nat) (d : Fin 4) (f : Frame) (addr : BitVec 16) (count : BitVec 8)
  /-- WREG (R621): A door command that writes COUNT registers, acting at once on its own block and queuing single
  writes. -/
  | wreg (ts : Nat) (d : Fin 4) (f : Frame) (addr : BitVec 16) (vals : List Word)
  /-- RWIN (R616): A door command that reads COUNT window words from ADDR. -/
  | rwin (ts : Nat) (d : Fin 4) (f : Frame) (addr : Word) (count : BitVec 8) (ecc : List Ecc)
  /-- WWIN (R540): A door command that writes COUNT window words into the ledger. -/
  | wwin (ts : Nat) (d : Fin 4) (f : Frame) (addr : Word) (vals : List Word)
  /-- WINDOW_WRITE_DONE (R540): The words of a WWIN reach the array and the device produces RES. -/
  | windowWriteDone (ts : Nat) (d : Fin 4) (ecc : List Ecc)
  /-- PSTAT (R624): A door command that returns the door's protocol status without side effect. -/
  | pstat (ts : Nat) (d : Fin 4) (f : Frame)
  /-- CAL_KEY1 (R664): A window write of KEY1 starts the calibration set unlock, or with 0 closes an open set. -/
  | calKey1 (ts : Nat) (d : Fin 4) (v : Word)
  /-- CAL_KEY2 (R664): A window write of KEY2 matching the stored CRC complement opens the calibration set to the
  door. -/
  | calKey2 (ts : Nat) (d : Fin 4) (v : Word)
  /-- CAL_SET_TIMEOUT (R668): The calibration set closes after 10 s without an accepted write, or on another closing
  event. -/
  | calSetTimeout (ts : Nat)
  /-- SPI_FRAME_ABANDON (R629): CSx_N rises before HCRC is complete and the frame is abandoned. -/
  | spiFrameAbandon (ts : Nat) (d : Fin 2)
  /-- SMBUS_TIMEOUT (R634): SCL stays low for more than 25 ms and door C resets its interface. -/
  | smbusTimeout (ts : Nat) (busy : Bool)
  /-- ALERT_RESPONSE (R635): A read at the alert response address returns the device address and releases SMBALERT_C. -/
  | alertResponse (ts : Nat) (wins : Bool)
  /-- CAN_RESPONSE_SEND (R640): A queued response wins arbitration and is transmitted on door D. -/
  | canResponseSend (ts : Nat)
  /-- EVENT_FRAME_SEND (R642): A queued event frame is transmitted on door D. -/
  | eventFrameSend (ts : Nat)
  /-- BUS_OFF_RECOVERY (R636): After 128 occurrences of 11 recessive bits door D recovers from bus-off. -/
  | busOffRecovery (ts : Nat)
  /-- SCHEDULER_RUN (R303): Once per microsecond the scheduler adds the INRUSH refill and grants or refuses queued
  requests in rank order. -/
  | schedulerRun (ts : Nat)
  /-- PURSE_TIMEOUT (R311): A rail's purse wait reaches PTO and the rail returns to OFF. -/
  | purseTimeout (ts : Nat) (n : Fin 48)
  /-- HOLD_PURSE_UPDATE (R318): Each millisecond the device recomputes E, AVAIL and the outstanding commitments of the
  HOLD purse. -/
  | holdPurseUpdate (ts : Nat)
  /-- FRESH_EXPIRE (R326): A reservation reaches SETTLE seconds and leaves FRESH. -/
  | freshExpire (ts : Nat)
  /-- THERMAL_READING (R330): Each millisecond every sensor is read, margins and HEADROOM are recomputed and failed
  sensors substituted. -/
  | thermalReading (ts : Nat) (die ntc : List (Int × Bool)) (tsns : List Nat)
  /-- THROTTLE_TRIP (R331): A zone's readings exceed a level threshold for 8 consecutive readings and the level trips. -/
  | throttleTrip (ts : Nat) (zone : Fin 3) (level : Fin 7)
  /-- THROTTLE_RELEASE (R331): A zone's readings lie below a threshold minus HYST for 8 consecutive readings and the
  level releases. -/
  | throttleRelease (ts : Nat) (zone : Fin 3) (level : Fin 7)
  /-- TABLE_RUN_START (R369): The vault begins the first step of an entry's run, or jumps to a higher entry. -/
  | tableRunStart (ts : Nat)
  /-- TABLE_STEP (R344): The vault performs a step's action and begins its wait. -/
  | tableStep (ts : Nat) (vin28 : Bool)
  /-- TABLE_STEP_WAIT_MET (R348): A step's VOFF or TIME wait is met and the vault moves to the next step. -/
  | tableStepWaitMet (ts : Nat)
  /-- TABLE_STUCK (R349): A step's LIMIT elapses before its wait is met; TABLE_STUCK or BLIND is recorded and the next
  step begins. -/
  | tableStuck (ts : Nat)
  /-- TABLE_CRC_CHECK (R343): Every 10 ms the vault checks its table copy and on mismatch switches to the fallback
  table. -/
  | tableCrcCheck (ts : Nat) (bad : Bool)
  /-- EXTERNAL_ASSERTION (R366): FLT_N stays low for 1.0 us while the vault does not pull it and an external assertion
  is accepted. -/
  | externalAssertion (ts : Nat) (low : Bool)
  /-- DWELL_PUBLISH (R374): A dwell completes and its result is published to MEAS, INJRES or DIAGRES and the
  statistics. `settle` and `codes` are the 14-bit codes of its settling samples and of its averaging window, `temp` the temperature of channel 11 in 0.1 C. -/
  | dwellPublish (ts : Nat) (c : Fin 6) (settle codes : List Nat) (temp : Int)
  /-- TRIGGER_ACCEPT (R383): A converter accepts a trigger, abandons the dwell in progress and starts the injected
  operation. -/
  | triggerAccept (ts : Nat) (c : Fin 6) (raw : List Nat)
  /-- INJECTED_OPERATION_END (R387): An injected dwell or burst ends, the capture completes and the scan resumes with
  the abandoned slot. -/
  | injectedOperationEnd (ts : Nat) (c : Fin 6) (raw : List Nat)
  /-- PENDING_TRIGGER_SERVE (R387): The full scan after an injected operation ends and the pending trigger is served. -/
  | pendingTriggerServe (ts : Nat) (c : Fin 6) (raw : List Nat)
  /-- INTERNAL_DWELL_SERVE (R388): A converter serves its waiting internal request for diagnosis, open-wire test or
  probe. -/
  | internalDwellServe (ts : Nat) (c : Fin 6) (raw : List Nat)
  /-- CALIBRATION_BEGIN (R395): Pending operations complete and the converter begins its 1.20 ms self-calibration. -/
  | calibrationBegin (ts : Nat) (c : Fin 6) (raw : List Nat)
  /-- CALIBRATION_END (R398): Calibration ends, factors are replaced or CAL_FAIL declared, and the pending trigger and
  scan resume. -/
  | calibrationEnd (ts : Nat) (c : Fin 6) (fs : List Nat) (temp : Int)
  /-- PLAUSIBILITY_DWELL (R401): Every 10 ms each converter runs a background dwell and judges it, declaring
  CONV_PLAUS outside its limit. -/
  | plausibilityDwell (ts : Nat) (c : Fin 6)
  /-- OPEN_WIRE_SETTLE (R405): An OWSET settling time of the open-wire test expires and its next dwell or source
  change follows. -/
  | openWireSettle (ts : Nat) (c : Fin 6)
  /-- OPEN_WIRE_END (R406): The open-wire test ends, DP and DN are set and OPEN_P, OPEN_N and OPEN_SENSE are judged. -/
  | openWireEnd (ts : Nat) (c : Fin 6)
  /-- SLOW_SCAN_TICK (R410): Every 10 ms in WATCH the converters power up and run one slow scan. -/
  | slowScanTick (ts : Nat)
  /-- STATS_INTERVAL (R445): At each interval boundary the statistics of all 48 rails are written and their SEQ
  incremented. -/
  | statsInterval (ts : Nat)
  /-- COMPARATOR_CROSSING (R418): A window comparator's live output follows a crossing of its level. `level` is the input at the sense pair in uV. -/
  | comparatorCrossing (ts : Nat) (n : Fin 48) (ov : Bool) (level : Int)
  /-- WINDOW_SAMPLE (R424): In WATCH each comparator output is sampled 2.0 us after the close and OV or UV may be
  declared. `levels` are the inputs of the 48 rails in uV. -/
  | windowSample (ts : Nat) (levels : List Int)
  /-- WINDOW_TEST_STEP (R426): A timed step of a window test ends and its comparator is judged, declaring WIN_TEST on
  failure. `shows` is what the comparator under test shows. -/
  | windowTestStep (ts : Nat) (n : Fin 48) (shows : Bool)
  /-- TDAC_RESTORE_SETTLED (R429): The test DAC code is restored after a test and has settled for 5 us. -/
  | tdacRestoreSettled (ts : Nat) (c : Fin 6)
  /-- FBMON_SAMPLE (R452): Each microsecond the feedback monitor samples FBP/FBN and publishes FBMON. -/
  | fbmonSample (ts : Nat) (n : Fin 8) (fb : Nat)
  /-- PHASE_MONITOR_SAMPLE (R466): Each microsecond every mapped ISNS is sampled and IMEAS and ITOT updated. -/
  | phaseMonitorSample (ts : Nat) (codes : List Nat)
  /-- ON_TIME_REQUEST (R459): The feedback falls below reference plus ramp and an on-time starts on the next
  qualifying phase. `fb` is V_FB in uV, `amps` the currents of the 24 phases in mA. -/
  | onTimeRequest (ts : Nat) (n : Fin 8) (fb : Nat) (amps : List Int)
  /-- ON_TIME_END (R456): A phase's on-time ends at t_on or at the peak limit and its off-time begins. `amp` is the phase's current in mA. -/
  | onTimeEnd (ts : Nat) (p : Fin 24) (amp : Int)
  /-- RAMP_COMPLETE (R463): The soft-start reference reaches its target and the ramp is complete. -/
  | rampComplete (ts : Nat) (n : Fin 8)
  /-- SOFT_STOP_END (R464): The soft-stop reference reaches 0 and every phase goes to mid-level. -/
  | softStopEnd (ts : Nat) (n : Fin 8)
  /-- SHORT_SS (R469): The short condition with current limit holds for 50 us during the ramp and the controller holds
  its phases. -/
  | shortSs (ts : Nat) (n : Fin 8)
  /-- OC (R469): Current limit holds for OCT after the ramp and the controller holds its phases. -/
  | oc (ts : Nat) (n : Fin 8)
  /-- STAGE_FLT (R469): A mapped phase's TSNS lies above 2.50 V for 2 us and the controller holds its phases. -/
  | stageFlt (ts : Nat) (p : Fin 24)
  /-- STAGE_OT (R474): A phase reading above SHUT for 8 readings trips SHUT and the controller holds its phases. -/
  | stageOt (ts : Nat) (p : Fin 24)
  /-- STAGE_OTW (R474): A phase reading above WARN for 8 readings trips WARN. -/
  | stageOtw (ts : Nat) (p : Fin 24)
  /-- PHASE_OPEN (R470): A phase reports below 10 % of the mean for 100 us at load and is excluded or declared
  dangerous. -/
  | phaseOpen (ts : Nat) (p : Fin 24)
  /-- ISNS_FAIL (R470): A phase's ISNS lies out of range for 10 samples or stuck over 1,000 cycles and is excluded. -/
  | isnsFail (ts : Nat) (p : Fin 24)
  /-- TSNS_FAIL (R475): A phase's TSNS lies below 0.10 V or out of range for 8 readings and its reading is
  substituted. -/
  | tsnsFail (ts : Nat) (p : Fin 24)
  /-- IMBAL (R476): A phase deviates beyond IMBTHR for 8 consecutive milliseconds and IMBAL is declared. -/
  | imbal (ts : Nat) (n : Fin 8)
  /-- MARGIN_DAC_STEP (R484): Every MDSTEP microseconds the present DAC code moves one code towards TARGET unless the
  guard holds it. -/
  | marginDacStep (ts : Nat) (m : Fin 16)
  /-- HEALTH_CHECKPOINT (R497): Every 60 s of operation the open day's accumulator is written to the ledger. -/
  | healthCheckpoint (ts : Nat)
  /-- HEALTH_DAY_CLOSE (R493): The open day reaches 86,400 s, its 48 records are written and a new day opens. -/
  | healthDayClose (ts : Nat)
  /-- FIRST_FAULT_COMMIT (R515): The folio body is committed to the ledger and FFFULL set. -/
  | firstFaultCommit (ts : Nat)
  /-- JOURNAL_WRITE (R526): A queued record is written to the journal ring at the head. -/
  | journalWrite (ts : Nat)
  /-- SCRUB_READ (R508): The background scrub reads a ledger word, correcting or reporting ECC errors. -/
  | scrubRead (ts : Nat) (e : Ecc)
  /-- RAM_SCRUB (R570): Each second the teller RAMs are scrubbed, correcting single-bit errors under R179. -/
  | ramScrub (ts corrected : Nat) (ibad dbad : List Nat)
  /-- ARCHIVE_COMMIT_END (R534): An archive commit finishes writing buffers, header and fill copies. -/
  | archiveCommitEnd (ts : Nat)
  /-- PROBE_START (R549): A waiting error probe takes its path and test DAC and starts. -/
  | probeStart (ts : Nat) (path : Path)
  /-- PROBE_END (R548): A probe ends and its verdict is written to the folio, journal and any PROBE instruction. -/
  | probeEnd (ts : Nat) (path : Path) (bad : Nat) (found : List Int)
  /-- VAULT_CLOCK_WINDOW (R558): Each 400 vault cycles the vault counts REFCLK edges in the window. -/
  | vaultClockWindow (ts count : Nat)
  /-- CLOCK_XCHK (R558): Two consecutive windows out of 243-257 declare the dangerous fault CLOCK_XCHK. -/
  | clockXchk (ts : Nat)
  /-- MAIN_STOP (R559): No close pulse arrives for 3 close periods, or the PLL loses lock, and MAIN_STOP is declared. -/
  | mainStop (ts : Nat) (unlock : Bool)
  /-- VCORE_FAIL (R561): VCORE stays outside its window for 2 us; the vault holds the main region in reset and starts
  the table. -/
  | vcoreFail (ts : Nat) (above : Bool)
  /-- VVLT_FAIL (R562): VVLT stays outside its window for 2 us; the main region fast-offs every rail and asserts every
  RSTO. -/
  | vvltFail (ts : Nat) (above : Bool)
  /-- REF_COMPARE (R563): Once per millisecond the vault compares the main reference with its own. -/
  | refCompare (ts : Nat) (dev : Int)
  /-- REF_XCHK (R563): Two consecutive comparisons differ by more than 1.5 % and REF_XCHK is declared. -/
  | refXchk (ts : Nat)
  /-- GRADIENT (R564): Die sensors differ by more than 30.0 C for 8 consecutive readings and GRADIENT is declared. -/
  | gradient (ts : Nat)
  /-- OUT_MISMATCH (R566): A claimed output differs from its commanded level for 10 us and OUT_MISMATCH is declared. -/
  | outMismatch (ts code : Nat)
  /-- LATENT_TEST_START (R570): The latent interval brings the next window, converter or phase test of the round. -/
  | latentTestStart (ts : Nat) (k : LatKind)
  /-- LATENT_FLT_PULSE (R570): At each LATFLT interval the vault pulses FLT_N low for 0.5 us and checks the pin. -/
  | latentFltPulse (ts : Nat) (low : Bool)
  /-- LATENT_LATE (R572): A latent test has not completed within twice its interval and LATENT_LATE is journalled. -/
  | latentLate (ts : Nat) (k : LatKind)
  /-- POWER_ENTRY_MONITOR_SAMPLE (R49): Every 10 us the power-entry monitor converts VIN/32 and HOLD/32, updating
  PWR.VIN and PWR.HOLDV with a new SEQ and VALID. -/
  | powerEntryMonitorSample (ts vin hold vsup : Nat)
  /-- CHARGER_MODE_CHANGE (R60): HOLD reaches VCV or VIN falls below VCV plus 3.0 V, and the charger passes between
  CC, CV and DROPOUT, changing PWR.STATUS.CHG. -/
  | chargerModeChange (ts : Nat)
  /-- VSUP_RECOVER (R56): VSUP rises back to 11.0 V or above while VIN or HOLD stays above 8 V, and the pre-regulator
  again regulates VDD5. -/
  | vsupRecover (ts : Nat)
  /-- VDD1V8_OUT_OF_WINDOW (R697): VDD1V8 leaves or re-enters its 1.67-1.93 V window, and the ledger controller stops
  or resumes beginning word writes. -/
  | vdd1v8OutOfWindow (ts : Nat) (ok : Bool) (torn : Option Nat)
  /-- DEM_ZERO_CURRENT (R460): A phase's current report crosses 0 A, or -IDIS in the discharge state, and its PWM goes
  to mid-level or drives low again. -/
  | demZeroCurrent (ts : Nat) (p : Fin 24)
  /-- TAP_INSTRUCTION (R688): The test access port loads a new instruction, selecting EXTEST, SAMPLE/PRELOAD, HIGHZ or
  BYPASS. `cells` is what the port shifts into the boundary register under EXTEST or SAMPLE/PRELOAD (R690; log entry
  34). -/
  | tapInstruction (ts : Nat) (code : BitVec 4) (cells levels : BitVec 239)
  /-- TEST_LOGIC_RESET (R689): The TAP enters Test-Logic-Reset by TRST_N or TMS, selects BYPASS and returns every pin
  to the state of R681 within 1 us. -/
  | testLogicReset (ts : Nat)
  /-- IGNORED_CAN_FRAME (R636): A frame that is not a request to door D, such as a classical or remote frame, is
  acknowledged as ISO 11898-1 requires and, where the door table says so, counted. -/
  | ignoredCanFrame (ts : Nat) (counted : Bool)
  /-- ERROR_FRAME (R636): An error frame on the bus is taken part in and counted, moving door D's error counters
  towards error passive or bus-off. -/
  | errorFrame (ts : Nat) (transmits heavy : Bool)
  /-- CAN_BUS_INTEGRATION (R644): After a DPROT.CAN change takes effect, door D sees 11 recessive bits and integrates
  to the bus again. -/
  | canBusIntegration (ts : Nat)
  /-- DOOR_C_STRAY_READ (R635): A read of door C's address that does not follow the write part of a process call
  returns 0xFF bytes and is counted as abandoned. -/
  | doorCStrayRead (ts : Nat)
deriving DecidableEq, Repr

end Sys2Proof
end

