-- ==== Sys2Proof/Decode.lean ====
section
/-! DEFINITION. Decoding of the table's words. The device is a block: spec/opcode_table.json gives no row any bits, so no
word spells a command. (The words of the tellers' instruction RAM are decoded by Machine/Operands.lean, the frames of the
doors by Machine/Doors.lean.) -/

namespace Sys2Proof

/-- The command that a word of the table spells: none, since no row gives bits. -/
def decodeTableWord (_nbits _w : Nat) : Option Instr := none

end Sys2Proof
end

