-- ==== Sys2Proof/Config.lean ====
section
/-! DEFINITION. What the spec leaves open: opaque constants, with no body, so that no proof can see a value. -/

namespace Sys2Proof

/-- A free 32-bit value: applied to the state's counter of free values (the model's own field). Used where the spec
leaves a value to the silicon (log entries 9 and 20). -/
opaque Config.freeWord : Nat → Word

/-- R85: the rate of the vault's oscillator since an alignment of the shadow count: the model uses it within 2 % of
1,000,000 (log entry 36). -/
opaque Config.vaultRate : Nat → Nat

/-- R376: the corrected code of a sample, in units of 1/65536 code, from the 14-bit code, the offset and gain of the channel's
range (CALF0-CALF3, CALF4-CALF7) and the eight stage weights (CALF8-CALF15). The spec names the factors and their formats and
gives no formula for their use (log entry 39). `set` is where the applied calibration set differs from the factory's (R660). -/
opaque Config.corr (set : List (Nat × Byte)) (code offset gain : Nat) (weights : List Nat) : Int

/-- R662: the level, in uV, at which a threshold DAC of a rail finds its input with a calibration set that is not the factory's: "the
coding of each trim inside its section is Naletra's" (R658), so the level is open (log entry 39). -/
opaque Config.trimmed (set : List (Nat × Byte)) (rail : Nat) (ov : Bool) (level : Int) : Int

/-- R705: how long the crystal oscillator takes to run from an instant on, which the model cuts to 0.4 ms (log entry 36). -/
opaque Config.oscNs : Nat → Nat

/-- R649: how long after one register of an RREG the next is read, in ns, from the instant of the first and the next one's place: "each
at its own instant" (log entry 25). -/
opaque Config.readGap : Nat → Nat → Nat

/-- A free 32-bit value that a read of an uncorrectable word gives, from its window address and what was last written there: the
same at every read (log entry 20). -/
opaque Config.badWord : Nat → Word → Word

/-- R635: whether the host acknowledges the address byte of an alert response, from its instant (log entry 25). -/
opaque Config.hostAcks : Nat → Bool

/-- R506: whether a word write that a loss of power interrupts, and that leaves no uncorrectable word, leaves the new value; applied
to the state's counter of free values (log entry 13). -/
opaque Config.tornNew : Nat → Bool

/-- R506: whether the fall of VCORE leaves the word in progress uncorrectable (log entry 13). -/
opaque Config.tornBad : Nat → Bool

/-- R511: how many words of a door's write or of a commit stand in the array as the supply fails (log entry 13). -/
opaque Config.written : Nat → Nat

/-- A free byte, applied to the writes of its copy so far and the ledger address: the layout of the checkpoint copies of
R501 "is not part of the interface", so the bytes that stand there are open (log entry 9). -/
opaque Config.freeByte : Nat → Nat → Byte

end Sys2Proof
end

