-- ==== Sys2Proof/Machine/Bytes.lean ====
section
/-! DEFINITION. Byte order (R6), signed fields (R7) and the CRC of R287. -/

namespace Sys2Proof.Machine

/-- R6: the `n` bytes of `v`, least significant first. -/
def leBytes (n v : Nat) : List Byte := (List.range n).map (fun i => BitVec.ofNat 8 (v / 256 ^ i))

/-- R6: the number whose bytes, least significant first, are given. -/
def leNat : List Byte → Nat
  | [] => 0
  | b :: bs => b.toNat + 256 * leNat bs

/-- R7: the integer a `w`-bit field `v` stands for. -/
def signed (w v : Nat) : Int := if v < 2 ^ (w - 1) then (v : Int) else (v : Int) - (2 ^ w : Nat)

/-- R7: the `w`-bit field that holds an integer, saturated to the field's range. -/
def toSigned (w : Nat) (i : Int) : Nat :=
  let hi : Int := (2 ^ (w - 1) : Nat) - 1
  let lo : Int := -((2 ^ (w - 1) : Nat) : Int)
  let j := max lo (min hi i)
  (j % (2 ^ w : Nat)).toNat

/-- R287: one bit of the reflected CRC-32. -/
def crcBit (c : Nat) : Nat := if c % 2 = 1 then (c / 2) ^^^ 0xEDB88320 else c / 2

/-- R287: one byte of the reflected CRC-32. -/
def crcByte (c : Nat) (b : Byte) : Nat :=
  crcBit (crcBit (crcBit (crcBit (crcBit (crcBit (crcBit (crcBit (c ^^^ b.toNat))))))))

/-- R287: the remainder after some bytes; matching on it makes each step's value a numeral before the next. -/
def crcOver : List Byte → Nat → Nat
  | [], c => c
  | b :: bs, c =>
    match crcByte c b with
    | 0 => crcOver bs 0
    | n + 1 => crcOver bs (n + 1)

/-- R287: CRC-32, polynomial 0x04C1_1DB7 reflected, initial value and final XOR 0xFFFF_FFFF. -/
def crc32 (bs : List Byte) : Nat := crcOver bs 0xFFFFFFFF ^^^ 0xFFFFFFFF

/-- Saturating addition at an all-ones field of `w` bits. -/
def satAdd (w v d : Nat) : Nat := min (2 ^ w - 1) (v + d)

end Sys2Proof.Machine
end

