-- ==== Sys2Proof/Machine/RegMap.lean ====
section
/-! DEFINITION. The register map (R646-R657): every register the index of R657 lists, with the fields of its field
map (low bit, width, reset value, access code of R8, stated range), and a name `F.<REGISTER>_<FIELD>` for each field
the model reads or writes. -/

namespace Sys2Proof.Machine

/-- R8: the access codes of a field. -/
inductive Access where
  | ro | rw | wc | wo | rwl | rwo
deriving DecidableEq, Repr

/-- The stated range of a writable field (check 3 of R599): every value, a span, 0 or a span, or a signed span
symmetric about 0 (R7). -/
inductive Rng where
  | any
  | span (lo hi : Nat)
  | zeroOr (lo hi : Nat)
  | signed (m : Nat)
deriving DecidableEq, Repr

/-- One row of a field map. -/
structure FInfo where
  lo  : Nat
  w   : Nat
  rst : Nat
  acc : Access
  rng : Rng
deriving DecidableEq, Repr

/-- Whether a value `v` of a field of width `w` lies in its stated range. -/
def Rng.ok (w v : Nat) : Rng → Bool
  | .any => true
  | .span a b => decide (a ≤ v) && decide (v ≤ b)
  | .zeroOr a b => decide (v = 0) || (decide (a ≤ v) && decide (v ≤ b))
  | .signed m => decide (v ≤ m) || decide (2 ^ w ≤ v + m)

/-- A field of a register: register number, low bit, width. -/
structure Fld where
  reg : Nat
  lo  : Nat
  w   : Nat
deriving DecidableEq, Repr

/-- The key under which the state holds a field. -/
def Fld.key (f : Fld) : Nat := f.reg * 32 + f.lo

/-- R657: the registers of block RAIL (part 1), by offset, with their fields' low bit, width, reset, access and stated range. -/
def railRegs1 : List (Nat × List FInfo) := [
  (0x00, [⟨0, 1, 0, .rwl, .any⟩, ⟨1, 1, 0, .rwo, .any⟩, ⟨2, 2, 1, .rwo, .any⟩, ⟨4, 1, 1, .rwo, .any⟩, ⟨5, 1, 0, .rwo, .any⟩, ⟨6, 1, 0, .rwo, .any⟩, ⟨7, 1, 1, .rwo, .any⟩, ⟨8, 1, 0, .rwl, .any⟩]),  -- CFG
  (0x01, [⟨0, 3, 0, .ro, .any⟩, ⟨3, 2, 0, .ro, .any⟩, ⟨5, 1, 0, .ro, .any⟩, ⟨6, 1, 0, .ro, .any⟩, ⟨7, 1, 0, .ro, .any⟩, ⟨8, 1, 0, .ro, .any⟩, ⟨9, 4, 0, .ro, .any⟩]),  -- STATE
  (0x02, [⟨0, 14, 20, .rwo, .span 1 10000⟩, ⟨14, 10, 10, .rwo, .span 1 1000⟩, ⟨24, 8, 20, .rwo, .span 1 255⟩]),  -- TIMING
  (0x03, [⟨0, 10, 20, .rwo, .span 1 1000⟩, ⟨10, 5, 0, .rwl, .span 0 20⟩, ⟨16, 4, 3, .rwo, .span 1 15⟩, ⟨20, 10, 10, .rwo, .span 1 1000⟩]),  -- FILT
  (0x04, [⟨0, 32, 0, .rwl, .any⟩]),  -- GATEL
  (0x05, [⟨0, 16, 0, .rwl, .any⟩]),  -- GATEH
  (0x06, [⟨0, 2, 1, .rwl, .any⟩, ⟨2, 2, 1, .rwl, .any⟩, ⟨4, 2, 1, .rwl, .any⟩, ⟨6, 2, 1, .rwl, .any⟩, ⟨8, 2, 0, .rwl, .any⟩]),  -- REACT
  (0x07, [⟨0, 20, 0xbb8, .rwo, .any⟩]),  -- VOFF
  (0x08, [⟨0, 1, 0, .wc, .any⟩, ⟨1, 1, 0, .wc, .any⟩, ⟨2, 1, 0, .wc, .any⟩, ⟨3, 1, 0, .wc, .any⟩, ⟨4, 1, 0, .wc, .any⟩, ⟨5, 1, 0, .wc, .any⟩, ⟨6, 1, 0, .wc, .any⟩, ⟨7, 1, 0, .wc, .any⟩, ⟨8, 1, 0, .wc, .any⟩]),  -- EVENT
  (0x09, [⟨0, 16, 0, .ro, .any⟩, ⟨16, 16, 0, .ro, .any⟩]),  -- COUNT
  (0x0A, [⟨0, 12, 0, .rwo, .any⟩, ⟨12, 14, 0, .rwo, .any⟩, ⟨26, 6, 10, .rwo, .span 1 63⟩]),  -- BUDGET
  (0x0B, [⟨0, 2, 0, .wo, .any⟩]),  -- CMD
  (0x10, [⟨0, 20, 0, .ro, .any⟩, ⟨20, 8, 0, .ro, .any⟩, ⟨28, 1, 0, .ro, .any⟩, ⟨30, 1, 0, .ro, .any⟩, ⟨31, 1, 0, .ro, .any⟩]),  -- MEAS
  (0x18, [⟨0, 20, 0, .rwo, .span 0 1024000⟩]),  -- UVTH
  (0x19, [⟨0, 20, 0xfa00, .rwl, .span 0 1024000⟩]),  -- OVTH
  (0x1A, [⟨0, 3, 2, .rwo, .any⟩, ⟨3, 1, 0, .rwo, .any⟩, ⟨4, 1, 0, .rwo, .any⟩, ⟨5, 1, 0, .rwo, .any⟩, ⟨6, 1, 0, .rwo, .any⟩, ⟨7, 1, 0, .rwo, .any⟩, ⟨8, 1, 0, .rwo, .any⟩, ⟨9, 1, 0, .rwo, .any⟩, ⟨10, 1, 0, .rwo, .any⟩, ⟨11, 4, 0, .rwo, .any⟩, ⟨15, 4, 0, .rwo, .any⟩]),  -- WCFG
  (0x1B, [⟨0, 1, 0, .ro, .any⟩, ⟨1, 1, 0, .ro, .any⟩, ⟨2, 1, 0, .wc, .any⟩, ⟨3, 1, 0, .wc, .any⟩, ⟨4, 10, 0, .ro, .any⟩, ⟨14, 10, 0x3ff, .ro, .any⟩, ⟨24, 1, 0, .ro, .any⟩, ⟨25, 1, 0, .ro, .any⟩, ⟨26, 1, 0, .ro, .any⟩, ⟨27, 1, 0, .wc, .any⟩, ⟨28, 1, 0, .ro, .any⟩, ⟨29, 1, 0, .ro, .any⟩]),  -- WSTATUS
  (0x1C, [⟨0, 16, 0, .ro, .any⟩, ⟨16, 16, 0, .ro, .any⟩]),  -- WCOUNT
  (0x20, [⟨0, 20, 0, .ro, .any⟩, ⟨20, 8, 0, .ro, .any⟩, ⟨30, 1, 0, .ro, .any⟩, ⟨31, 1, 0, .ro, .any⟩]),  -- SMIN
  (0x21, [⟨0, 20, 0, .ro, .any⟩, ⟨20, 8, 0, .ro, .any⟩, ⟨30, 1, 0, .ro, .any⟩, ⟨31, 1, 0, .ro, .any⟩]),  -- SMAX
  (0x22, [⟨0, 20, 0, .ro, .any⟩, ⟨20, 8, 0, .ro, .any⟩, ⟨30, 1, 0, .ro, .any⟩, ⟨31, 1, 0, .ro, .any⟩]),  -- SMEAN
  (0x23, [⟨0, 20, 0, .ro, .any⟩, ⟨20, 8, 0, .ro, .any⟩, ⟨30, 1, 0, .ro, .any⟩, ⟨31, 1, 0, .ro, .any⟩]),  -- SPP
  (0x24, [⟨0, 20, 0, .ro, .any⟩, ⟨20, 8, 0, .ro, .any⟩, ⟨30, 1, 0, .ro, .any⟩, ⟨31, 1, 0, .ro, .any⟩]),  -- SRMS
  (0x25, [⟨0, 24, 0, .ro, .any⟩, ⟨24, 8, 0, .ro, .any⟩])]  -- SCNT

/-- R657: the registers of block RAIL (part 2), by offset, with their fields' low bit, width, reset, access and stated range. -/
def railRegs2 : List (Nat × List FInfo) := [
  (0x26, [⟨0, 16, 0, .ro, .any⟩, ⟨16, 1, 0, .ro, .any⟩, ⟨24, 8, 0, .ro, .any⟩]),  -- SDROOP
  (0x27, [⟨0, 8, 50, .rwo, .span 1 255⟩]),  -- STATCFG
  (0x30, [⟨0, 32, 0, .ro, .any⟩]),  -- WSTAMP0
  (0x31, [⟨0, 32, 0, .ro, .any⟩]),  -- WSTAMP1
  (0x32, [⟨0, 32, 0, .ro, .any⟩]),  -- WSTAMP2
  (0x33, [⟨0, 32, 0, .ro, .any⟩])]  -- WSTAMP3

/-- R657: all of them. -/
def railRegs : List (Nat × List FInfo) := railRegs1 ++ railRegs2

/-- R657: the registers of block SC, by offset, with their fields' low bit, width, reset, access and stated range. -/
def scRegs : List (Nat × List FInfo) := [
  (0x00, [⟨0, 5, 0, .rwl, .span 0 23⟩, ⟨5, 3, 0, .rwl, .span 0 6⟩, ⟨8, 1, 0, .rwl, .any⟩]),  -- MAP
  (0x01, [⟨0, 4, 1, .rwo, .span 1 15⟩, ⟨4, 1, 0, .rwo, .any⟩, ⟨5, 6, 8, .rwo, .span 8 47⟩, ⟨11, 1, 1, .rwo, .any⟩, ⟨12, 1, 1, .rwo, .any⟩, ⟨13, 6, 0, .rwo, .any⟩, ⟨24, 8, 96, .rwo, .span 10 160⟩]),  -- CFG
  (0x02, [⟨0, 15, 0x3e8, .rwo, .span 0 24000⟩]),  -- VOUT
  (0x03, [⟨0, 10, 10, .rwo, .span 1 1000⟩, ⟨10, 10, 10, .rwo, .span 0 1000⟩]),  -- SOFT
  (0x04, [⟨0, 8, 50, .rwo, .span 20 200⟩, ⟨8, 7, 20, .rwo, .span 5 80⟩]),  -- MOD
  (0x05, [⟨0, 10, 100, .rwo, .span 1 1000⟩, ⟨10, 6, 5, .rwo, .span 1 60⟩, ⟨16, 10, 100, .rwo, .span 1 1000⟩]),  -- LIM
  (0x06, [⟨0, 8, 60, .rwo, .span 1 255⟩, ⟨8, 8, 90, .rwo, .span 1 255⟩, ⟨16, 7, 25, .rwo, .span 1 100⟩]),  -- PLIM
  (0x07, [⟨0, 12, 0x4e2, .rwo, .span 0 1750⟩, ⟨12, 12, 0x5dc, .rwo, .span 0 1750⟩, ⟨24, 5, 5, .rwo, .span 1 20⟩]),  -- TEMP
  (0x08, [⟨0, 1, 0, .rwl, .any⟩, ⟨1, 1, 0, .rwl, .any⟩, ⟨2, 1, 0, .rwl, .any⟩, ⟨3, 1, 0, .rwl, .any⟩]),  -- FREACT
  (0x09, [⟨0, 2, 0, .wo, .any⟩]),  -- CTL
  (0x0A, [⟨0, 3, 0, .ro, .any⟩, ⟨3, 1, 0, .ro, .any⟩, ⟨4, 1, 0, .ro, .any⟩, ⟨5, 6, 0, .ro, .any⟩, ⟨11, 1, 0, .ro, .any⟩, ⟨12, 1, 0, .ro, .any⟩, ⟨13, 1, 0, .ro, .any⟩, ⟨14, 2, 0, .ro, .any⟩, ⟨16, 1, 0, .ro, .any⟩, ⟨17, 1, 0, .ro, .any⟩]),  -- STATUS
  (0x0B, [⟨0, 1, 0, .wc, .any⟩, ⟨1, 1, 0, .wc, .any⟩, ⟨2, 1, 0, .wc, .any⟩, ⟨3, 1, 0, .wc, .any⟩, ⟨4, 1, 0, .wc, .any⟩, ⟨5, 1, 0, .wc, .any⟩, ⟨6, 1, 0, .wc, .any⟩, ⟨7, 1, 0, .wc, .any⟩, ⟨8, 1, 0, .wc, .any⟩, ⟨9, 1, 0, .wc, .any⟩, ⟨10, 1, 0, .wc, .any⟩]),  -- EVENT
  (0x0C, [⟨0, 15, 0, .ro, .any⟩, ⟨15, 15, 0, .ro, .any⟩]),  -- REF
  (0x0D, [⟨0, 32, 0, .ro, .any⟩]),  -- ITOT
  (0x0E, [⟨0, 13, 0, .ro, .any⟩, ⟨16, 10, 0, .ro, .any⟩]),  -- TON
  (0x0F, [⟨0, 32, 0, .ro, .any⟩]),  -- FBMON
  (0x10, [⟨0, 9, 0, .rwo, .signed 150⟩])]  -- MRGN

/-- R657: the registers of block PH, by offset, with their fields' low bit, width, reset, access and stated range. -/
def phRegs : List (Nat × List FInfo) := [
  (0x00, [⟨0, 12, 0x258, .rwo, .span 0 1600⟩, ⟨12, 5, 5, .rwo, .span 1 31⟩, ⟨17, 10, 100, .rwo, .span 10 1000⟩]),  -- ICFG
  (0x01, [⟨0, 12, 0x258, .rwo, .span 0 1600⟩, ⟨12, 8, 80, .rwo, .span 1 255⟩]),  -- TCFG
  (0x02, [⟨0, 32, 0, .ro, .any⟩]),  -- IMEAS
  (0x03, [⟨0, 32, 0, .ro, .any⟩]),  -- IAVG
  (0x04, [⟨0, 16, 0, .ro, .any⟩, ⟨16, 1, 0, .ro, .any⟩, ⟨17, 1, 0, .ro, .any⟩, ⟨18, 1, 0, .ro, .any⟩]),  -- TMEAS
  (0x05, [⟨0, 3, 0, .ro, .any⟩, ⟨3, 1, 0, .ro, .any⟩, ⟨4, 2, 0, .ro, .any⟩, ⟨6, 1, 0, .ro, .any⟩, ⟨7, 1, 0, .ro, .any⟩, ⟨8, 1, 0, .ro, .any⟩, ⟨9, 1, 0, .ro, .any⟩]),  -- STATUS
  (0x06, [⟨0, 1, 0, .wc, .any⟩, ⟨1, 1, 0, .wc, .any⟩, ⟨2, 1, 0, .wc, .any⟩, ⟨3, 1, 0, .wc, .any⟩, ⟨4, 1, 0, .wc, .any⟩, ⟨5, 1, 0, .wc, .any⟩])]  -- EVENT

/-- R657: the registers of block CV (part 1), by offset, with their fields' low bit, width, reset, access and stated range. -/
def cvRegs1 : List (Nat × List FInfo) := [
  (0x00, [⟨0, 6, 8, .rwl, .span 4 63⟩, ⟨6, 3, 5, .rwl, .any⟩]),  -- CFG
  (0x01, [⟨0, 4, 0, .ro, .any⟩, ⟨4, 1, 0, .ro, .any⟩]),  -- CHSEL
  (0x02, [⟨0, 3, 0, .ro, .any⟩, ⟨3, 1, 0, .ro, .any⟩, ⟨4, 3, 0, .ro, .any⟩, ⟨7, 1, 0, .ro, .any⟩, ⟨8, 1, 0, .ro, .any⟩, ⟨9, 1, 0, .ro, .any⟩, ⟨10, 1, 0, .ro, .any⟩]),  -- STATUS
  (0x03, [⟨0, 4, 0, .wo, .any⟩, ⟨4, 1, 0, .wo, .any⟩, ⟨8, 1, 0, .wo, .any⟩]),  -- INJCTL
  (0x04, [⟨0, 32, 0, .ro, .any⟩]),  -- INJRES
  (0x05, [⟨0, 16, 0, .ro, .any⟩, ⟨16, 8, 0, .ro, .any⟩]),  -- TRIG
  (0x06, [⟨0, 1, 0, .wo, .any⟩]),  -- CALCTL
  (0x07, [⟨0, 2, 0, .ro, .any⟩, ⟨4, 12, 0, .ro, .any⟩, ⟨16, 16, 0, .ro, .any⟩]),  -- CALSTAT
  (0x08, [⟨0, 12, 0, .rwo, .any⟩]),  -- TDAC
  (0x09, [⟨0, 3, 0, .rwo, .any⟩, ⟨4, 8, 20, .rwo, .span 1 255⟩, ⟨12, 8, 20, .rwo, .span 1 255⟩, ⟨20, 1, 0, .wo, .any⟩]),  -- OWCTL
  (0x0A, [⟨0, 3, 0, .ro, .any⟩, ⟨3, 1, 0, .ro, .any⟩, ⟨4, 1, 0, .ro, .any⟩, ⟨5, 1, 0, .ro, .any⟩, ⟨6, 1, 0, .ro, .any⟩, ⟨8, 8, 0, .ro, .any⟩]),  -- OWRES
  (0x0B, [⟨0, 16, 0, .ro, .any⟩, ⟨16, 16, 0, .ro, .any⟩]),  -- OWDELTA
  (0x0C, [⟨0, 1, 0, .wc, .any⟩, ⟨1, 1, 0, .wc, .any⟩, ⟨2, 1, 0, .wc, .any⟩, ⟨3, 1, 0, .wc, .any⟩, ⟨4, 1, 0, .wc, .any⟩, ⟨5, 1, 0, .wc, .any⟩]),  -- EVENT
  (0x10, [⟨0, 32, 0, .ro, .any⟩]),  -- CALF0
  (0x11, [⟨0, 32, 0, .ro, .any⟩]),  -- CALF1
  (0x12, [⟨0, 32, 0, .ro, .any⟩]),  -- CALF2
  (0x13, [⟨0, 32, 0, .ro, .any⟩]),  -- CALF3
  (0x14, [⟨0, 32, 0, .ro, .any⟩]),  -- CALF4
  (0x15, [⟨0, 32, 0, .ro, .any⟩]),  -- CALF5
  (0x16, [⟨0, 32, 0, .ro, .any⟩]),  -- CALF6
  (0x17, [⟨0, 32, 0, .ro, .any⟩]),  -- CALF7
  (0x18, [⟨0, 32, 0, .ro, .any⟩]),  -- CALF8
  (0x19, [⟨0, 32, 0, .ro, .any⟩]),  -- CALF9
  (0x1A, [⟨0, 32, 0, .ro, .any⟩])]  -- CALF10

/-- R657: the registers of block CV (part 2), by offset, with their fields' low bit, width, reset, access and stated range. -/
def cvRegs2 : List (Nat × List FInfo) := [
  (0x1B, [⟨0, 32, 0, .ro, .any⟩]),  -- CALF11
  (0x1C, [⟨0, 32, 0, .ro, .any⟩]),  -- CALF12
  (0x1D, [⟨0, 32, 0, .ro, .any⟩]),  -- CALF13
  (0x1E, [⟨0, 32, 0, .ro, .any⟩]),  -- CALF14
  (0x1F, [⟨0, 32, 0, .ro, .any⟩]),  -- CALF15
  (0x20, [⟨0, 32, 0, .ro, .any⟩]),  -- DIAGRES0
  (0x21, [⟨0, 32, 0, .ro, .any⟩]),  -- DIAGRES1
  (0x22, [⟨0, 32, 0, .ro, .any⟩]),  -- DIAGRES2
  (0x23, [⟨0, 32, 0, .ro, .any⟩]),  -- DIAGRES3
  (0x24, [⟨0, 32, 0, .ro, .any⟩])]  -- DIAGRES4

/-- R657: all of them. -/
def cvRegs : List (Nat × List FInfo) := cvRegs1 ++ cvRegs2

/-- R657: the registers of block TELLER (part 1), by offset, with their fields' low bit, width, reset, access and stated range. -/
def tellerRegs1 : List (Nat × List FInfo) := [
  (0x00, [⟨0, 3, 0, .rwo, .any⟩, ⟨4, 2, 0, .rwo, .span 0 2⟩, ⟨6, 1, 0, .rwo, .any⟩, ⟨16, 10, 0, .rwo, .span 0 1000⟩]),  -- CFG
  (0x01, [⟨0, 3, 0, .wo, .any⟩]),  -- CTL
  (0x02, [⟨0, 2, 0, .ro, .any⟩, ⟨2, 1, 0, .ro, .any⟩, ⟨3, 1, 0, .ro, .any⟩, ⟨4, 5, 0, .ro, .any⟩, ⟨9, 5, 0, .ro, .any⟩, ⟨14, 7, 0, .ro, .any⟩, ⟨21, 1, 0, .ro, .any⟩]),  -- STATUS
  (0x03, [⟨0, 16, 0, .rwo, .any⟩]),  -- PC
  (0x04, [⟨0, 16, 0, .ro, .any⟩]),  -- ENTRY
  (0x05, [⟨0, 16, 0, .ro, .any⟩]),  -- TRAP
  (0x06, [⟨0, 4, 0, .ro, .any⟩, ⟨16, 16, 0, .ro, .any⟩]),  -- EXCINFO
  (0x07, [⟨0, 8, 0, .ro, .any⟩, ⟨16, 16, 0, .ro, .any⟩]),  -- LASTREF
  (0x08, [⟨0, 32, 0, .rwo, .any⟩]),  -- MBOXIN
  (0x09, [⟨0, 32, 0, .ro, .any⟩]),  -- MBOXOUT
  (0x10, [⟨0, 32, 0, .rwo, .any⟩]),  -- X0
  (0x11, [⟨0, 32, 0, .rwo, .any⟩]),  -- X1
  (0x12, [⟨0, 32, 0, .rwo, .any⟩]),  -- X2
  (0x13, [⟨0, 32, 0, .rwo, .any⟩]),  -- X3
  (0x14, [⟨0, 32, 0, .rwo, .any⟩]),  -- X4
  (0x15, [⟨0, 32, 0, .rwo, .any⟩]),  -- X5
  (0x16, [⟨0, 32, 0, .rwo, .any⟩]),  -- X6
  (0x17, [⟨0, 32, 0, .rwo, .any⟩]),  -- X7
  (0x18, [⟨0, 32, 0, .rwo, .any⟩]),  -- X8
  (0x19, [⟨0, 32, 0, .rwo, .any⟩]),  -- X9
  (0x1A, [⟨0, 32, 0, .rwo, .any⟩]),  -- X10
  (0x1B, [⟨0, 32, 0, .rwo, .any⟩]),  -- X11
  (0x1C, [⟨0, 32, 0, .rwo, .any⟩]),  -- X12
  (0x1D, [⟨0, 32, 0, .rwo, .any⟩])]  -- X13

/-- R657: the registers of block TELLER (part 2), by offset, with their fields' low bit, width, reset, access and stated range. -/
def tellerRegs2 : List (Nat × List FInfo) := [
  (0x1E, [⟨0, 32, 0, .rwo, .any⟩]),  -- X14
  (0x1F, [⟨0, 32, 0, .rwo, .any⟩])]  -- X15

/-- R657: all of them. -/
def tellerRegs : List (Nat × List FInfo) := tellerRegs1 ++ tellerRegs2

/-- R657: the registers of block DOOR, by offset, with their fields' low bit, width, reset, access and stated range. -/
def doorRegs : List (Nat × List FInfo) := [
  (0x00, [⟨0, 1, 0, .ro, .any⟩, ⟨1, 1, 0, .ro, .any⟩, ⟨2, 1, 0, .ro, .any⟩, ⟨3, 1, 0, .ro, .any⟩, ⟨4, 1, 0, .ro, .any⟩, ⟨5, 9, 0, .ro, .any⟩, ⟨14, 6, 0, .ro, .any⟩]),  -- STATUS
  (0x01, [⟨0, 2, 0, .wo, .any⟩]),  -- SCMD
  (0x02, [⟨0, 32, 0, .ro, .any⟩]),  -- SGEN
  (0x03, [⟨0, 32, 0, .ro, .any⟩]),  -- SSTAMP0
  (0x04, [⟨0, 32, 0, .ro, .any⟩]),  -- SSTAMP1
  (0x05, [⟨0, 32, 0, .ro, .any⟩]),  -- SSTAMP2
  (0x06, [⟨0, 32, 0, .ro, .any⟩]),  -- SSTAMP3
  (0x08, [⟨0, 32, 0xffffffff, .rw, .any⟩]),  -- PMASK
  (0x09, [⟨0, 32, 0, .rw, .any⟩]),  -- PVAL
  (0x0A, [⟨0, 16, 0, .wo, .any⟩]),  -- PADD
  (0x0B, [⟨0, 2, 0, .wo, .any⟩]),  -- PCMD
  (0x0C, [⟨0, 2, 0, .ro, .any⟩, ⟨2, 1, 0, .ro, .any⟩, ⟨3, 1, 0, .ro, .any⟩, ⟨8, 8, 0, .ro, .any⟩, ⟨16, 8, 0, .ro, .any⟩, ⟨24, 8, 0, .ro, .any⟩]),  -- PRES
  (0x0D, [⟨0, 16, 0, .ro, .any⟩, ⟨16, 8, 0, .ro, .any⟩, ⟨24, 8, 0, .ro, .any⟩]),  -- WRES
  (0x10, [⟨0, 9, 0, .wc, .any⟩]),  -- ACAUSE
  (0x11, [⟨0, 9, 0x130, .rw, .any⟩])]  -- AEN

/-- R657: the registers of block CAP (part 1), by offset, with their fields' low bit, width, reset, access and stated range. -/
def capRegs1 : List (Nat × List FInfo) := [
  (0x00, [⟨0, 16, 0x400, .rwo, .any⟩, ⟨16, 16, 0, .rwo, .any⟩]),  -- CFG
  (0x01, [⟨0, 2, 0, .wo, .any⟩, ⟨8, 1, 0, .rwo, .any⟩]),  -- CTL
  (0x02, [⟨0, 2, 0, .ro, .any⟩, ⟨2, 1, 0, .ro, .any⟩, ⟨3, 1, 0, .ro, .any⟩, ⟨16, 16, 0, .ro, .any⟩]),  -- STATUS
  (0x03, [⟨0, 17, 0, .ro, .any⟩]),  -- FILL
  (0x04, [⟨0, 16, 0, .ro, .any⟩, ⟨16, 16, 0, .ro, .any⟩]),  -- MISS
  (0x05, [⟨0, 1, 0, .wc, .any⟩, ⟨1, 1, 0, .wc, .any⟩, ⟨2, 1, 0, .wc, .any⟩, ⟨3, 1, 0, .wc, .any⟩]),  -- EVENT
  (0x06, [⟨0, 8, 0, .ro, .any⟩, ⟨8, 2, 0, .ro, .any⟩]),  -- DCOUNT
  (0x08, [⟨0, 16, 0, .ro, .any⟩, ⟨16, 16, 0, .ro, .any⟩]),  -- DPOS.0
  (0x09, [⟨0, 17, 0, .ro, .any⟩, ⟨17, 1, 0, .ro, .any⟩, ⟨18, 1, 0, .ro, .any⟩, ⟨19, 1, 0, .ro, .any⟩, ⟨20, 2, 0, .ro, .any⟩]),  -- DLEN.0
  (0x0A, [⟨0, 3, 0, .ro, .any⟩, ⟨3, 3, 0, .ro, .any⟩, ⟨6, 6, 0, .ro, .any⟩, ⟨12, 1, 0, .ro, .any⟩, ⟨13, 1, 0, .ro, .any⟩, ⟨24, 8, 0, .ro, .any⟩]),  -- DSRC.0
  (0x0C, [⟨0, 32, 0, .ro, .any⟩]),  -- DSTAMP0.0
  (0x0D, [⟨0, 32, 0, .ro, .any⟩]),  -- DSTAMP1.0
  (0x0E, [⟨0, 32, 0, .ro, .any⟩]),  -- DSTAMP2.0
  (0x0F, [⟨0, 32, 0, .ro, .any⟩]),  -- DSTAMP3.0
  (0x10, [⟨0, 16, 0, .ro, .any⟩, ⟨16, 16, 0, .ro, .any⟩]),  -- DPOS.1
  (0x11, [⟨0, 17, 0, .ro, .any⟩, ⟨17, 1, 0, .ro, .any⟩, ⟨18, 1, 0, .ro, .any⟩, ⟨19, 1, 0, .ro, .any⟩, ⟨20, 2, 0, .ro, .any⟩]),  -- DLEN.1
  (0x12, [⟨0, 3, 0, .ro, .any⟩, ⟨3, 3, 0, .ro, .any⟩, ⟨6, 6, 0, .ro, .any⟩, ⟨12, 1, 0, .ro, .any⟩, ⟨13, 1, 0, .ro, .any⟩, ⟨24, 8, 0, .ro, .any⟩]),  -- DSRC.1
  (0x14, [⟨0, 32, 0, .ro, .any⟩]),  -- DSTAMP0.1
  (0x15, [⟨0, 32, 0, .ro, .any⟩]),  -- DSTAMP1.1
  (0x16, [⟨0, 32, 0, .ro, .any⟩]),  -- DSTAMP2.1
  (0x17, [⟨0, 32, 0, .ro, .any⟩]),  -- DSTAMP3.1
  (0x18, [⟨0, 16, 0, .ro, .any⟩, ⟨16, 16, 0, .ro, .any⟩]),  -- DPOS.2
  (0x19, [⟨0, 17, 0, .ro, .any⟩, ⟨17, 1, 0, .ro, .any⟩, ⟨18, 1, 0, .ro, .any⟩, ⟨19, 1, 0, .ro, .any⟩, ⟨20, 2, 0, .ro, .any⟩]),  -- DLEN.2
  (0x1A, [⟨0, 3, 0, .ro, .any⟩, ⟨3, 3, 0, .ro, .any⟩, ⟨6, 6, 0, .ro, .any⟩, ⟨12, 1, 0, .ro, .any⟩, ⟨13, 1, 0, .ro, .any⟩, ⟨24, 8, 0, .ro, .any⟩])]  -- DSRC.2

/-- R657: the registers of block CAP (part 2), by offset, with their fields' low bit, width, reset, access and stated range. -/
def capRegs2 : List (Nat × List FInfo) := [
  (0x1C, [⟨0, 32, 0, .ro, .any⟩]),  -- DSTAMP0.2
  (0x1D, [⟨0, 32, 0, .ro, .any⟩]),  -- DSTAMP1.2
  (0x1E, [⟨0, 32, 0, .ro, .any⟩]),  -- DSTAMP2.2
  (0x1F, [⟨0, 32, 0, .ro, .any⟩]),  -- DSTAMP3.2
  (0x20, [⟨0, 16, 0, .ro, .any⟩, ⟨16, 16, 0, .ro, .any⟩]),  -- DPOS.3
  (0x21, [⟨0, 17, 0, .ro, .any⟩, ⟨17, 1, 0, .ro, .any⟩, ⟨18, 1, 0, .ro, .any⟩, ⟨19, 1, 0, .ro, .any⟩, ⟨20, 2, 0, .ro, .any⟩]),  -- DLEN.3
  (0x22, [⟨0, 3, 0, .ro, .any⟩, ⟨3, 3, 0, .ro, .any⟩, ⟨6, 6, 0, .ro, .any⟩, ⟨12, 1, 0, .ro, .any⟩, ⟨13, 1, 0, .ro, .any⟩, ⟨24, 8, 0, .ro, .any⟩]),  -- DSRC.3
  (0x24, [⟨0, 32, 0, .ro, .any⟩]),  -- DSTAMP0.3
  (0x25, [⟨0, 32, 0, .ro, .any⟩]),  -- DSTAMP1.3
  (0x26, [⟨0, 32, 0, .ro, .any⟩]),  -- DSTAMP2.3
  (0x27, [⟨0, 32, 0, .ro, .any⟩])]  -- DSTAMP3.3

/-- R657: all of them. -/
def capRegs : List (Nat × List FInfo) := capRegs1 ++ capRegs2

/-- R657: the registers of block AG, by offset, with their fields' low bit, width, reset, access and stated range. -/
def agRegs : List (Nat × List FInfo) := [
  (0x00, [⟨0, 16, 0, .rwo, .any⟩, ⟨16, 1, 0, .rwo, .any⟩, ⟨17, 2, 1, .rwo, .span 1 3⟩, ⟨19, 1, 0, .rwo, .any⟩, ⟨20, 1, 0, .rwo, .any⟩])]  -- AG

/-- R657: the registers of block SH, by offset, with their fields' low bit, width, reset, access and stated range. -/
def shRegs : List (Nat × List FInfo) := [
  (0x00, [⟨0, 16, 0, .rwo, .any⟩, ⟨16, 16, 1, .rwo, .any⟩]),  -- WIN
  (0x01, [⟨0, 6, 0, .rwo, .any⟩, ⟨8, 1, 0, .rwo, .any⟩, ⟨9, 1, 0, .rwo, .any⟩, ⟨16, 8, 20, .rwo, .span 1 255⟩])]  -- CTL

/-- R657: the registers of block RSTO, by offset, with their fields' low bit, width, reset, access and stated range. -/
def rstoRegs : List (Nat × List FInfo) := [
  (0x00, [⟨0, 12, 100, .rwo, .span 1 2560⟩, ⟨12, 2, 0, .rwo, .span 0 2⟩, ⟨14, 1, 0, .rwo, .any⟩, ⟨15, 1, 0, .rwo, .any⟩]),  -- CFG
  (0x01, [⟨0, 32, 0, .rwo, .any⟩]),  -- MASKL
  (0x02, [⟨0, 16, 0, .rwo, .any⟩])]  -- MASKH

/-- R657: the registers of block MD, by offset, with their fields' low bit, width, reset, access and stated range. -/
def mdRegs : List (Nat × List FInfo) := [
  (0x00, [⟨0, 6, 0, .rwo, .zeroOr 8 47⟩, ⟨6, 1, 0, .rwo, .any⟩]),  -- CFG
  (0x01, [⟨0, 10, 0, .rwo, .any⟩, ⟨16, 10, 0, .ro, .any⟩, ⟨26, 1, 0, .ro, .any⟩, ⟨27, 1, 0, .ro, .any⟩])]  -- CODE

/-- R657: the registers of block M, by offset, with their fields' low bit, width, reset, access and stated range. -/
def maskRegs : List (Nat × List FInfo) := [
  (0x00, [⟨0, 32, 0, .rwl, .any⟩]),  -- LO
  (0x01, [⟨0, 16, 0, .rwl, .any⟩])]  -- HI

/-- R657: the registers of the fixed blocks (part 1), by number, with their fields' low bit, width, reset, access and stated range. -/
def fixedRegs1 : List (Nat × List FInfo) := [
  (0x00, [⟨0, 8, 78, .ro, .any⟩, ⟨8, 8, 0, .ro, .any⟩, ⟨16, 16, 0x4824, .ro, .any⟩]),  -- ID
  (0x01, [⟨0, 32, 0, .ro, .any⟩]),  -- SYS.IMAGE
  (0x02, [⟨0, 32, 0, .ro, .any⟩]),  -- SYS.BUILD
  (0x03, [⟨0, 32, 0, .ro, .any⟩]),  -- SYS.IMGCRC
  (0x04, [⟨0, 4, 2, .ro, .any⟩, ⟨4, 4, 1, .ro, .any⟩, ⟨8, 1, 0, .ro, .any⟩, ⟨9, 1, 0, .ro, .any⟩, ⟨12, 3, 0, .ro, .any⟩, ⟨16, 1, 0, .ro, .any⟩]),  -- SYS.STATE
  (0x05, [⟨0, 2, 0, .rwo, .span 0 2⟩, ⟨2, 2, 0, .ro, .any⟩, ⟨4, 3, 0, .rwo, .any⟩, ⟨7, 1, 1, .rwo, .any⟩, ⟨8, 1, 0, .ro, .any⟩, ⟨9, 1, 0, .ro, .any⟩, ⟨12, 4, 0, .rwo, .any⟩]),  -- SYS.MODE
  (0x06, [⟨0, 1, 0, .wc, .any⟩, ⟨1, 1, 0, .wc, .any⟩, ⟨2, 4, 0, .wc, .any⟩, ⟨6, 1, 0, .wc, .any⟩, ⟨7, 1, 0, .wc, .any⟩]),  -- SYS.WAKE
  (0x07, [⟨0, 8, 0, .wo, .any⟩]),  -- SYS.RESET
  (0x08, [⟨0, 8, 0, .wo, .any⟩, ⟨8, 1, 0, .ro, .any⟩]),  -- SYS.LOCK
  (0x38, [⟨0, 8, 0, .ro, .any⟩, ⟨8, 8, 0, .ro, .any⟩, ⟨16, 8, 0, .ro, .any⟩]),  -- RSTO.STATUS
  (0x40, [⟨0, 1, 0, .rwo, .any⟩, ⟨1, 1, 0, .rwo, .any⟩, ⟨8, 10, 10, .rwo, .span 0 1000⟩]),  -- CASC.CFG
  (0x41, [⟨0, 32, 0, .rwo, .any⟩]),  -- CASC.MASKL
  (0x42, [⟨0, 16, 0, .rwo, .any⟩]),  -- CASC.MASKH
  (0x43, [⟨0, 1, 0, .ro, .any⟩, ⟨1, 1, 0, .ro, .any⟩, ⟨2, 1, 0, .wc, .any⟩]),  -- CASC.STATUS
  (0xD0, [⟨0, 1, 1, .rwl, .any⟩, ⟨1, 2, 2, .rwl, .any⟩, ⟨3, 3, 2, .rwl, .span 0 4⟩, ⟨8, 6, 48, .rwl, .any⟩]),  -- DPROT.CAN
  (0xD1, [⟨0, 1, 1, .rwl, .any⟩, ⟨1, 1, 1, .rwl, .any⟩, ⟨2, 1, 1, .rwl, .any⟩]),  -- DPROT.SMB
  (0xD2, [⟨0, 3, 0, .ro, .any⟩, ⟨3, 7, 0, .ro, .any⟩]),  -- DPROT.STRAP
  (0x100, [⟨0, 20, 0, .ro, .any⟩, ⟨20, 8, 0, .ro, .any⟩, ⟨31, 1, 0, .ro, .any⟩]),  -- PWR.VIN
  (0x101, [⟨0, 20, 0, .ro, .any⟩, ⟨20, 8, 0, .ro, .any⟩, ⟨31, 1, 0, .ro, .any⟩]),  -- PWR.HOLDV
  (0x102, [⟨0, 1, 0, .ro, .any⟩, ⟨1, 1, 0, .ro, .any⟩, ⟨2, 1, 0, .ro, .any⟩, ⟨3, 2, 0, .ro, .any⟩, ⟨5, 3, 0, .ro, .any⟩, ⟨8, 1, 0, .ro, .any⟩]),  -- PWR.STATUS
  (0x103, [⟨0, 1, 0, .wc, .any⟩, ⟨1, 1, 0, .wc, .any⟩, ⟨2, 1, 0, .wc, .any⟩, ⟨3, 1, 0, .wc, .any⟩, ⟨4, 1, 0, .wc, .any⟩, ⟨5, 1, 0, .wc, .any⟩, ⟨6, 1, 0, .wc, .any⟩]),  -- PWR.EVENT
  (0x104, [⟨0, 10, 0x12c, .rwo, .span 300 700⟩]),  -- PWR.START
  (0x105, [⟨0, 1, 0, .rwo, .any⟩, ⟨8, 8, 20, .rwo, .span 5 200⟩, ⟨16, 10, 0x1b8, .rwo, .span 100 750⟩, ⟨26, 6, 5, .rwo, .span 1 63⟩]),  -- PWR.CHG
  (0x106, [⟨0, 16, 0, .rwl, .any⟩, ⟨16, 10, 140, .rwl, .span 120 700⟩])]  -- PWR.HOLDCFG

/-- R657: the registers of the fixed blocks (part 2), by number, with their fields' low bit, width, reset, access and stated range. -/
def fixedRegs2 : List (Nat × List FInfo) := [
  (0x107, [⟨0, 10, 0x168, .rwo, .span 260 700⟩, ⟨10, 8, 50, .rwo, .span 5 200⟩, ⟨18, 6, 8, .rwo, .span 2 20⟩, ⟨24, 6, 20, .rwo, .span 5 50⟩, ⟨30, 1, 1, .rwo, .any⟩]),  -- PWR.SAG
  (0x200, [⟨0, 32, 0, .ro, .any⟩]),  -- TIME.USECL
  (0x201, [⟨0, 16, 0, .ro, .any⟩]),  -- TIME.USECH
  (0x202, [⟨0, 32, 0, .ro, .any⟩]),  -- TIME.BOOTNO
  (0x208, [⟨0, 2, 0, .rwo, .span 0 2⟩, ⟨2, 2, 0, .rwo, .span 0 2⟩, ⟨4, 4, 1, .rwo, .any⟩, ⟨8, 1, 0, .rwo, .any⟩, ⟨9, 6, 25, .rwo, .span 1 50⟩, ⟨15, 3, 2, .rwo, .span 1 7⟩, ⟨18, 8, 4, .rwo, .any⟩, ⟨26, 6, 4, .rwo, .any⟩]),  -- TALLY.CFG
  (0x209, [⟨0, 16, 0, .rwo, .zeroOr 4 65535⟩]),  -- TALLY.CPR
  (0x20A, [⟨0, 20, 0, .rwo, .any⟩]),  -- TALLY.FBPER
  (0x20B, [⟨0, 32, 0, .ro, .any⟩]),  -- TALLY.REV
  (0x20C, [⟨0, 16, 0, .ro, .any⟩, ⟨16, 3, 0, .ro, .any⟩, ⟨19, 1, 0, .ro, .any⟩, ⟨20, 1, 0, .ro, .any⟩]),  -- TALLY.POS
  (0x20D, [⟨0, 16, 0, .ro, .any⟩]),  -- TALLY.SANGLE
  (0x20E, [⟨0, 25, 0, .ro, .any⟩]),  -- TALLY.PERIOD
  (0x20F, [⟨0, 16, 0, .ro, .any⟩, ⟨16, 8, 0, .ro, .any⟩, ⟨24, 8, 0, .ro, .any⟩]),  -- TALLY.ERR
  (0x210, [⟨0, 1, 0, .wc, .any⟩, ⟨1, 1, 0, .wc, .any⟩, ⟨2, 1, 0, .wc, .any⟩, ⟨3, 1, 0, .wc, .any⟩, ⟨4, 1, 0, .wc, .any⟩, ⟨5, 1, 0, .wc, .any⟩, ⟨6, 1, 0, .wc, .any⟩]),  -- TALLY.EVENT
  (0x228, [⟨0, 16, 0, .wc, .any⟩]),  -- AG.FIRED
  (0x229, [⟨0, 16, 0, .wc, .any⟩]),  -- AG.OVR
  (0x250, [⟨0, 16, 0, .ro, .any⟩]),  -- SH.ACTIVE
  (0x251, [⟨0, 16, 0, .wc, .any⟩]),  -- SH.CAPPED
  (0x1A00, [⟨0, 16, 0, .ro, .any⟩, ⟨16, 16, 0, .ro, .any⟩]),  -- PURSE.INRUSH
  (0x1A01, [⟨0, 12, 100, .rwo, .span 1 4095⟩, ⟨12, 16, 0x190, .rwo, .span 1 65535⟩]),  -- PURSE.INCFG
  (0x1A02, [⟨0, 16, 0, .ro, .any⟩, ⟨16, 16, 0, .ro, .any⟩]),  -- PURSE.HOLD
  (0x1A03, [⟨0, 16, 0x7d0, .rwo, .span 0 20000⟩, ⟨16, 8, 6, .rwo, .any⟩]),  -- PURSE.HOLDCFG
  (0x1A04, [⟨0, 16, 0, .ro, .any⟩, ⟨16, 16, 0, .ro, .any⟩]),  -- PURSE.HEAT
  (0x1A05, [⟨0, 16, 0, .ro, .any⟩, ⟨16, 8, 0, .ro, .any⟩, ⟨24, 1, 0, .ro, .any⟩]),  -- PURSE.HEATHELD
  (0x1A06, [⟨0, 16, 0x8ca, .rwo, .span 0 10000⟩, ⟨16, 16, 0x5dc, .rwo, .span 0 10000⟩])]  -- PURSE.HEATCFG

/-- R657: the registers of the fixed blocks (part 3), by number, with their fields' low bit, width, reset, access and stated range. -/
def fixedRegs3 : List (Nat × List FInfo) := [
  (0x1A07, [⟨0, 1, 0, .wc, .any⟩, ⟨1, 1, 0, .wc, .any⟩, ⟨2, 1, 0, .wc, .any⟩, ⟨3, 1, 0, .wc, .any⟩, ⟨4, 1, 0, .wc, .any⟩]),  -- PURSE.EVENT
  (0x1B00, [⟨0, 1, 0, .ro, .any⟩, ⟨1, 2, 0, .ro, .any⟩, ⟨3, 6, 0, .ro, .any⟩, ⟨9, 1, 0, .ro, .any⟩, ⟨10, 1, 0, .ro, .any⟩]),  -- SHUT.STATUS
  (0x1B01, [⟨0, 8, 0, .wo, .any⟩]),  -- SHUT.CTL
  (0x1B02, [⟨0, 1, 1, .rwl, .any⟩, ⟨1, 1, 0, .rwl, .any⟩]),  -- SHUT.CFG
  (0x1B03, [⟨0, 4, 0, .wc, .any⟩, ⟨4, 1, 0, .wc, .any⟩, ⟨5, 1, 0, .wc, .any⟩, ⟨6, 1, 0, .wc, .any⟩, ⟨7, 1, 0, .wc, .any⟩, ⟨8, 1, 0, .wc, .any⟩]),  -- SHUT.EVENT
  (0x1B04, [⟨0, 2, 0, .ro, .any⟩, ⟨2, 6, 0, .ro, .any⟩, ⟨8, 24, 0, .ro, .any⟩]),  -- SHUT.LAST
  (0x1B05, [⟨0, 1, 1, .ro, .any⟩, ⟨1, 1, 0, .ro, .any⟩, ⟨2, 2, 0, .ro, .any⟩, ⟨4, 1, 0, .wc, .any⟩]),  -- SHUT.FLT
  (0x1C20, [⟨0, 14, 250, .rwl, .span 1 10000⟩, ⟨14, 6, 20, .rwl, .span 5 63⟩, ⟨20, 8, 10, .rwl, .span 1 255⟩]),  -- MG.CFG
  (0x1C21, [⟨0, 6, 0, .ro, .any⟩, ⟨6, 1, 0, .ro, .any⟩, ⟨16, 16, 0, .ro, .any⟩]),  -- MG.STATUS
  (0x1C22, [⟨0, 1, 0, .wc, .any⟩, ⟨1, 1, 0, .wc, .any⟩, ⟨2, 1, 0, .wc, .any⟩, ⟨3, 1, 0, .wc, .any⟩]),  -- MG.EVENT
  (0x1C30, [⟨0, 32, 0, .ro, .any⟩]),  -- HLTH.STATUS
  (0x1C31, [⟨0, 17, 0, .ro, .any⟩]),  -- HLTH.OPEN
  (0x1C32, [⟨0, 1, 0, .wc, .any⟩, ⟨1, 1, 0, .wc, .any⟩, ⟨2, 1, 0, .wc, .any⟩]),  -- HLTH.EVENT
  (0x1D00, [⟨0, 8, 0, .ro, .any⟩, ⟨8, 1, 0, .ro, .any⟩, ⟨9, 1, 0, .ro, .any⟩, ⟨10, 1, 0, .ro, .any⟩, ⟨11, 1, 0, .ro, .any⟩]),  -- LEDG.STATUS
  (0x1D01, [⟨0, 20, 0, .ro, .any⟩]),  -- LEDG.JHEAD
  (0x1D02, [⟨0, 32, 0, .ro, .any⟩]),  -- LEDG.JLAP
  (0x1D03, [⟨0, 16, 0, .ro, .any⟩]),  -- LEDG.JLOST
  (0x1D04, [⟨0, 12, 0, .ro, .any⟩]),  -- LEDG.FFSLOT
  (0x1D05, [⟨0, 2, 0, .wo, .any⟩, ⟨8, 6, 0, .wo, .any⟩]),  -- LEDG.ARCHCTL
  (0x1D06, [⟨0, 25, 0, .ro, .any⟩]),  -- LEDG.ARCHFILL
  (0x1D07, [⟨0, 8, 0, .ro, .any⟩, ⟨8, 8, 0, .ro, .any⟩]),  -- LEDG.ARCHSTAT
  (0x1D08, [⟨0, 16, 0, .ro, .any⟩, ⟨16, 16, 0, .ro, .any⟩]),  -- LEDG.ECC
  (0x1D09, [⟨0, 16, 0, .ro, .any⟩, ⟨16, 7, 0, .ro, .any⟩]),  -- LEDG.SCRUB
  (0x1D0A, [⟨0, 1, 0, .wc, .any⟩, ⟨1, 1, 0, .wc, .any⟩, ⟨2, 1, 0, .wc, .any⟩, ⟨3, 1, 0, .wc, .any⟩, ⟨4, 1, 0, .wc, .any⟩, ⟨5, 1, 0, .wc, .any⟩, ⟨6, 1, 0, .wc, .any⟩, ⟨7, 1, 0, .wc, .any⟩])]  -- LEDG.EVENT

/-- R657: the registers of the fixed blocks (part 4), by number, with their fields' low bit, width, reset, access and stated range. -/
def fixedRegs4 : List (Nat × List FInfo) := [
  (0x1E00, [⟨0, 1, 0, .ro, .any⟩, ⟨1, 5, 0, .ro, .any⟩, ⟨6, 1, 0, .ro, .any⟩, ⟨7, 1, 0, .ro, .any⟩, ⟨8, 1, 0, .ro, .any⟩, ⟨9, 1, 0, .ro, .any⟩]),  -- SAFE.STATUS
  (0x1E01, [⟨0, 2, 0, .rwl, .any⟩, ⟨2, 2, 0, .rwl, .any⟩, ⟨4, 2, 3, .rwl, .any⟩, ⟨8, 8, 60, .rwl, .span 1 240⟩, ⟨16, 8, 60, .rwl, .span 1 240⟩, ⟨24, 8, 60, .rwl, .span 0 240⟩]),  -- SAFE.CFG
  (0x1E02, [⟨0, 1, 0, .wc, .any⟩, ⟨1, 1, 0, .wc, .any⟩, ⟨2, 1, 0, .wc, .any⟩, ⟨3, 1, 0, .wc, .any⟩, ⟨4, 1, 0, .wc, .any⟩, ⟨5, 1, 0, .wc, .any⟩, ⟨6, 1, 0, .wc, .any⟩, ⟨7, 1, 0, .wc, .any⟩, ⟨8, 1, 0, .wc, .any⟩, ⟨9, 1, 0, .wc, .any⟩, ⟨10, 1, 0, .wc, .any⟩, ⟨11, 1, 0, .wc, .any⟩, ⟨12, 1, 0, .wc, .any⟩]),  -- SAFE.EVENT
  (0x1E03, [⟨0, 3, 0, .ro, .any⟩, ⟨3, 8, 0, .ro, .any⟩, ⟨11, 1, 0, .ro, .any⟩, ⟨12, 2, 0, .ro, .any⟩, ⟨14, 8, 0, .ro, .any⟩]),  -- SAFE.PROBE
  (0x1E04, [⟨0, 6, 0, .ro, .any⟩, ⟨8, 8, 0, .ro, .any⟩, ⟨16, 8, 0, .ro, .any⟩, ⟨24, 8, 0, .ro, .any⟩]),  -- SAFE.LATSTAT
  (0x1E05, [⟨0, 16, 0, .ro, .any⟩, ⟨16, 16, 0, .ro, .any⟩]),  -- SAFE.RAMECC
  (0x1E10, [⟨0, 1, 0, .ro, .any⟩, ⟨1, 1, 0, .ro, .any⟩, ⟨2, 1, 0, .ro, .any⟩, ⟨3, 1, 0, .ro, .any⟩, ⟨4, 1, 0, .ro, .any⟩]),  -- VLT.STATUS
  (0x1E11, [⟨0, 9, 0, .ro, .any⟩, ⟨9, 2, 0, .ro, .any⟩]),  -- VLT.CLK
  (0x1E12, [⟨0, 16, 0, .ro, .any⟩]),  -- VLT.REF
  (0x21F0, [⟨0, 14, 0x3e8, .rwo, .span 1 10000⟩]),  -- CAP.STATCFG
  (0x2200, [⟨0, 3, 0, .ro, .any⟩, ⟨3, 3, 0, .ro, .any⟩, ⟨6, 3, 0, .ro, .any⟩, ⟨9, 2, 0, .ro, .any⟩]),  -- THERM.STATUS
  (0x2201, [⟨0, 6, 5, .rwo, .span 1 20⟩, ⟨6, 6, 5, .rwo, .span 1 20⟩, ⟨12, 8, 30, .rwo, .span 1 255⟩, ⟨20, 4, 0, .rwo, .any⟩]),  -- THERM.CFG
  (0x2202, [⟨0, 10, 150, .rwo, .span 1 1000⟩, ⟨10, 10, 200, .rwo, .span 1 1000⟩, ⟨20, 10, 50, .rwo, .span 1 1000⟩]),  -- THERM.THETA
  (0x2203, [⟨0, 12, 0x41a, .rwo, .span 0 1500⟩]),  -- THERM.BOARD
  (0x2204, [⟨0, 4, 0, .wc, .any⟩, ⟨4, 4, 0, .wc, .any⟩, ⟨8, 24, 0, .wc, .any⟩]),  -- THERM.SUBST
  (0x2210, [⟨0, 16, 0, .ro, .any⟩, ⟨16, 1, 0, .ro, .any⟩, ⟨17, 1, 0, .ro, .any⟩]),  -- THERM.SENSOR0
  (0x2211, [⟨0, 16, 0, .ro, .any⟩, ⟨16, 1, 0, .ro, .any⟩, ⟨17, 1, 0, .ro, .any⟩]),  -- THERM.SENSOR1
  (0x2212, [⟨0, 16, 0, .ro, .any⟩, ⟨16, 1, 0, .ro, .any⟩, ⟨17, 1, 0, .ro, .any⟩]),  -- THERM.SENSOR2
  (0x2213, [⟨0, 16, 0, .ro, .any⟩, ⟨16, 1, 0, .ro, .any⟩, ⟨17, 1, 0, .ro, .any⟩]),  -- THERM.SENSOR3
  (0x2214, [⟨0, 16, 0, .ro, .any⟩, ⟨16, 1, 0, .ro, .any⟩, ⟨17, 1, 0, .ro, .any⟩]),  -- THERM.SENSOR4
  (0x2215, [⟨0, 16, 0, .ro, .any⟩, ⟨16, 1, 0, .ro, .any⟩, ⟨17, 1, 0, .ro, .any⟩]),  -- THERM.SENSOR5
  (0x2216, [⟨0, 16, 0, .ro, .any⟩, ⟨16, 1, 0, .ro, .any⟩, ⟨17, 1, 0, .ro, .any⟩]),  -- THERM.SENSOR6
  (0x2217, [⟨0, 16, 0, .ro, .any⟩, ⟨16, 1, 0, .ro, .any⟩, ⟨17, 1, 0, .ro, .any⟩])]  -- THERM.SENSOR7

/-- R657: all of them. -/
def fixedRegs : List (Nat × List FInfo) := fixedRegs1 ++ fixedRegs2 ++ fixedRegs3 ++ fixedRegs4

/-- R646: the blocks of the number space. `fixed` holds the registers with a number of their own. -/
inductive Block where
  | rail | sc | ph | cv | teller | door | cap | ag | sh | rsto | md | mask | fixed
deriving DecidableEq, Repr

/-- R654: from a register number to its block, instance and offset. For `fixed` the offset is the number itself. -/
structure Loc where
  block : Block
  idx   : Nat
  off   : Nat
deriving DecidableEq, Repr

/-- R646: the instance blocks: first number, number past the last, first instance number's base, stride. -/
def blockTable : List (Block × Nat × Nat × Nat) := [
  (.rail, 0x0400, 0x1000, 0x40), (.sc, 0x1000, 0x1300, 0x60), (.ph, 0x1300, 0x1480, 0x10),
  (.cv, 0x1500, 0x1800, 0x80), (.teller, 0x1800, 0x1A00, 0x40), (.door, 0x1F00, 0x2000, 0x40),
  (.mask, 0x2000, 0x2080, 2), (.cap, 0x2100, 0x21F0, 0x28), (.ag, 0x0218, 0x0228, 1),
  (.sh, 0x0230, 0x0250, 2), (.rsto, 0x0020, 0x0038, 3), (.md, 0x1C00, 0x1C20, 2)]

/-- R654: find the instance of a register number. -/
def locate (r : Nat) : Loc :=
  match blockTable.find? (fun b => decide (b.2.1 ≤ r) && decide (r < b.2.2.1)) with
  | some b => ⟨b.1, (r - b.2.1) / b.2.2.2, (r - b.2.1) % b.2.2.2⟩
  | none => ⟨.fixed, 0, r⟩

/-- R657: the table of a block. -/
def blockRegs : Block → List (Nat × List FInfo)
  | .rail => railRegs | .sc => scRegs | .ph => phRegs | .cv => cvRegs | .teller => tellerRegs
  | .door => doorRegs | .cap => capRegs | .ag => agRegs | .sh => shRegs | .rsto => rstoRegs
  | .md => mdRegs | .mask => maskRegs | .fixed => fixedRegs

/-- R647, R657: the fields of a register; none for a number that no field map defines (R10). -/
def fieldsOf (r : Nat) : List FInfo :=
  let l := locate r
  ((blockRegs l.block).lookup l.off).getD []

/-- The reset value of the field at a key (R651); 0 where no field map defines one (R10). -/
def fieldReset (key : Nat) : Nat :=
  match (fieldsOf (key / 32)).find? (fun f => f.lo == key % 32) with
  | some f => f.rst
  | none => 0

/-! Names of the fields. -/

def F.SYS_STATE_CODE : Fld := ⟨0x4, 0, 4⟩
def F.SYS_STATE_BOOTSTEP : Fld := ⟨0x4, 4, 4⟩
def F.SYS_STATE_BANK : Fld := ⟨0x4, 8, 1⟩
def F.SYS_STATE_FALLBACK : Fld := ⟨0x4, 9, 1⟩
def F.SYS_STATE_FAILCAUSE : Fld := ⟨0x4, 12, 3⟩
def F.SYS_STATE_TABLE : Fld := ⟨0x4, 16, 1⟩
def F.SYS_RESET_KEY : Fld := ⟨0x7, 0, 8⟩
def F.SYS_MODE_REQ : Fld := ⟨0x5, 0, 2⟩
def F.SYS_MODE_EFF : Fld := ⟨0x5, 2, 2⟩
def F.SYS_MODE_WTELLER : Fld := ⟨0x5, 4, 3⟩
def F.SYS_MODE_WAKEXIT : Fld := ⟨0x5, 7, 1⟩
def F.SYS_MODE_LIM_HEAT : Fld := ⟨0x5, 8, 1⟩
def F.SYS_MODE_LIM_SAG : Fld := ⟨0x5, 9, 1⟩
def F.SYS_MODE_DOORWAKE : Fld := ⟨0x5, 12, 4⟩
def F.SYS_WAKE_WAKEPIN : Fld := ⟨0x6, 0, 1⟩
def F.SYS_WAKE_WINDOW : Fld := ⟨0x6, 1, 1⟩
def F.SYS_WAKE_DOOR : Fld := ⟨0x6, 2, 4⟩
def F.SYS_WAKE_FAULT : Fld := ⟨0x6, 6, 1⟩
def F.SYS_WAKE_VINLOSS : Fld := ⟨0x6, 7, 1⟩
def F.PWR_VIN_V : Fld := ⟨0x100, 0, 20⟩
def F.PWR_HOLDV_V : Fld := ⟨0x101, 0, 20⟩
def F.PWR_VIN_SEQ : Fld := ⟨0x100, 20, 8⟩
def F.PWR_HOLDV_SEQ : Fld := ⟨0x101, 20, 8⟩
def F.PWR_VIN_VALID : Fld := ⟨0x100, 31, 1⟩
def F.PWR_HOLDV_VALID : Fld := ⟨0x101, 31, 1⟩
def F.PWR_STATUS_STARTOK : Fld := ⟨0x102, 0, 1⟩
def F.PWR_STATUS_VINLOSS : Fld := ⟨0x102, 1, 1⟩
def F.PWR_STATUS_OR_ON : Fld := ⟨0x102, 2, 1⟩
def F.PWR_STATUS_SAG : Fld := ⟨0x102, 3, 2⟩
def F.PWR_STATUS_CHG : Fld := ⟨0x102, 5, 3⟩
def F.PWR_STATUS_VIN_HIGH : Fld := ⟨0x102, 8, 1⟩
def F.PWR_EVENT_VIN_HIGH : Fld := ⟨0x103, 0, 1⟩
def F.PWR_EVENT_SAG1 : Fld := ⟨0x103, 1, 1⟩
def F.PWR_EVENT_SAG2 : Fld := ⟨0x103, 2, 1⟩
def F.PWR_EVENT_CHG_TIMEOUT : Fld := ⟨0x103, 3, 1⟩
def F.PWR_EVENT_HOLD_OV : Fld := ⟨0x103, 4, 1⟩
def F.PWR_EVENT_VDD5_UV : Fld := ⟨0x103, 5, 1⟩
def F.PWR_EVENT_OR_FAIL : Fld := ⟨0x103, 6, 1⟩
def F.PWR_START_VSTART : Fld := ⟨0x104, 0, 10⟩
def F.PWR_CHG_EN : Fld := ⟨0x105, 0, 1⟩
def F.PWR_CHG_ICC : Fld := ⟨0x105, 8, 8⟩
def F.PWR_CHG_VCV : Fld := ⟨0x105, 16, 10⟩
def F.PWR_CHG_TMAX : Fld := ⟨0x105, 26, 6⟩
def F.PWR_HOLDCFG_CAP : Fld := ⟨0x106, 0, 16⟩
def F.PWR_HOLDCFG_VFLOOR : Fld := ⟨0x106, 16, 10⟩
def F.PWR_SAG_SAGV : Fld := ⟨0x107, 0, 10⟩
def F.PWR_SAG_SLOPE : Fld := ⟨0x107, 10, 8⟩
def F.PWR_SAG_DEPTH : Fld := ⟨0x107, 18, 6⟩
def F.PWR_SAG_HYST : Fld := ⟨0x107, 24, 6⟩
def F.PWR_SAG_EN : Fld := ⟨0x107, 30, 1⟩
def F.TIME_USECL_USECL : Fld := ⟨0x200, 0, 32⟩
def F.TIME_USECH_USECH : Fld := ⟨0x201, 0, 16⟩
def F.TIME_BOOTNO_BOOTNO : Fld := ⟨0x202, 0, 32⟩
def F.TALLY_CFG_SRC : Fld := ⟨0x208, 0, 2⟩
def F.TALLY_CFG_EDGE : Fld := ⟨0x208, 2, 2⟩
def F.TALLY_CFG_FILT : Fld := ⟨0x208, 4, 4⟩
def F.TALLY_CFG_DIRINV : Fld := ⟨0x208, 8, 1⟩
def F.TALLY_CFG_SYNCTOL : Fld := ⟨0x208, 9, 6⟩
def F.TALLY_CFG_FLYN : Fld := ⟨0x208, 15, 3⟩
def F.TALLY_CFG_IDXTOL : Fld := ⟨0x208, 18, 8⟩
def F.TALLY_CFG_QERRMAX : Fld := ⟨0x208, 26, 6⟩
def F.TALLY_CPR_CPR : Fld := ⟨0x209, 0, 16⟩
def F.TALLY_FBPER_FBPER : Fld := ⟨0x20A, 0, 20⟩
def F.TALLY_REV_REV : Fld := ⟨0x20B, 0, 32⟩
def F.TALLY_POS_ANGLE : Fld := ⟨0x20C, 0, 16⟩
def F.TALLY_POS_STATE : Fld := ⟨0x20C, 16, 3⟩
def F.TALLY_POS_REVDIR : Fld := ⟨0x20C, 19, 1⟩
def F.TALLY_POS_SYNTH : Fld := ⟨0x20C, 20, 1⟩
def F.TALLY_SANGLE_SANGLE : Fld := ⟨0x20D, 0, 16⟩
def F.TALLY_PERIOD_T : Fld := ⟨0x20E, 0, 25⟩
def F.TALLY_ERR_QERR : Fld := ⟨0x20F, 0, 16⟩
def F.TALLY_ERR_INDEX : Fld := ⟨0x20F, 16, 8⟩
def F.TALLY_ERR_SYNCJUMP : Fld := ⟨0x20F, 24, 8⟩
def F.TALLY_EVENT_LOCK : Fld := ⟨0x210, 0, 1⟩
def F.TALLY_EVENT_FLY : Fld := ⟨0x210, 1, 1⟩
def F.TALLY_EVENT_LOST : Fld := ⟨0x210, 2, 1⟩
def F.TALLY_EVENT_INDEX_ERR : Fld := ⟨0x210, 3, 1⟩
def F.TALLY_EVENT_QERR : Fld := ⟨0x210, 4, 1⟩
def F.TALLY_EVENT_SYNCJUMP : Fld := ⟨0x210, 5, 1⟩
def F.TALLY_EVENT_WRAP : Fld := ⟨0x210, 6, 1⟩
def F.AG_TARGET (n : Nat) : Fld := ⟨0x218 + 1 * n, 0, 16⟩
def F.AG_EN (n : Nat) : Fld := ⟨0x218 + 1 * n, 16, 1⟩
def F.AG_DIR (n : Nat) : Fld := ⟨0x218 + 1 * n, 17, 2⟩
def F.AG_FB (n : Nat) : Fld := ⟨0x218 + 1 * n, 19, 1⟩
def F.AG_ONCE (n : Nat) : Fld := ⟨0x218 + 1 * n, 20, 1⟩
def F.AG_FIRED_FIRED : Fld := ⟨0x228, 0, 16⟩
def F.AG_OVR_OVR : Fld := ⟨0x229, 0, 16⟩
def F.SH_WIN_START (n : Nat) : Fld := ⟨0x230 + 2 * n, 0, 16⟩
def F.SH_WIN_END (n : Nat) : Fld := ⟨0x230 + 2 * n, 16, 16⟩
def F.SH_CTL_MASK (n : Nat) : Fld := ⟨0x231 + 2 * n, 0, 6⟩
def F.SH_CTL_EN (n : Nat) : Fld := ⟨0x231 + 2 * n, 8, 1⟩
def F.SH_CTL_FB (n : Nat) : Fld := ⟨0x231 + 2 * n, 9, 1⟩
def F.SH_CTL_MAXT (n : Nat) : Fld := ⟨0x231 + 2 * n, 16, 8⟩
def F.SH_ACTIVE_ACTIVE : Fld := ⟨0x250, 0, 16⟩
def F.SH_CAPPED_CAPPED : Fld := ⟨0x251, 0, 16⟩
def F.RAIL_CFG_USED (n : Nat) : Fld := ⟨0x400 + 64 * n, 0, 1⟩
def F.RAIL_CFG_CLAIM (n : Nat) : Fld := ⟨0x400 + 64 * n, 1, 1⟩
def F.RAIL_CFG_RANGE (n : Nat) : Fld := ⟨0x400 + 64 * n, 2, 2⟩
def F.RAIL_CFG_ENPOL (n : Nat) : Fld := ⟨0x400 + 64 * n, 4, 1⟩
def F.RAIL_CFG_ENMODE (n : Nat) : Fld := ⟨0x400 + 64 * n, 5, 1⟩
def F.RAIL_CFG_PGUSE (n : Nat) : Fld := ⟨0x400 + 64 * n, 6, 1⟩
def F.RAIL_CFG_PGPOL (n : Nat) : Fld := ⟨0x400 + 64 * n, 7, 1⟩
def F.RAIL_CFG_SEQINREQ (n : Nat) : Fld := ⟨0x400 + 64 * n, 8, 1⟩
def F.RAIL_STATE_CODE (n : Nat) : Fld := ⟨0x401 + 64 * n, 0, 3⟩
def F.RAIL_STATE_OUT (n : Nat) : Fld := ⟨0x401 + 64 * n, 3, 2⟩
def F.RAIL_STATE_INWIN (n : Nat) : Fld := ⟨0x401 + 64 * n, 5, 1⟩
def F.RAIL_STATE_GATEOK (n : Nat) : Fld := ⟨0x401 + 64 * n, 6, 1⟩
def F.RAIL_STATE_WAITVIN (n : Nat) : Fld := ⟨0x401 + 64 * n, 7, 1⟩
def F.RAIL_STATE_WAITPURSE (n : Nat) : Fld := ⟨0x401 + 64 * n, 8, 1⟩
def F.RAIL_STATE_FAULT (n : Nat) : Fld := ⟨0x401 + 64 * n, 9, 4⟩
def F.RAIL_TIMING_QUAL (n : Nat) : Fld := ⟨0x402 + 64 * n, 0, 14⟩
def F.RAIL_TIMING_RISETO (n : Nat) : Fld := ⟨0x402 + 64 * n, 14, 10⟩
def F.RAIL_TIMING_FALLTO (n : Nat) : Fld := ⟨0x402 + 64 * n, 24, 8⟩
def F.RAIL_FILT_UVFILT (n : Nat) : Fld := ⟨0x403 + 64 * n, 0, 10⟩
def F.RAIL_FILT_OVFILT (n : Nat) : Fld := ⟨0x403 + 64 * n, 10, 5⟩
def F.RAIL_FILT_CHAT_N (n : Nat) : Fld := ⟨0x403 + 64 * n, 16, 4⟩
def F.RAIL_FILT_CHAT_W (n : Nat) : Fld := ⟨0x403 + 64 * n, 20, 10⟩
def F.RAIL_GATEL_GATEL (n : Nat) : Fld := ⟨0x404 + 64 * n, 0, 32⟩
def F.RAIL_GATEH_GATEH (n : Nat) : Fld := ⟨0x405 + 64 * n, 0, 16⟩
def F.RAIL_REACT_UV (n : Nat) : Fld := ⟨0x406 + 64 * n, 0, 2⟩
def F.RAIL_REACT_PG (n : Nat) : Fld := ⟨0x406 + 64 * n, 2, 2⟩
def F.RAIL_REACT_RISE (n : Nat) : Fld := ⟨0x406 + 64 * n, 4, 2⟩
def F.RAIL_REACT_CHAT (n : Nat) : Fld := ⟨0x406 + 64 * n, 6, 2⟩
def F.RAIL_REACT_DROP (n : Nat) : Fld := ⟨0x406 + 64 * n, 8, 2⟩
def F.RAIL_VOFF_VOFF (n : Nat) : Fld := ⟨0x407 + 64 * n, 0, 20⟩
def F.RAIL_EVENT_OV (n : Nat) : Fld := ⟨0x408 + 64 * n, 0, 1⟩
def F.RAIL_EVENT_UV (n : Nat) : Fld := ⟨0x408 + 64 * n, 1, 1⟩
def F.RAIL_EVENT_PG_LOSS (n : Nat) : Fld := ⟨0x408 + 64 * n, 2, 1⟩
def F.RAIL_EVENT_RISE_TIMEOUT (n : Nat) : Fld := ⟨0x408 + 64 * n, 3, 1⟩
def F.RAIL_EVENT_CHATTER (n : Nat) : Fld := ⟨0x408 + 64 * n, 4, 1⟩
def F.RAIL_EVENT_GATE_LOST (n : Nat) : Fld := ⟨0x408 + 64 * n, 5, 1⟩
def F.RAIL_EVENT_SHORT_SS (n : Nat) : Fld := ⟨0x408 + 64 * n, 6, 1⟩
def F.RAIL_EVENT_FALL_TIMEOUT (n : Nat) : Fld := ⟨0x408 + 64 * n, 7, 1⟩
def F.RAIL_EVENT_PRESENT (n : Nat) : Fld := ⟨0x408 + 64 * n, 8, 1⟩
def F.RAIL_COUNT_UVSHORT (n : Nat) : Fld := ⟨0x409 + 64 * n, 0, 16⟩
def F.RAIL_COUNT_PGSHORT (n : Nat) : Fld := ⟨0x409 + 64 * n, 16, 16⟩
def F.SYS_LOCK_KEY : Fld := ⟨0x8, 0, 8⟩
def F.SYS_LOCK_LOCKED : Fld := ⟨0x8, 8, 1⟩
def F.RSTO_CFG_STRETCH (n : Nat) : Fld := ⟨0x20 + 3 * n, 0, 12⟩
def F.RSTO_CFG_MODE (n : Nat) : Fld := ⟨0x20 + 3 * n, 12, 2⟩
def F.RSTO_CFG_CLAIM (n : Nat) : Fld := ⟨0x20 + 3 * n, 14, 1⟩
def F.RSTO_CFG_DRIVE (n : Nat) : Fld := ⟨0x20 + 3 * n, 15, 1⟩
def F.RSTO_MASKL_MASKL (n : Nat) : Fld := ⟨0x21 + 3 * n, 0, 32⟩
def F.RSTO_MASKH_MASKH (n : Nat) : Fld := ⟨0x22 + 3 * n, 0, 16⟩
def F.RSTO_STATUS_ASSERTED : Fld := ⟨0x38, 0, 8⟩
def F.RSTO_STATUS_STRETCHING : Fld := ⟨0x38, 8, 8⟩
def F.RSTO_STATUS_VAULT : Fld := ⟨0x38, 16, 8⟩
def F.CASC_CFG_CLAIM : Fld := ⟨0x40, 0, 1⟩
def F.CASC_CFG_INACT : Fld := ⟨0x40, 1, 1⟩
def F.CASC_CFG_OUTDLY : Fld := ⟨0x40, 8, 10⟩
def F.CASC_MASKL_MASKL : Fld := ⟨0x41, 0, 32⟩
def F.CASC_MASKH_MASKH : Fld := ⟨0x42, 0, 16⟩
def F.CASC_STATUS_SEQIN : Fld := ⟨0x43, 0, 1⟩
def F.CASC_STATUS_SEQOUT : Fld := ⟨0x43, 1, 1⟩
def F.CASC_STATUS_INFALL : Fld := ⟨0x43, 2, 1⟩
def F.TELLER_CFG_PRIO (n : Nat) : Fld := ⟨0x1800 + 64 * n, 0, 3⟩
def F.TELLER_CFG_EXC (n : Nat) : Fld := ⟨0x1800 + 64 * n, 4, 2⟩
def F.TELLER_CFG_STRICT (n : Nat) : Fld := ⟨0x1800 + 64 * n, 6, 1⟩
def F.TELLER_CFG_WDOG (n : Nat) : Fld := ⟨0x1800 + 64 * n, 16, 10⟩
def F.TELLER_CTL_CMD (n : Nat) : Fld := ⟨0x1801 + 64 * n, 0, 3⟩
def F.TELLER_PC_PC (n : Nat) : Fld := ⟨0x1803 + 64 * n, 0, 16⟩
def F.TELLER_ENTRY_ENTRY (n : Nat) : Fld := ⟨0x1804 + 64 * n, 0, 16⟩
def F.TELLER_TRAP_TRAP (n : Nat) : Fld := ⟨0x1805 + 64 * n, 0, 16⟩
def F.TELLER_EXCINFO_CAUSE (n : Nat) : Fld := ⟨0x1806 + 64 * n, 0, 4⟩
def F.TELLER_EXCINFO_EPC (n : Nat) : Fld := ⟨0x1806 + 64 * n, 16, 16⟩
def F.TELLER_LASTREF_REASON (n : Nat) : Fld := ⟨0x1807 + 64 * n, 0, 8⟩
def F.TELLER_LASTREF_RPC (n : Nat) : Fld := ⟨0x1807 + 64 * n, 16, 16⟩
def F.TELLER_MBOXIN_MBOXIN (n : Nat) : Fld := ⟨0x1808 + 64 * n, 0, 32⟩
def F.TELLER_MBOXOUT_MBOXOUT (n : Nat) : Fld := ⟨0x1809 + 64 * n, 0, 32⟩
def F.RAIL_BUDGET_INRUSH (n : Nat) : Fld := ⟨0x40A + 64 * n, 0, 12⟩
def F.RAIL_BUDGET_HEAT (n : Nat) : Fld := ⟨0x40A + 64 * n, 12, 14⟩
def F.RAIL_BUDGET_PTO (n : Nat) : Fld := ⟨0x40A + 64 * n, 26, 6⟩
def F.PURSE_INRUSH_BAL : Fld := ⟨0x1A00, 0, 16⟩
def F.PURSE_INRUSH_WAIT : Fld := ⟨0x1A00, 16, 16⟩
def F.PURSE_INCFG_RATE : Fld := ⟨0x1A01, 0, 12⟩
def F.PURSE_INCFG_CAP : Fld := ⟨0x1A01, 12, 16⟩
def F.PURSE_HOLD_AVAIL : Fld := ⟨0x1A02, 0, 16⟩
def F.PURSE_HOLD_OUT : Fld := ⟨0x1A02, 16, 16⟩
def F.PURSE_HOLDCFG_BASE : Fld := ⟨0x1A03, 0, 16⟩
def F.PURSE_HOLDCFG_ARCHCOST : Fld := ⟨0x1A03, 16, 8⟩
def F.PURSE_HEAT_HEADROOM : Fld := ⟨0x1A04, 0, 16⟩
def F.PURSE_HEAT_FRESH : Fld := ⟨0x1A04, 16, 16⟩
def F.PURSE_HEATHELD_HELD : Fld := ⟨0x1A05, 0, 16⟩
def F.PURSE_HEATHELD_TELLERS : Fld := ⟨0x1A05, 16, 8⟩
def F.PURSE_HEATHELD_AUDIT : Fld := ⟨0x1A05, 24, 1⟩
def F.PURSE_HEATCFG_AUDIT : Fld := ⟨0x1A06, 0, 16⟩
def F.PURSE_HEATCFG_ARCH : Fld := ⟨0x1A06, 16, 16⟩
def F.PURSE_EVENT_IN_REFUSED : Fld := ⟨0x1A07, 0, 1⟩
def F.PURSE_EVENT_IN_TIMEOUT : Fld := ⟨0x1A07, 1, 1⟩
def F.PURSE_EVENT_HOLD_REFUSED : Fld := ⟨0x1A07, 2, 1⟩
def F.PURSE_EVENT_HEAT_REFUSED : Fld := ⟨0x1A07, 3, 1⟩
def F.PURSE_EVENT_HOLD_SHORT : Fld := ⟨0x1A07, 4, 1⟩
def F.THERM_STATUS_LEVEL : Fld := ⟨0x2200, 0, 3⟩
def F.THERM_STATUS_COMPUTED : Fld := ⟨0x2200, 3, 3⟩
def F.THERM_STATUS_FLOOR : Fld := ⟨0x2200, 6, 3⟩
def F.THERM_STATUS_ZONE : Fld := ⟨0x2200, 9, 2⟩
def F.THERM_CFG_LSTEP : Fld := ⟨0x2201, 0, 6⟩
def F.THERM_CFG_HYST : Fld := ⟨0x2201, 6, 6⟩
def F.THERM_CFG_SETTLE : Fld := ⟨0x2201, 12, 8⟩
def F.THERM_CFG_NTCEN : Fld := ⟨0x2201, 20, 4⟩
def F.THERM_THETA_DIE : Fld := ⟨0x2202, 0, 10⟩
def F.THERM_THETA_STAGE : Fld := ⟨0x2202, 10, 10⟩
def F.THERM_THETA_BOARD : Fld := ⟨0x2202, 20, 10⟩
def F.THERM_BOARD_WARN : Fld := ⟨0x2203, 0, 12⟩
def F.THERM_SUBST_TS : Fld := ⟨0x2204, 0, 4⟩
def F.THERM_SUBST_NTC : Fld := ⟨0x2204, 4, 4⟩
def F.THERM_SUBST_TSNS : Fld := ⟨0x2204, 8, 24⟩
def F.SHUT_STATUS_RUNNING : Fld := ⟨0x1B00, 0, 1⟩
def F.SHUT_STATUS_ENTRY : Fld := ⟨0x1B00, 1, 2⟩
def F.SHUT_STATUS_STEP : Fld := ⟨0x1B00, 3, 6⟩
def F.SHUT_STATUS_FALLBACK : Fld := ⟨0x1B00, 9, 1⟩
def F.SHUT_STATUS_BLIND : Fld := ⟨0x1B00, 10, 1⟩
def F.SHUT_CTL_CMD : Fld := ⟨0x1B01, 0, 8⟩
def F.SHUT_CFG_EXTEN : Fld := ⟨0x1B02, 0, 1⟩
def F.SHUT_CFG_FLTVIN : Fld := ⟨0x1B02, 1, 1⟩
def F.SHUT_EVENT_RAN : Fld := ⟨0x1B03, 0, 4⟩
def F.SHUT_EVENT_MERGED : Fld := ⟨0x1B03, 4, 1⟩
def F.SHUT_EVENT_JUMPED : Fld := ⟨0x1B03, 5, 1⟩
def F.SHUT_EVENT_STUCK : Fld := ⟨0x1B03, 6, 1⟩
def F.SHUT_EVENT_BLIND : Fld := ⟨0x1B03, 7, 1⟩
def F.SHUT_EVENT_TABLE_CRC : Fld := ⟨0x1B03, 8, 1⟩
def F.SHUT_LAST_ENTRY : Fld := ⟨0x1B04, 0, 2⟩
def F.SHUT_LAST_STUCKN : Fld := ⟨0x1B04, 2, 6⟩
def F.SHUT_LAST_TIME : Fld := ⟨0x1B04, 8, 24⟩
def F.SHUT_FLT_LINE : Fld := ⟨0x1B05, 0, 1⟩
def F.SHUT_FLT_DRIVEN : Fld := ⟨0x1B05, 1, 1⟩
def F.SHUT_FLT_CAUSE : Fld := ⟨0x1B05, 2, 2⟩
def F.SHUT_FLT_EXT : Fld := ⟨0x1B05, 4, 1⟩
def F.RAIL_MEAS_V (n : Nat) : Fld := ⟨0x410 + 64 * n, 0, 20⟩
def F.RAIL_MEAS_SEQ (n : Nat) : Fld := ⟨0x410 + 64 * n, 20, 8⟩
def F.RAIL_MEAS_CLIP (n : Nat) : Fld := ⟨0x410 + 64 * n, 28, 1⟩
def F.RAIL_MEAS_READY (n : Nat) : Fld := ⟨0x410 + 64 * n, 30, 1⟩
def F.RAIL_MEAS_VALID (n : Nat) : Fld := ⟨0x410 + 64 * n, 31, 1⟩
def F.CV_CFG_S (n : Nat) : Fld := ⟨0x1500 + 128 * n, 0, 6⟩
def F.CV_CFG_NLOG (n : Nat) : Fld := ⟨0x1500 + 128 * n, 6, 3⟩
def F.CV_CHSEL_CH (n : Nat) : Fld := ⟨0x1501 + 128 * n, 0, 4⟩
def F.CV_CHSEL_INJ (n : Nat) : Fld := ⟨0x1501 + 128 * n, 4, 1⟩
def F.CV_STATUS_OP (n : Nat) : Fld := ⟨0x1502 + 128 * n, 0, 3⟩
def F.CV_STATUS_PENDING (n : Nat) : Fld := ⟨0x1502 + 128 * n, 3, 1⟩
def F.CV_STATUS_PSRC (n : Nat) : Fld := ⟨0x1502 + 128 * n, 4, 3⟩
def F.CV_STATUS_CALPEND (n : Nat) : Fld := ⟨0x1502 + 128 * n, 7, 1⟩
def F.CV_STATUS_OWBUSY (n : Nat) : Fld := ⟨0x1502 + 128 * n, 8, 1⟩
def F.CV_STATUS_RATE (n : Nat) : Fld := ⟨0x1502 + 128 * n, 9, 1⟩
def F.CV_STATUS_INVALID (n : Nat) : Fld := ⟨0x1502 + 128 * n, 10, 1⟩
def F.CV_INJCTL_CH (n : Nat) : Fld := ⟨0x1503 + 128 * n, 0, 4⟩
def F.CV_INJCTL_KIND (n : Nat) : Fld := ⟨0x1503 + 128 * n, 4, 1⟩
def F.CV_INJCTL_GO (n : Nat) : Fld := ⟨0x1503 + 128 * n, 8, 1⟩
def F.CV_INJRES_WORD (n : Nat) : Fld := ⟨0x1504 + 128 * n, 0, 32⟩
def F.CV_TRIG_OVERRUN (n : Nat) : Fld := ⟨0x1505 + 128 * n, 0, 16⟩
def F.CV_TRIG_DURCAL (n : Nat) : Fld := ⟨0x1505 + 128 * n, 16, 8⟩
def F.CV_CALCTL_START (n : Nat) : Fld := ⟨0x1506 + 128 * n, 0, 1⟩
def F.CV_CALSTAT_RESULT (n : Nat) : Fld := ⟨0x1507 + 128 * n, 0, 2⟩
def F.CV_CALSTAT_TEMP (n : Nat) : Fld := ⟨0x1507 + 128 * n, 4, 12⟩
def F.CV_CALSTAT_AGE (n : Nat) : Fld := ⟨0x1507 + 128 * n, 16, 16⟩
def F.CV_TDAC_CODE (n : Nat) : Fld := ⟨0x1508 + 128 * n, 0, 12⟩
def F.CV_OWCTL_CH (n : Nat) : Fld := ⟨0x1509 + 128 * n, 0, 3⟩
def F.CV_OWCTL_OWSET (n : Nat) : Fld := ⟨0x1509 + 128 * n, 4, 8⟩
def F.CV_OWCTL_OWTHR (n : Nat) : Fld := ⟨0x1509 + 128 * n, 12, 8⟩
def F.CV_OWCTL_START (n : Nat) : Fld := ⟨0x1509 + 128 * n, 20, 1⟩
def F.CV_OWRES_CH (n : Nat) : Fld := ⟨0x150A + 128 * n, 0, 3⟩
def F.CV_OWRES_READY (n : Nat) : Fld := ⟨0x150A + 128 * n, 3, 1⟩
def F.CV_OWRES_OPEN_P (n : Nat) : Fld := ⟨0x150A + 128 * n, 4, 1⟩
def F.CV_OWRES_OPEN_N (n : Nat) : Fld := ⟨0x150A + 128 * n, 5, 1⟩
def F.CV_OWRES_ABORTED (n : Nat) : Fld := ⟨0x150A + 128 * n, 6, 1⟩
def F.CV_OWRES_SEQ (n : Nat) : Fld := ⟨0x150A + 128 * n, 8, 8⟩
def F.CV_OWDELTA_DP (n : Nat) : Fld := ⟨0x150B + 128 * n, 0, 16⟩
def F.CV_OWDELTA_DN (n : Nat) : Fld := ⟨0x150B + 128 * n, 16, 16⟩
def F.CV_EVENT_OVERRUN (n : Nat) : Fld := ⟨0x150C + 128 * n, 0, 1⟩
def F.CV_EVENT_CALDONE (n : Nat) : Fld := ⟨0x150C + 128 * n, 1, 1⟩
def F.CV_EVENT_CALFAIL (n : Nat) : Fld := ⟨0x150C + 128 * n, 2, 1⟩
def F.CV_EVENT_PLAUS (n : Nat) : Fld := ⟨0x150C + 128 * n, 3, 1⟩
def F.CV_EVENT_OPEN (n : Nat) : Fld := ⟨0x150C + 128 * n, 4, 1⟩
def F.CV_EVENT_CLIP (n : Nat) : Fld := ⟨0x150C + 128 * n, 5, 1⟩
def F.RAIL_UVTH_UVTH (n : Nat) : Fld := ⟨0x418 + 64 * n, 0, 20⟩
def F.RAIL_OVTH_OVTH (n : Nat) : Fld := ⟨0x419 + 64 * n, 0, 20⟩
def F.RAIL_WCFG_HYS (n : Nat) : Fld := ⟨0x41A + 64 * n, 0, 3⟩
def F.RAIL_WCFG_UVCLR (n : Nat) : Fld := ⟨0x41A + 64 * n, 3, 1⟩
def F.RAIL_WCFG_OVCLR (n : Nat) : Fld := ⟨0x41A + 64 * n, 4, 1⟩
def F.RAIL_WCFG_UVCAP (n : Nat) : Fld := ⟨0x41A + 64 * n, 5, 1⟩
def F.RAIL_WCFG_OVCAP (n : Nat) : Fld := ⟨0x41A + 64 * n, 6, 1⟩
def F.RAIL_WCFG_UVWAKE (n : Nat) : Fld := ⟨0x41A + 64 * n, 7, 1⟩
def F.RAIL_WCFG_OVWAKE (n : Nat) : Fld := ⟨0x41A + 64 * n, 8, 1⟩
def F.RAIL_WCFG_UVSTAMP (n : Nat) : Fld := ⟨0x41A + 64 * n, 9, 1⟩
def F.RAIL_WCFG_OVSTAMP (n : Nat) : Fld := ⟨0x41A + 64 * n, 10, 1⟩
def F.RAIL_WCFG_UVALERT (n : Nat) : Fld := ⟨0x41A + 64 * n, 11, 4⟩
def F.RAIL_WCFG_OVALERT (n : Nat) : Fld := ⟨0x41A + 64 * n, 15, 4⟩
def F.RAIL_WSTATUS_UVLIVE (n : Nat) : Fld := ⟨0x41B + 64 * n, 0, 1⟩
def F.RAIL_WSTATUS_OVLIVE (n : Nat) : Fld := ⟨0x41B + 64 * n, 1, 1⟩
def F.RAIL_WSTATUS_UVLATCH (n : Nat) : Fld := ⟨0x41B + 64 * n, 2, 1⟩
def F.RAIL_WSTATUS_OVLATCH (n : Nat) : Fld := ⟨0x41B + 64 * n, 3, 1⟩
def F.RAIL_WSTATUS_UVCODE (n : Nat) : Fld := ⟨0x41B + 64 * n, 4, 10⟩
def F.RAIL_WSTATUS_OVCODE (n : Nat) : Fld := ⟨0x41B + 64 * n, 14, 10⟩
def F.RAIL_WSTATUS_BADUV (n : Nat) : Fld := ⟨0x41B + 64 * n, 24, 1⟩
def F.RAIL_WSTATUS_BADOV (n : Nat) : Fld := ⟨0x41B + 64 * n, 25, 1⟩
def F.RAIL_WSTATUS_TESTING (n : Nat) : Fld := ⟨0x41B + 64 * n, 26, 1⟩
def F.RAIL_WSTATUS_STAMPV (n : Nat) : Fld := ⟨0x41B + 64 * n, 27, 1⟩
def F.RAIL_WSTATUS_STAMPSRC (n : Nat) : Fld := ⟨0x41B + 64 * n, 28, 1⟩
def F.RAIL_WSTATUS_SWAPSKIP (n : Nat) : Fld := ⟨0x41B + 64 * n, 29, 1⟩
def F.RAIL_WCOUNT_UVCNT (n : Nat) : Fld := ⟨0x41C + 64 * n, 0, 16⟩
def F.RAIL_WCOUNT_OVCNT (n : Nat) : Fld := ⟨0x41C + 64 * n, 16, 16⟩
def F.RAIL_SCNT_NRES (n : Nat) : Fld := ⟨0x425 + 64 * n, 0, 24⟩
def F.RAIL_SCNT_SEQ (n : Nat) : Fld := ⟨0x425 + 64 * n, 24, 8⟩
def F.RAIL_SDROOP_DROOPS (n : Nat) : Fld := ⟨0x426 + 64 * n, 0, 16⟩
def F.RAIL_SDROOP_CLIP (n : Nat) : Fld := ⟨0x426 + 64 * n, 16, 1⟩
def F.RAIL_SDROOP_SEQ (n : Nat) : Fld := ⟨0x426 + 64 * n, 24, 8⟩
def F.RAIL_STATCFG_DROOP (n : Nat) : Fld := ⟨0x427 + 64 * n, 0, 8⟩
def F.CAP_STATCFG_INTERVAL : Fld := ⟨0x21F0, 0, 14⟩
def F.SC_MAP_FIRST (n : Nat) : Fld := ⟨0x1000 + 96 * n, 0, 5⟩
def F.SC_MAP_COUNT (n : Nat) : Fld := ⟨0x1000 + 96 * n, 5, 3⟩
def F.SC_MAP_N1_ALLOWED (n : Nat) : Fld := ⟨0x1000 + 96 * n, 8, 1⟩
def F.SC_CFG_DIVK (n : Nat) : Fld := ⟨0x1001 + 96 * n, 0, 4⟩
def F.SC_CFG_FFSRC (n : Nat) : Fld := ⟨0x1001 + 96 * n, 4, 1⟩
def F.SC_CFG_FFRAIL (n : Nat) : Fld := ⟨0x1001 + 96 * n, 5, 6⟩
def F.SC_CFG_DEM (n : Nat) : Fld := ⟨0x1001 + 96 * n, 11, 1⟩
def F.SC_CFG_OVLOW (n : Nat) : Fld := ⟨0x1001 + 96 * n, 12, 1⟩
def F.SC_CFG_TADD (n : Nat) : Fld := ⟨0x1001 + 96 * n, 13, 6⟩
def F.SC_CFG_FFVNOM (n : Nat) : Fld := ⟨0x1001 + 96 * n, 24, 8⟩
def F.SC_VOUT_VSET (n : Nat) : Fld := ⟨0x1002 + 96 * n, 0, 15⟩
def F.SC_SOFT_TIME (n : Nat) : Fld := ⟨0x1003 + 96 * n, 0, 10⟩
def F.SC_SOFT_STOP (n : Nat) : Fld := ⟨0x1003 + 96 * n, 10, 10⟩
def F.SC_MOD_FSW (n : Nat) : Fld := ⟨0x1004 + 96 * n, 0, 8⟩
def F.SC_MOD_RAMP (n : Nat) : Fld := ⟨0x1004 + 96 * n, 8, 7⟩
def F.SC_LIM_IRATED (n : Nat) : Fld := ⟨0x1005 + 96 * n, 0, 10⟩
def F.SC_LIM_IDIS (n : Nat) : Fld := ⟨0x1005 + 96 * n, 10, 6⟩
def F.SC_LIM_OCT (n : Nat) : Fld := ⟨0x1005 + 96 * n, 16, 10⟩
def F.SC_PLIM_IVAL (n : Nat) : Fld := ⟨0x1006 + 96 * n, 0, 8⟩
def F.SC_PLIM_IPK (n : Nat) : Fld := ⟨0x1006 + 96 * n, 8, 8⟩
def F.SC_PLIM_IMBTHR (n : Nat) : Fld := ⟨0x1006 + 96 * n, 16, 7⟩
def F.SC_TEMP_WARN (n : Nat) : Fld := ⟨0x1007 + 96 * n, 0, 12⟩
def F.SC_TEMP_SHUT (n : Nat) : Fld := ⟨0x1007 + 96 * n, 12, 12⟩
def F.SC_TEMP_HYS (n : Nat) : Fld := ⟨0x1007 + 96 * n, 24, 5⟩
def F.SC_FREACT_SHORT_SS (n : Nat) : Fld := ⟨0x1008 + 96 * n, 0, 1⟩
def F.SC_FREACT_OC (n : Nat) : Fld := ⟨0x1008 + 96 * n, 1, 1⟩
def F.SC_FREACT_STAGE_FLT (n : Nat) : Fld := ⟨0x1008 + 96 * n, 2, 1⟩
def F.SC_FREACT_STAGE_OT (n : Nat) : Fld := ⟨0x1008 + 96 * n, 3, 1⟩
def F.SC_CTL_CMD (n : Nat) : Fld := ⟨0x1009 + 96 * n, 0, 2⟩
def F.SC_STATUS_OP (n : Nat) : Fld := ⟨0x100A + 96 * n, 0, 3⟩
def F.SC_STATUS_LIMIT (n : Nat) : Fld := ⟨0x100A + 96 * n, 3, 1⟩
def F.SC_STATUS_N1 (n : Nat) : Fld := ⟨0x100A + 96 * n, 4, 1⟩
def F.SC_STATUS_EXCL (n : Nat) : Fld := ⟨0x100A + 96 * n, 5, 6⟩
def F.SC_STATUS_TONMIN (n : Nat) : Fld := ⟨0x100A + 96 * n, 11, 1⟩
def F.SC_STATUS_TONMAX (n : Nat) : Fld := ⟨0x100A + 96 * n, 12, 1⟩
def F.SC_STATUS_FFNOM (n : Nat) : Fld := ⟨0x100A + 96 * n, 13, 1⟩
def F.SC_STATUS_DERATE (n : Nat) : Fld := ⟨0x100A + 96 * n, 14, 2⟩
def F.SC_STATUS_OVHOLD (n : Nat) : Fld := ⟨0x100A + 96 * n, 16, 1⟩
def F.SC_STATUS_STAGEHOT (n : Nat) : Fld := ⟨0x100A + 96 * n, 17, 1⟩
def F.SC_EVENT_SHORT_SS (n : Nat) : Fld := ⟨0x100B + 96 * n, 0, 1⟩
def F.SC_EVENT_OC (n : Nat) : Fld := ⟨0x100B + 96 * n, 1, 1⟩
def F.SC_EVENT_PHASE_OPEN (n : Nat) : Fld := ⟨0x100B + 96 * n, 2, 1⟩
def F.SC_EVENT_ISNS_FAIL (n : Nat) : Fld := ⟨0x100B + 96 * n, 3, 1⟩
def F.SC_EVENT_TSNS_FAIL (n : Nat) : Fld := ⟨0x100B + 96 * n, 4, 1⟩
def F.SC_EVENT_STAGE_OTW (n : Nat) : Fld := ⟨0x100B + 96 * n, 5, 1⟩
def F.SC_EVENT_STAGE_OT (n : Nat) : Fld := ⟨0x100B + 96 * n, 6, 1⟩
def F.SC_EVENT_STAGE_FLT (n : Nat) : Fld := ⟨0x100B + 96 * n, 7, 1⟩
def F.SC_EVENT_IMBAL (n : Nat) : Fld := ⟨0x100B + 96 * n, 8, 1⟩
def F.SC_EVENT_N1 (n : Nat) : Fld := ⟨0x100B + 96 * n, 9, 1⟩
def F.SC_EVENT_TONCLAMP (n : Nat) : Fld := ⟨0x100B + 96 * n, 10, 1⟩
def F.SC_REF_REF (n : Nat) : Fld := ⟨0x100C + 96 * n, 0, 15⟩
def F.SC_REF_TARGET (n : Nat) : Fld := ⟨0x100C + 96 * n, 15, 15⟩
def F.SC_ITOT_WORD (n : Nat) : Fld := ⟨0x100D + 96 * n, 0, 32⟩
def F.SC_TON_TON (n : Nat) : Fld := ⟨0x100E + 96 * n, 0, 13⟩
def F.SC_TON_ITLIM (n : Nat) : Fld := ⟨0x100E + 96 * n, 16, 10⟩
def F.SC_FBMON_WORD (n : Nat) : Fld := ⟨0x100F + 96 * n, 0, 32⟩
def F.SC_MRGN_OFS (n : Nat) : Fld := ⟨0x1010 + 96 * n, 0, 9⟩
def F.PH_ICFG_IZERO (n : Nat) : Fld := ⟨0x1300 + 16 * n, 0, 12⟩
def F.PH_ICFG_GAIN (n : Nat) : Fld := ⟨0x1300 + 16 * n, 12, 5⟩
def F.PH_ICFG_RIS (n : Nat) : Fld := ⟨0x1300 + 16 * n, 17, 10⟩
def F.PH_TCFG_TZERO (n : Nat) : Fld := ⟨0x1301 + 16 * n, 0, 12⟩
def F.PH_TCFG_TGAIN (n : Nat) : Fld := ⟨0x1301 + 16 * n, 12, 8⟩
def F.PH_IMEAS_WORD (n : Nat) : Fld := ⟨0x1302 + 16 * n, 0, 32⟩
def F.PH_IAVG_WORD (n : Nat) : Fld := ⟨0x1303 + 16 * n, 0, 32⟩
def F.PH_TMEAS_T (n : Nat) : Fld := ⟨0x1304 + 16 * n, 0, 16⟩
def F.PH_TMEAS_FAIL (n : Nat) : Fld := ⟨0x1304 + 16 * n, 16, 1⟩
def F.PH_TMEAS_SUBST (n : Nat) : Fld := ⟨0x1304 + 16 * n, 17, 1⟩
def F.PH_TMEAS_FLT (n : Nat) : Fld := ⟨0x1304 + 16 * n, 18, 1⟩
def F.PH_STATUS_SC (n : Nat) : Fld := ⟨0x1305 + 16 * n, 0, 3⟩
def F.PH_STATUS_MAPPED (n : Nat) : Fld := ⟨0x1305 + 16 * n, 3, 1⟩
def F.PH_STATUS_DRIVE (n : Nat) : Fld := ⟨0x1305 + 16 * n, 4, 2⟩
def F.PH_STATUS_EXCL (n : Nat) : Fld := ⟨0x1305 + 16 * n, 6, 1⟩
def F.PH_STATUS_INLIM (n : Nat) : Fld := ⟨0x1305 + 16 * n, 7, 1⟩
def F.PH_STATUS_OTW (n : Nat) : Fld := ⟨0x1305 + 16 * n, 8, 1⟩
def F.PH_STATUS_OT (n : Nat) : Fld := ⟨0x1305 + 16 * n, 9, 1⟩
def F.PH_EVENT_OPEN (n : Nat) : Fld := ⟨0x1306 + 16 * n, 0, 1⟩
def F.PH_EVENT_ISNS_FAIL (n : Nat) : Fld := ⟨0x1306 + 16 * n, 1, 1⟩
def F.PH_EVENT_TSNS_FAIL (n : Nat) : Fld := ⟨0x1306 + 16 * n, 2, 1⟩
def F.PH_EVENT_STAGE_FLT (n : Nat) : Fld := ⟨0x1306 + 16 * n, 3, 1⟩
def F.PH_EVENT_STAGE_OTW (n : Nat) : Fld := ⟨0x1306 + 16 * n, 4, 1⟩
def F.PH_EVENT_STAGE_OT (n : Nat) : Fld := ⟨0x1306 + 16 * n, 5, 1⟩
def F.MD_CFG_RAIL (n : Nat) : Fld := ⟨0x1C00 + 2 * n, 0, 6⟩
def F.MD_CFG_CLAIM (n : Nat) : Fld := ⟨0x1C00 + 2 * n, 6, 1⟩
def F.MD_CODE_TARGET (n : Nat) : Fld := ⟨0x1C01 + 2 * n, 0, 10⟩
def F.MD_CODE_PRESENT (n : Nat) : Fld := ⟨0x1C01 + 2 * n, 16, 10⟩
def F.MD_CODE_STOPPED (n : Nat) : Fld := ⟨0x1C01 + 2 * n, 26, 1⟩
def F.MD_CODE_VAULT (n : Nat) : Fld := ⟨0x1C01 + 2 * n, 27, 1⟩
def F.MG_CFG_COST : Fld := ⟨0x1C20, 0, 14⟩
def F.MG_CFG_GUARD : Fld := ⟨0x1C20, 14, 6⟩
def F.MG_CFG_MDSTEP : Fld := ⟨0x1C20, 20, 8⟩
def F.MG_STATUS_NMARG : Fld := ⟨0x1C21, 0, 6⟩
def F.MG_STATUS_ACTIVE : Fld := ⟨0x1C21, 6, 1⟩
def F.MG_STATUS_TRES : Fld := ⟨0x1C21, 16, 16⟩
def F.MG_EVENT_END_THROTTLE : Fld := ⟨0x1C22, 0, 1⟩
def F.MG_EVENT_END_COVER : Fld := ⟨0x1C22, 1, 1⟩
def F.MG_EVENT_STOP : Fld := ⟨0x1C22, 2, 1⟩
def F.MG_EVENT_REFUSED : Fld := ⟨0x1C22, 3, 1⟩
def F.HLTH_STATUS_DAY : Fld := ⟨0x1C30, 0, 32⟩
def F.HLTH_OPEN_SEC : Fld := ⟨0x1C31, 0, 17⟩
def F.HLTH_EVENT_CLOSED : Fld := ⟨0x1C32, 0, 1⟩
def F.HLTH_EVENT_WRAP : Fld := ⟨0x1C32, 1, 1⟩
def F.HLTH_EVENT_GAP : Fld := ⟨0x1C32, 2, 1⟩
def F.LEDG_STATUS_JQUEUE : Fld := ⟨0x1D00, 0, 8⟩
def F.LEDG_STATUS_FFFULL : Fld := ⟨0x1D00, 8, 1⟩
def F.LEDG_STATUS_FFVERD : Fld := ⟨0x1D00, 9, 1⟩
def F.LEDG_STATUS_ARCHBUSY : Fld := ⟨0x1D00, 10, 1⟩
def F.LEDG_STATUS_JREADY : Fld := ⟨0x1D00, 11, 1⟩
def F.LEDG_JHEAD_NEXT : Fld := ⟨0x1D01, 0, 20⟩
def F.LEDG_JLAP_LAP : Fld := ⟨0x1D02, 0, 32⟩
def F.LEDG_JLOST_LOST : Fld := ⟨0x1D03, 0, 16⟩
def F.LEDG_FFSLOT_SLOT : Fld := ⟨0x1D04, 0, 12⟩
def F.LEDG_ARCHCTL_CMD : Fld := ⟨0x1D05, 0, 2⟩
def F.LEDG_ARCHCTL_MASK : Fld := ⟨0x1D05, 8, 6⟩
def F.LEDG_ARCHFILL_FILL : Fld := ⟨0x1D06, 0, 25⟩
def F.LEDG_ARCHSTAT_ENTRIES : Fld := ⟨0x1D07, 0, 8⟩
def F.LEDG_ARCHSTAT_LASTREF : Fld := ⟨0x1D07, 8, 8⟩
def F.LEDG_ECC_CORR : Fld := ⟨0x1D08, 0, 16⟩
def F.LEDG_ECC_UNCORR : Fld := ⟨0x1D08, 16, 16⟩
def F.LEDG_SCRUB_PASSES : Fld := ⟨0x1D09, 0, 16⟩
def F.LEDG_SCRUB_PROGRESS : Fld := ⟨0x1D09, 16, 7⟩
def F.LEDG_EVENT_FF_COMMIT : Fld := ⟨0x1D0A, 0, 1⟩
def F.LEDG_EVENT_FF_VERDICT : Fld := ⟨0x1D0A, 1, 1⟩
def F.LEDG_EVENT_JLOST : Fld := ⟨0x1D0A, 2, 1⟩
def F.LEDG_EVENT_ARCH_DONE : Fld := ⟨0x1D0A, 3, 1⟩
def F.LEDG_EVENT_ARCH_REFUSED : Fld := ⟨0x1D0A, 4, 1⟩
def F.LEDG_EVENT_ECC_CORR : Fld := ⟨0x1D0A, 5, 1⟩
def F.LEDG_EVENT_ECC_UNCORR : Fld := ⟨0x1D0A, 6, 1⟩
def F.LEDG_EVENT_BOOTNO_LOST : Fld := ⟨0x1D0A, 7, 1⟩
def F.SAFE_STATUS_PROBING : Fld := ⟨0x1E00, 0, 1⟩
def F.SAFE_STATUS_PQUEUE : Fld := ⟨0x1E00, 1, 5⟩
def F.SAFE_STATUS_LATE : Fld := ⟨0x1E00, 6, 1⟩
def F.SAFE_STATUS_VAULTLOST : Fld := ⟨0x1E00, 7, 1⟩
def F.SAFE_STATUS_MONLOST : Fld := ⟨0x1E00, 8, 1⟩
def F.SAFE_STATUS_CLKFAIL : Fld := ⟨0x1E00, 9, 1⟩
def F.SAFE_CFG_WINLOST : Fld := ⟨0x1E01, 0, 2⟩
def F.SAFE_CFG_CONVLOST : Fld := ⟨0x1E01, 2, 2⟩
def F.SAFE_CFG_SENSELOST : Fld := ⟨0x1E01, 4, 2⟩
def F.SAFE_CFG_LATWIN : Fld := ⟨0x1E01, 8, 8⟩
def F.SAFE_CFG_LATCONV : Fld := ⟨0x1E01, 16, 8⟩
def F.SAFE_CFG_LATFLT : Fld := ⟨0x1E01, 24, 8⟩
def F.SAFE_EVENT_CLOCK_XCHK : Fld := ⟨0x1E02, 0, 1⟩
def F.SAFE_EVENT_MAIN_STOP : Fld := ⟨0x1E02, 1, 1⟩
def F.SAFE_EVENT_VCORE_FAIL : Fld := ⟨0x1E02, 2, 1⟩
def F.SAFE_EVENT_VVLT_FAIL : Fld := ⟨0x1E02, 3, 1⟩
def F.SAFE_EVENT_REF_XCHK : Fld := ⟨0x1E02, 4, 1⟩
def F.SAFE_EVENT_GRADIENT : Fld := ⟨0x1E02, 5, 1⟩
def F.SAFE_EVENT_MON_PLAUS : Fld := ⟨0x1E02, 6, 1⟩
def F.SAFE_EVENT_OUT_MISMATCH : Fld := ⟨0x1E02, 7, 1⟩
def F.SAFE_EVENT_PIN_TEST : Fld := ⟨0x1E02, 8, 1⟩
def F.SAFE_EVENT_LOST_OV : Fld := ⟨0x1E02, 9, 1⟩
def F.SAFE_EVENT_LASTING : Fld := ⟨0x1E02, 10, 1⟩
def F.SAFE_EVENT_PROBE_LOST : Fld := ⟨0x1E02, 11, 1⟩
def F.SAFE_EVENT_LATENT_LATE : Fld := ⟨0x1E02, 12, 1⟩
def F.SAFE_PROBE_KIND : Fld := ⟨0x1E03, 0, 3⟩
def F.SAFE_PROBE_OBJ : Fld := ⟨0x1E03, 3, 8⟩
def F.SAFE_PROBE_RUNNING : Fld := ⟨0x1E03, 11, 1⟩
def F.SAFE_PROBE_VERDICT : Fld := ⟨0x1E03, 12, 2⟩
def F.SAFE_PROBE_SEQ : Fld := ⟨0x1E03, 14, 8⟩
def F.SAFE_LATSTAT_NEXTRAIL : Fld := ⟨0x1E04, 0, 6⟩
def F.SAFE_LATSTAT_WROUNDS : Fld := ⟨0x1E04, 8, 8⟩
def F.SAFE_LATSTAT_CROUNDS : Fld := ⟨0x1E04, 16, 8⟩
def F.SAFE_LATSTAT_FTESTS : Fld := ⟨0x1E04, 24, 8⟩
def F.SAFE_RAMECC_CORR : Fld := ⟨0x1E05, 0, 16⟩
def F.SAFE_RAMECC_UNCORR : Fld := ⟨0x1E05, 16, 16⟩
def F.VLT_STATUS_VCOREOK : Fld := ⟨0x1E10, 0, 1⟩
def F.VLT_STATUS_VVLTOK : Fld := ⟨0x1E10, 1, 1⟩
def F.VLT_STATUS_CLKOK : Fld := ⟨0x1E10, 2, 1⟩
def F.VLT_STATUS_MAINOK : Fld := ⟨0x1E10, 3, 1⟩
def F.VLT_STATUS_REFOK : Fld := ⟨0x1E10, 4, 1⟩
def F.VLT_CLK_COUNT : Fld := ⟨0x1E11, 0, 9⟩
def F.VLT_CLK_BAD : Fld := ⟨0x1E11, 9, 2⟩
def F.VLT_REF_DEV : Fld := ⟨0x1E12, 0, 16⟩
def F.RAIL_CMD_CMD (n : Nat) : Fld := ⟨0x40B + 64 * n, 0, 2⟩
def F.DOOR_STATUS_HOLD (n : Nat) : Fld := ⟨0x1F00 + 64 * n, 0, 1⟩
def F.DOOR_STATUS_SREQ (n : Nat) : Fld := ⟨0x1F00 + 64 * n, 1, 1⟩
def F.DOOR_STATUS_SREADY (n : Nat) : Fld := ⟨0x1F00 + 64 * n, 2, 1⟩
def F.DOOR_STATUS_PPEND (n : Nat) : Fld := ⟨0x1F00 + 64 * n, 3, 1⟩
def F.DOOR_STATUS_POVF (n : Nat) : Fld := ⟨0x1F00 + 64 * n, 4, 1⟩
def F.DOOR_STATUS_PCOUNT (n : Nat) : Fld := ⟨0x1F00 + 64 * n, 5, 9⟩
def F.DOOR_STATUS_DQ (n : Nat) : Fld := ⟨0x1F00 + 64 * n, 14, 6⟩
def F.DOOR_SGEN_GEN (n : Nat) : Fld := ⟨0x1F02 + 64 * n, 0, 32⟩
def F.DOOR_PMASK_MASK (n : Nat) : Fld := ⟨0x1F08 + 64 * n, 0, 32⟩
def F.DOOR_PVAL_VALUE (n : Nat) : Fld := ⟨0x1F09 + 64 * n, 0, 32⟩
def F.DOOR_PRES_RESULT (n : Nat) : Fld := ⟨0x1F0C + 64 * n, 0, 2⟩
def F.DOOR_PRES_READY (n : Nat) : Fld := ⟨0x1F0C + 64 * n, 2, 1⟩
def F.DOOR_PRES_MERGED (n : Nat) : Fld := ⟨0x1F0C + 64 * n, 3, 1⟩
def F.DOOR_PRES_SEQ (n : Nat) : Fld := ⟨0x1F0C + 64 * n, 8, 8⟩
def F.DOOR_PRES_REASON (n : Nat) : Fld := ⟨0x1F0C + 64 * n, 16, 8⟩
def F.DOOR_PRES_INDEX (n : Nat) : Fld := ⟨0x1F0C + 64 * n, 24, 8⟩
def F.DOOR_WRES_REG (n : Nat) : Fld := ⟨0x1F0D + 64 * n, 0, 16⟩
def F.DOOR_WRES_REASON (n : Nat) : Fld := ⟨0x1F0D + 64 * n, 16, 8⟩
def F.DOOR_WRES_COUNT (n : Nat) : Fld := ⟨0x1F0D + 64 * n, 24, 8⟩
def F.DOOR_ACAUSE_CAUSE (n : Nat) : Fld := ⟨0x1F10 + 64 * n, 0, 9⟩
def F.DOOR_AEN_EN (n : Nat) : Fld := ⟨0x1F11 + 64 * n, 0, 9⟩
def F.DPROT_CAN_EN : Fld := ⟨0xD0, 0, 1⟩
def F.DPROT_CAN_NBR : Fld := ⟨0xD0, 1, 2⟩
def F.DPROT_CAN_DBR : Fld := ⟨0xD0, 3, 3⟩
def F.DPROT_CAN_BASE : Fld := ⟨0xD0, 8, 6⟩
def F.DPROT_SMB_PECREQ : Fld := ⟨0xD1, 0, 1⟩
def F.DPROT_SMB_TOEN : Fld := ⟨0xD1, 1, 1⟩
def F.DPROT_SMB_ARAEN : Fld := ⟨0xD1, 2, 1⟩
def F.DPROT_STRAP_S : Fld := ⟨0xD2, 0, 3⟩
def F.DPROT_STRAP_ADDR : Fld := ⟨0xD2, 3, 7⟩
def F.ID_REV : Fld := ⟨0x0, 8, 8⟩
def F.SYS_IMAGE_SERIAL : Fld := ⟨0x1, 0, 32⟩
def F.SYS_BUILD_BUILD : Fld := ⟨0x2, 0, 32⟩
def F.SYS_IMGCRC_CRC : Fld := ⟨0x3, 0, 32⟩
def F.M_LO_RAILS (n : Nat) : Fld := ⟨0x2000 + 2 * n, 0, 32⟩
def F.M_HI_RAILS (n : Nat) : Fld := ⟨0x2001 + 2 * n, 0, 16⟩
def F.RAIL_SMIN_V (n : Nat) : Fld := ⟨0x420 + 64 * n, 0, 20⟩
def F.RAIL_SMIN_SEQ (n : Nat) : Fld := ⟨0x420 + 64 * n, 20, 8⟩
def F.RAIL_SMIN_READY (n : Nat) : Fld := ⟨0x420 + 64 * n, 30, 1⟩
def F.RAIL_SMIN_VALID (n : Nat) : Fld := ⟨0x420 + 64 * n, 31, 1⟩
def F.RAIL_SMAX_V (n : Nat) : Fld := ⟨0x421 + 64 * n, 0, 20⟩
def F.RAIL_SMAX_SEQ (n : Nat) : Fld := ⟨0x421 + 64 * n, 20, 8⟩
def F.RAIL_SMAX_READY (n : Nat) : Fld := ⟨0x421 + 64 * n, 30, 1⟩
def F.RAIL_SMAX_VALID (n : Nat) : Fld := ⟨0x421 + 64 * n, 31, 1⟩
def F.RAIL_SMEAN_V (n : Nat) : Fld := ⟨0x422 + 64 * n, 0, 20⟩
def F.RAIL_SMEAN_SEQ (n : Nat) : Fld := ⟨0x422 + 64 * n, 20, 8⟩
def F.RAIL_SMEAN_READY (n : Nat) : Fld := ⟨0x422 + 64 * n, 30, 1⟩
def F.RAIL_SMEAN_VALID (n : Nat) : Fld := ⟨0x422 + 64 * n, 31, 1⟩
def F.RAIL_SPP_V (n : Nat) : Fld := ⟨0x423 + 64 * n, 0, 20⟩
def F.RAIL_SPP_SEQ (n : Nat) : Fld := ⟨0x423 + 64 * n, 20, 8⟩
def F.RAIL_SPP_READY (n : Nat) : Fld := ⟨0x423 + 64 * n, 30, 1⟩
def F.RAIL_SPP_VALID (n : Nat) : Fld := ⟨0x423 + 64 * n, 31, 1⟩
def F.RAIL_SRMS_V (n : Nat) : Fld := ⟨0x424 + 64 * n, 0, 20⟩
def F.RAIL_SRMS_SEQ (n : Nat) : Fld := ⟨0x424 + 64 * n, 20, 8⟩
def F.RAIL_SRMS_READY (n : Nat) : Fld := ⟨0x424 + 64 * n, 30, 1⟩
def F.RAIL_SRMS_VALID (n : Nat) : Fld := ⟨0x424 + 64 * n, 31, 1⟩
def F.CAP_CFG_CAPLEN (n : Nat) : Fld := ⟨0x2100 + 40 * n, 0, 16⟩
def F.CAP_CFG_PRE (n : Nat) : Fld := ⟨0x2100 + 40 * n, 16, 16⟩
def F.CAP_CTL_CMD (n : Nat) : Fld := ⟨0x2101 + 40 * n, 0, 2⟩
def F.CAP_CTL_FREEZE (n : Nat) : Fld := ⟨0x2101 + 40 * n, 8, 1⟩
def F.CAP_STATUS_STATE (n : Nat) : Fld := ⟨0x2102 + 40 * n, 0, 2⟩
def F.CAP_STATUS_ARCH (n : Nat) : Fld := ⟨0x2102 + 40 * n, 2, 1⟩
def F.CAP_STATUS_CONT (n : Nat) : Fld := ⟨0x2102 + 40 * n, 3, 1⟩
def F.CAP_STATUS_WPTR (n : Nat) : Fld := ⟨0x2102 + 40 * n, 16, 16⟩
def F.CAP_FILL_FILL (n : Nat) : Fld := ⟨0x2103 + 40 * n, 0, 17⟩
def F.CAP_MISS_MISS (n : Nat) : Fld := ⟨0x2104 + 40 * n, 0, 16⟩
def F.CAP_MISS_OVWR (n : Nat) : Fld := ⟨0x2104 + 40 * n, 16, 16⟩
def F.CAP_EVENT_DONE (n : Nat) : Fld := ⟨0x2105 + 40 * n, 0, 1⟩
def F.CAP_EVENT_CLAMPED (n : Nat) : Fld := ⟨0x2105 + 40 * n, 1, 1⟩
def F.CAP_EVENT_MISS (n : Nat) : Fld := ⟨0x2105 + 40 * n, 2, 1⟩
def F.CAP_EVENT_OVWR (n : Nat) : Fld := ⟨0x2105 + 40 * n, 3, 1⟩
def F.CAP_DCOUNT_SEQ (n : Nat) : Fld := ⟨0x2106 + 40 * n, 0, 8⟩
def F.CAP_DCOUNT_NEWEST (n : Nat) : Fld := ⟨0x2106 + 40 * n, 8, 2⟩
def F.CV_CALF (n j : Nat) : Fld := ⟨0x1510 + 128 * n + j, 0, 32⟩
def F.CV_DIAGRES (n i : Nat) : Fld := ⟨0x1520 + 128 * n + i, 0, 32⟩
def F.THERM_SENSOR_T (i : Nat) : Fld := ⟨0x2210 + i, 0, 16⟩
def F.THERM_SENSOR_FAIL (i : Nat) : Fld := ⟨0x2210 + i, 16, 1⟩
def F.THERM_SENSOR_SUBST (i : Nat) : Fld := ⟨0x2210 + i, 17, 1⟩
def F.RAIL_WSTAMP (n j : Nat) : Fld := ⟨0x430 + 64 * n + j, 0, 32⟩
def F.DOOR_SSTAMP (d j : Nat) : Fld := ⟨0x1F03 + 64 * d + j, 0, 32⟩
def F.CAP_DPOS_START (n d : Nat) : Fld := ⟨0x2108 + 40 * n + 8 * d + 0, 0, 16⟩
def F.CAP_DPOS_TRIG (n d : Nat) : Fld := ⟨0x2108 + 40 * n + 8 * d + 0, 16, 16⟩
def F.CAP_DLEN_LEN (n d : Nat) : Fld := ⟨0x2108 + 40 * n + 8 * d + 1, 0, 17⟩
def F.CAP_DLEN_CLAMPED (n d : Nat) : Fld := ⟨0x2108 + 40 * n + 8 * d + 1, 17, 1⟩
def F.CAP_DLEN_OVERWRITTEN (n d : Nat) : Fld := ⟨0x2108 + 40 * n + 8 * d + 1, 18, 1⟩
def F.CAP_DLEN_SHORTPRE (n d : Nat) : Fld := ⟨0x2108 + 40 * n + 8 * d + 1, 19, 1⟩
def F.CAP_DLEN_RANGE (n d : Nat) : Fld := ⟨0x2108 + 40 * n + 8 * d + 1, 20, 2⟩
def F.CAP_DSRC_SRC (n d : Nat) : Fld := ⟨0x2108 + 40 * n + 8 * d + 2, 0, 3⟩
def F.CAP_DSRC_CH (n d : Nat) : Fld := ⟨0x2108 + 40 * n + 8 * d + 2, 3, 3⟩
def F.CAP_DSRC_OBJ (n d : Nat) : Fld := ⟨0x2108 + 40 * n + 8 * d + 2, 6, 6⟩
def F.CAP_DSRC_RATE (n d : Nat) : Fld := ⟨0x2108 + 40 * n + 8 * d + 2, 12, 1⟩
def F.CAP_DSRC_PENDED (n d : Nat) : Fld := ⟨0x2108 + 40 * n + 8 * d + 2, 13, 1⟩
def F.CAP_DSRC_SEQ (n d : Nat) : Fld := ⟨0x2108 + 40 * n + 8 * d + 2, 24, 8⟩
def F.CAP_DSTAMP (n d j : Nat) : Fld := ⟨0x2108 + 40 * n + 8 * d + 4 + j, 0, 32⟩

end Sys2Proof.Machine
end

