-- ==== Sys2Proof/Machine/Sparse.lean ====
section
/-! DEFINITION. Sparse stores: a map from Nat keys in one canonical form (keys strictly rising, no entry equal to what
an unlisted key reads as). The register fields, the ledger bytes, the tellers' memories and the capture buffers are
held this way. The form is a predicate; Sys2Proof/Laws/Sparse.lean proves that writing keeps it. -/

namespace Sys2Proof.Machine

/-- The value at a key: the listed one, else the default `d`. -/
def sget {α : Type} (d : Nat → α) : List (Nat × α) → Nat → α
  | [], k => d k
  | (a, x) :: m, k => if k = a then x else sget d m k

/-- Remove a key's entries. -/
def sdrop {α : Type} (m : List (Nat × α)) (k : Nat) : List (Nat × α) := m.filter (fun p => decide (p.1 ≠ k))

/-- Write a key, keeping the canonical form: an entry equal to the default is not listed. (On a store in canonical form
`sdrop` finds nothing to remove; with it a read after a write holds of every list.) -/
def sset {α : Type} [DecidableEq α] (d : Nat → α) : List (Nat × α) → Nat → α → List (Nat × α)
  | [], k, v => if v = d k then [] else [(k, v)]
  | (a, x) :: m, k, v =>
    if k < a then (if v = d k then (a, x) :: sdrop m k else (k, v) :: (a, x) :: m)
    else if k = a then (if v = d k then sdrop m k else (k, v) :: m)
    else (a, x) :: sset d m k v

/-- The canonical form: every key above `b`, keys strictly rising, no default entry. -/
def swfFrom {α : Type} [DecidableEq α] (d : Nat → α) : Nat → List (Nat × α) → Bool
  | _, [] => true
  | b, (a, x) :: m => decide (b ≤ a) && decide (x ≠ d a) && swfFrom d (a + 1) m

/-- The canonical form of a whole store. -/
def swf {α : Type} [DecidableEq α] (d : Nat → α) (m : List (Nat × α)) : Bool := swfFrom d 0 m

/-- Write a run of values at rising keys from `k`. -/
def ssetRun {α : Type} [DecidableEq α] (d : Nat → α) : List (Nat × α) → Nat → List α → List (Nat × α)
  | m, _, [] => m
  | m, k, v :: vs => ssetRun d (sset d m k v) (k + 1) vs

/-- Read `n` values at rising keys from `k`. -/
def sgetRun {α : Type} (d : Nat → α) (m : List (Nat × α)) (k n : Nat) : List α :=
  (List.range n).map (fun i => sget d m (k + i))

end Sys2Proof.Machine
end

