-- ==== Sys2Proof/Machine/State.lean ====
section
/-! DEFINITION. The state of the MG4824 as plain data, and Dev.reset: the unpowered device with its factory ledger. -/

namespace Sys2Proof.Machine

/-- A rail (R133-R152): its state, output, latched fault, comparator live outputs, accepted PG level and the instants
(ns) from which its times count. -/
structure Rail where
  code      : RailCode := .unused
  out       : RailOut := .off
  fault     : Nat := 0
  uvLive    : Bool := false
  ovLive    : Bool := false
  pg        : Bool := false
  stateAt   : Nat := 0            -- the last change of `code`
  brokeAt   : Nat := 0            -- the composite good condition was last found broken (R143)
  offAt     : Nat := 0            -- output switched off (R135)
  riseAt    : Nat := 0            -- from which RISETO counts (R145)
  uvAt      : Option Nat := none  -- the UV condition shows since (R147, R150)
  ovAt      : Option Nat := none  -- the OV condition shows since
  pgAt      : Option Nat := none  -- PG inactive since
  chat      : List Nat := []      -- changes of the composite good condition (R144), newest first
  fallDone  : Bool := false       -- FALL_TIMEOUT recorded (R135)
  present   : Bool := false       -- PRESENT recorded since the entry to OFF (R152)
  result    : Option Nat := none  -- last published result, 100 uV (R374)
  refAt     : Nat := 0            -- reference instant of R723
  inrush    : Grant := .none      -- R141
  heat      : Grant := .none
  inrushAmt : Nat := 0            -- coins granted, credited back under R315
  reqAt     : Option Nat := none  -- first purse request of this ARMED period (R311)
  onBy      : Writer := .door 0   -- whose ON armed it, which ranks its purse requests (R304)
  waitVin   : Bool := false       -- waiting under R53
  senseLost : Bool := false       -- R555
  lostOv    : Bool := false       -- R556: NO_OV_PATH until BOOT
  published : Bool := true        -- a result has been published since the last blanking ended (R121)
  blankAt   : Option Nat := none  -- blanked by a shutter since (R119)
  blankWas  : List (Nat × Nat) := [] -- the blankings that ended within the longest burst, newest first (R431)
  rangeAt   : Option Nat := none  -- RANGE changed, no result of a later dwell yet (R378)
  lastValid : Option Nat := none  -- the last VALID result (R457)
  uvSeen    : Bool := false       -- the last sample of WATCH showed UV (R425)
  uvScan    : Bool := false       -- UV declared by the scan for the present run of low results
  ovScan    : Bool := false       -- OV declared by the scan for the present run of high results
deriving DecidableEq, Repr

/-- A teller (R172-R203). `held` is what a SUSPENDED teller did when WATCH began (R201); `wdogNs` the time counted by
R195 up to `runAt`; `causes` the wake events since its last WWAKE ended (R236); `step` halts it after one instruction (R192);
`again` starts it anew after the instruction that is stalled (R239). -/
structure Teller where
  st      : TRun := .halted
  exc     : Bool := false
  trapped : Bool := false
  z       : Bool := false
  n       : Bool := false
  c       : Bool := false
  t       : Bool := false
  d       : Bool := false
  pc      : BitVec 16 := 0
  entry   : BitVec 16 := 0
  trap    : BitVec 16 := 0
  stack   : List (BitVec 16) := []
  queue   : List TReq := []
  stall   : Option Stall := none
  wait    : Option Wait := none
  x       : Vector Word 16 := Vector.replicate 16 0
  cause   : Nat := 0
  epc     : BitVec 16 := 0
  refWhy  : Nat := 0
  refPc   : BitVec 16 := 0
  wdogNs  : Nat := 0
  runAt   : Nat := 0
  causes  : BitVec 8 := 0
  held    : TRun := .running
  step    : Bool := false
  again   : Bool := false
deriving DecidableEq, Repr

/-- A run of the shutdown table: the entry, the cause's TYPE, d of R369, the step in progress with the instant of its
action (none before the action), and the count of TABLE_STUCK and BLIND steps. -/
structure TRunning where
  entry  : Entry
  d      : Nat
  step   : Nat
  acted  : Option Nat
  stuck  : Nat
deriving DecidableEq, Repr

/-- An entry accepted and not yet begun (R724); `jump` where it was accepted over a run or a lower entry (R359). -/
structure TPending where
  entry : Entry
  cause : Nat
  d     : Nat
  jump  : Bool
deriving DecidableEq, Repr

/-- Why the vault drives FLT_N (SHUT.FLT.CAUSE). -/
inductive FltCause where
  | dangerous | vinLoss | bootFail | thermalOff
deriving DecidableEq, Repr

def FltCause.code : FltCause → Nat
  | .dangerous => 0 | .vinLoss => 1 | .bootFail => 2 | .thermalOff => 3

/-- The vault (R339-R370): its table copy and its run, FLT_N, and what it holds of the main region. -/
structure Vault where
  steps    : List TStep := []
  entries  : List Nat := []          -- first steps of NORMAL, VIN_LOSS, DANGEROUS, EXTERNAL
  loaded   : Bool := false           -- boot step 8 reached (R362)
  fallback : Bool := false           -- R343
  run      : Option TRunning := none
  pend     : Option TPending := none
  drive    : Option FltCause := none -- R364
  lineLow  : Bool := false           -- another device pulls FLT_N low (R366)
  lineSeen : Bool := false           -- that pull stands accepted as an external assertion (R366)
  lastRun  : Entry := .normal        -- SHUT.STATUS.ENTRY and STEP of the last run
  lastStep : Nat := 0
  reboot   : Bool := false           -- a reboot follows the run (R25)
  mainHeld : Bool := false           -- the main region is held in reset (R79, R561)
  coreLost : Bool := false           -- VCORE_FAIL: it is held until UNPOWERED (R561)
  mainDead : Bool := false           -- MAIN_STOP or VCORE_FAIL: no results (R351, R462)
  shadow   : Bool := false           -- STAMPs carry the shadow count (R85)
  rsto     : BitVec 8 := 0           -- RSTO outputs held by the vault (R163)
  thermal  : Option Nat := none      -- d of a thermal shutdown (R26)
  fasts    : RailSet := 0            -- controller rails that this run has taken fast off (R465)
deriving DecidableEq, Repr

/-- One item a door has had accepted for a close (R586, R598), with its instant of acceptance. -/
inductive DoorItem where
  | write (w : RegWrite)
  | post
deriving DecidableEq, Repr

/-- A door (R585-R612). `stmt` is the statement buffer: the registers of the status space that read other than 0. -/
structure Door where
  entries : List RegWrite := []
  povf    : Bool := false
  queue   : List (Nat × DoorItem) := []
  sreq    : Option Nat := none
  sready  : Bool := false
  hold    : Bool := false
  stmt    : List (Nat × Word) := []
deriving DecidableEq, Repr

/-- The device without its addressed memories. `now` is the instant of the last command in ns since the model's
origin. `fresh` counts the free values taken: the model's own field. -/
structure Dev where
  now      : Nat
  before   : List (Nat × Nat)    -- the stored fields as they stood before the instant `now` (R650)
  fresh    : Nat
  dev      : DevState
  regs     : List (Nat × Nat)
  rails    : Vector Rail 48
  tellers  : Vector Teller 8
  owners   : Vector Owner 256
  doors    : Vector Door 4
  vault    : Vault
  -- time (R84-R95)
  usecOn   : Bool
  usec0    : Nat                 -- the instant at which USEC was 0
  shadowAt : Nat                 -- the instant of the shadow count's last alignment to USEC (R85)
  bootno   : Word
  bootnoOk : Bool                -- boot step 4 has ended
  trims    : List (Nat × Byte)   -- where the calibration set that boot step 4 applied differs from the factory set (R660)
  rev      : Word
  angle    : BitVec 16           -- ANGLE where it does not run with time (R98, R94)
  tal      : Tally
  shutters : Vector Shutter 16
  -- converters, capture and statistics (R371-R446)
  cvs      : Vector Conv 6
  caps     : Vector Cap 6
  stats    : Vector Stat 48
  statAt   : Nat                 -- the open interval began
  statLen  : Nat                 -- its length in ms (R442)
  cvFast   : Bool                -- the converter rate as of the last close (R33, R69)
  tickAt   : Nat                 -- the next tick of the slow scan (R410)
  -- ledger (R500-R543)
  jq       : List (Nat × JRec)   -- records waiting, with their entry number
  jIn      : Nat                 -- records entered since BOOT
  jLost    : Nat                 -- records dropped since the last JLOST record
  folio    : Option Folio
  folioVer : Option (Verdict × Word)  -- the folio's verdict, with USEC [31:0] at which it was reached
  ledgBad  : List Nat            -- 64-bit words that read as uncorrectable (R506, R507)
  recent   : List Recent         -- writes of the array that a loss of supply may still find in progress, oldest first (R506)
  v18ok    : Bool                -- VDD1V8 within its window (R697)
  scrubAt  : Nat                 -- next word of the background scrub (R508)
  afill    : Nat × Nat           -- archive fill and entries as the newer copy holds them (R534)
  wrapCopy : Bool                -- BOOTNO + 1 stands in the older copy for the coming wrap (R89)
  jck      : Nat × Nat           -- the newer journal checkpoint: slot of the next record, laps (R527)
  folioDone : Bool               -- the folio body is committed (R515)
  folioVdone : Bool              -- its verdict is written (R520)
  hday     : Option HDay         -- the open health day (R493)
  hsaved   : Option HDay         -- the newer accumulator copy in the ledger (R497, R532)
  holder   : Option HDay         -- the older one
  hcopy    : Fin 2               -- which copy is the newer
  copyVer  : Vector Nat 6        -- writes of the opaque copies: journal checkpoint, archive fill, accumulator, two of each (R501)
  hClean   : Bool                -- the last operation ended in order
  calOpen  : Option (Fin 4 × Nat)  -- the door that holds the calibration set open, and its last write (R666, R668)
  calKey   : Vector (Option Nat) 4  -- each door's accepted KEY1 and its instant (R664)
  calDirty : Bool                -- ORIGIN and UNLOCKBOOT are written for this opening (R667)
  -- probes (R547-R556)
  probes   : List Probe          -- waiting, in the order of their decisions
  probing  : List Probe          -- running
  lat      : Latent              -- R570-R572
  -- alerts (R609-R611, R642, R643)
  smbRel   : Bool                -- SMBALERT_C released by an alert response
  evq      : List (Nat × Stamp)  -- event frames waiting: cause bit and its STAMP
  evOvf    : Bool                -- an event frame was dropped since the last one sent
  evDropped : Bool               -- byte 12 bit 2 of PSTAT (R643)
  evSent   : Nat                 -- event frames sent (CNT)
  awake    : Bool                -- a wake event has come since WATCH began or the watch teller's last WWAKE (R37)
  watchExit : Bool               -- leaving WATCH, the doors do not answer normally yet (R44)
  -- purses (R301-R338)
  inrushUj : Nat                 -- INRUSH balance in uJ (R313)
  preqs    : List PReq           -- requests waiting, in order of entry
  schedAt  : Option Nat          -- the last scheduler run (R303)
  holdO    : Nat                 -- outstanding HOLD commitments in nJ (R318, R321)
  holdE    : Nat                 -- E at the last computation in nJ
  holdAt   : Nat                 -- the instant of that computation
  holdShort : Bool               -- HOLD_SHORT journalled in this HOLD-UP (R324)
  heatRes  : List HRes           -- reservations held
  thUp     : List Nat            -- consecutive readings above each threshold, zone * 7 + level - 1 (R331)
  thDown   : List Nat            -- consecutive readings below each threshold minus HYST
  thTrip   : List Bool           -- levels that stand tripped
  thFloors : List (Nat × Nat)    -- latched substitutions with their floors (R335)
  thHot    : List Nat            -- hottest valid sensor of each zone, in THERM.SUBST numbering (R330)
  thCause  : Option (Nat × Nat)  -- sensor and zone of a change of the computed level that is yet to act (R333)
  headMw   : Nat                 -- HEADROOM in mW, of which PURSE.HEAT shows at most 65,535 (R325)
  -- outputs
  rstoAt   : Vector Nat 8        -- all masked rails GOOD since (R161)
  cascAt   : Nat                 -- all cascade rails GOOD since (R165)
  seqIn    : Bool                -- accepted SEQ_IN level (R167)
  -- the close
  closeAt  : Nat                 -- the last close
  sampled  : Bool                -- the windows were sampled since (R424)
  vaultRails : RailSet           -- rails whose state the vault changed since the previous close (R18)
  vaultMargins : Bool            -- it turned the margins off since (R491, R18, R19)
  -- controllers and margins (R447-R491)
  scs      : Vector Sc 8
  phs      : Vector Ph 24
  mdAt     : Vector Nat 16       -- each margin DAC's last step (R484)
  mgEnd    : BitVec 2            -- the campaign ends at the next close: bit 0 throttling, bit 1 coverage (R489)
  -- power entry, checks, archive (R46-R82, R558-R566, R533)
  pwr      : Power
  checks   : Checks
  arch     : Option Arch
  -- teller memories (R179): words that read as uncorrectable
  iramBad  : List Nat
  dramBad  : List Nat
  -- door protocols and the test access port (R616-R644, R688, R690)
  ports    : Vector Port 4
  can      : Can
  smbArl   : Bool                -- door C lost the last alert response (R635)
  tapIr    : BitVec 4
  tapCells : BitVec 239          -- the boundary register, bit 0 next to TDO (R690)
  tapIrOut : BitVec 4            -- what the instruction register captured and shifted out last (R688)
  tapOut   : BitVec 239          -- what the boundary register captured and shifted out last (R690)
deriving DecidableEq, Repr

/-- The reasons a step stops with a fault. The model raises none: every command of the table has an effect or comes
to nothing (R10, R588). Kept closed and empty-handed by one constructor that nothing raises. -/
inductive Fault where
  /-- Raised by no meaning of this model; safe. -/
  | never
deriving DecidableEq, Repr

/-- The reasons a command is refused by the model. -/
inductive Refusal where
  /-- Raised by Dispatch for a command that has no meaning yet; safe (the model says nothing of the command). -/
  | notModelled (mnemonic : String)
deriving DecidableEq, Repr

/-- The unpowered device as it leaves the factory. Every register field reads the value R651 gives it (no field is
listed). -/
def Dev.reset : Dev := {
  now := 0
  before := []
  fresh := 0
  dev := .unpowered
  regs := []
  rails := Vector.replicate 48 {}
  tellers := Vector.replicate 8 {}
  owners := Vector.replicate 256 .none
  doors := Vector.replicate 4 {}
  vault := {}
  usecOn := false
  usec0 := 0
  shadowAt := 0
  bootno := 0
  bootnoOk := false
  trims := []
  rev := 0
  angle := 0
  tal := {}
  shutters := Vector.replicate 16 {}
  cvs := Vector.replicate 6 {}
  caps := Vector.replicate 6 {}
  stats := Vector.replicate 48 {}
  statAt := 0
  statLen := 1000
  cvFast := false
  tickAt := 0
  jq := []
  jIn := 0
  jLost := 0
  folio := none
  folioVer := none
  ledgBad := []
  recent := []
  v18ok := true
  scrubAt := 0
  afill := (0, 0)
  wrapCopy := false
  jck := (0, 0)
  folioDone := false
  folioVdone := false
  hday := none
  hsaved := none
  holder := none
  hcopy := 0
  copyVer := Vector.replicate 6 0
  hClean := true
  calOpen := none
  calKey := Vector.replicate 4 none
  calDirty := false
  probes := []
  probing := []
  lat := {}
  smbRel := false
  evq := []
  evOvf := false
  evDropped := false
  evSent := 0
  awake := false
  watchExit := false
  inrushUj := 0
  preqs := []
  schedAt := none
  holdO := 0
  holdE := 0
  holdAt := 0
  holdShort := false
  heatRes := []
  thUp := List.replicate 21 0
  thDown := List.replicate 21 0
  thTrip := List.replicate 21 false
  thFloors := []
  thHot := [0, 0, 0]
  thCause := none
  headMw := 0
  rstoAt := Vector.replicate 8 0
  cascAt := 0
  seqIn := false
  closeAt := 0
  sampled := false
  vaultRails := 0
  vaultMargins := false
  scs := Vector.replicate 8 {}
  phs := Vector.replicate 24 {}
  mdAt := Vector.replicate 16 0
  mgEnd := 0
  pwr := {}
  checks := {}
  arch := none
  iramBad := []
  dramBad := []
  ports := Vector.replicate 4 {}
  can := {}
  smbArl := false
  tapIr := 0xF
  tapCells := 0
  tapIrOut := 0
  tapOut := 0 }

/-- What entering a state without its main region keeps: the ledger and what the ledger holds, the model's time and
queue, and the levels other devices set at the pins. Everything else starts afresh (R651). -/
def Dev.wiped (s : Dev) (d : DevState) : Dev := { Dev.reset with
  now := s.now
  fresh := s.fresh
  dev := d
  ledgBad := s.ledgBad
  v18ok := s.v18ok
  scrubAt := s.scrubAt
  afill := s.afill
  jck := s.jck
  hsaved := s.hsaved
  holder := s.holder
  hcopy := s.hcopy
  copyVer := s.copyVer
  hClean := s.hClean
  vault := { Dev.reset.vault with
    lineLow := s.vault.lineLow
    coreLost := s.vault.coreLost && d != .unpowered
    mainHeld := s.vault.coreLost && d != .unpowered }
  pwr := { vsupLow := s.pwr.vsupLow } }

/-- The state of the machine: the device, its addressed memories (each in the canonical form of Sparse.lean), and the
queue of commands waiting, first in, first out. -/
structure State where
  pending : List Instr
  core    : Dev
  ledger  : List (Nat × Byte)                     -- R500: the 64 MiB array
  iram    : List (Nat × Word)                     -- R177: instruction RAM, by word
  dram    : List (Nat × Byte)                     -- R178: data RAM, by byte
  bufs    : Vector (List (Nat × BitVec 16)) 6     -- R431: the capture buffers
deriving DecidableEq, Repr

/-- The state after reset: the unpowered device with its factory ledger, nothing written anywhere, no command waiting. -/
def State.reset : State := {
  pending := []
  core := Dev.reset
  ledger := []
  iram := []
  dram := []
  bufs := Vector.replicate 6 [] }

/-- Act on the device alone: the memories and the queue stand. -/
def State.lift (s : State) (f : Dev → Dev) : State := { s with core := f s.core }

end Sys2Proof.Machine
end

