-- ==== Sys2Proof/Machine/Ops.lean ====
section
/-! DEFINITION. The named operations over the state: register fields, time and STAMPs, the journal queue, alert causes,
rails and tellers, entries to the shutdown table, faults and their records. -/

namespace Sys2Proof.Machine

/-! ### Register fields -/

/-- The stored value of a register field. -/
def Dev.get (s : Dev) (f : Fld) : Nat := sget fieldReset s.regs f.key

/-- Store a register field, cut to its width. -/
def Dev.put (s : Dev) (f : Fld) (v : Nat) : Dev :=
  { s with regs := sset fieldReset s.regs f.key (v % 2 ^ f.w) }

/-- A one-bit field read as a Bool. -/
def Dev.flag (s : Dev) (f : Fld) : Bool := s.get f == 1

/-- Store a one-bit field. -/
def Dev.putB (s : Dev) (f : Fld) (b : Bool) : Dev := s.put f (if b then 1 else 0)

/-- Set bit `i` of a field. -/
def Dev.setBit (s : Dev) (f : Fld) (i : Nat) : Dev := s.put f (s.get f ||| 2 ^ i)

/-- Clear bit `i` of a field. -/
def Dev.clrBit (s : Dev) (f : Fld) (i : Nat) : Dev :=
  if (s.get f).testBit i then s.put f (s.get f - 2 ^ i) else s

/-- Set a one-bit event or status field. -/
def Dev.mark (s : Dev) (f : Fld) : Dev := s.put f 1

/-- Add to a saturating counter field. -/
def Dev.bump (s : Dev) (f : Fld) (d : Nat := 1) : Dev := s.put f (satAdd f.w (s.get f) d)

/-- Add 1 to a counter field modulo its width. -/
def Dev.roll (s : Dev) (f : Fld) : Dev := s.put f (s.get f + 1)

/-- The word of a register as its fields are stored (R648). -/
def Dev.stored (s : Dev) (r : Nat) : Word :=
  BitVec.ofNat 32 ((fieldsOf r).foldl (fun a f => a + s.get ⟨r, f.lo, f.w⟩ * 2 ^ f.lo) 0)

/-- Store every field of a register from one word. -/
def Dev.putWord (s : Dev) (r : Nat) (w : Word) : Dev :=
  (fieldsOf r).foldl (fun a f => a.put ⟨r, f.lo, f.w⟩ (w.toNat / 2 ^ f.lo)) s

/-! ### Time -/

/-- Move the model's time to the instant of a command; time never runs backwards (log entry 1). A later instant finds the stored
fields as the earlier one left them (R650). -/
def Dev.advance (s : Dev) (ts : Nat) : Dev :=
  { s with now := max s.now ts, before := if s.now < ts then s.regs else s.before }

/-- The same, of the whole machine. -/
def State.advance (s : State) (ts : Nat) : State := s.lift (fun c => c.advance ts)

/-- R84, R86: USEC, one count a microsecond since the PLL's lock; 0 before. -/
def Dev.usec (s : Dev) : Usec :=
  if s.usecOn then BitVec.ofNat 48 ((s.now - s.usec0) / 1000) else 0

/-- ANGLE at this instant: with SRC = SYNC and the tally not LOST it runs at 65,536 per period (R103), in every other
case it is the value held (R98, R94). -/
def Dev.ang (s : Dev) : BitVec 16 :=
  let t := s.get F.TALLY_PERIOD_T
  let st := s.get F.TALLY_POS_STATE
  if s.get F.TALLY_CFG_SRC = 2 ∧ t ≠ 0 ∧ (st = 1 ∨ st = 2 ∨ st = 3) then
    BitVec.ofNat 16 (min 65535 ((s.now - s.tal.angleAt) * 65536 / (t * 8)))
  else s.angle

/-- SANGLE at this instant, not reduced modulo 65,536 (R111): 65,536 per FBPER microseconds. -/
def Dev.sturn (s : Dev) : Nat :=
  let p := s.get F.TALLY_FBPER_FBPER
  if p = 0 then s.tal.synth0 else s.tal.synth0 + (s.now - s.tal.synthAt) * 65536 / (p * 1000)

/-- R92, R93: the STAMP of this instant. -/
def Dev.stamp (s : Dev) : Stamp := ⟨s.bootno, s.usec, s.rev, s.ang⟩

/-- R85: the vault's shadow count: USEC at its last alignment, and the microseconds since on the vault's own oscillator,
whose rate lies within 2 % of true and is not known otherwise (log entry 36). -/
def Dev.shadowUsec (s : Dev) : Usec :=
  BitVec.ofInt 48 (((s.shadowAt : Int) - s.usec0) / 1000 +
    (((s.now - s.shadowAt) * (980000 + Config.vaultRate s.shadowAt % 40001) / 1000000000 : Nat) : Int))

/-- R85: the STAMP of a record or a folio: once the vault completes the STAMPs they carry the shadow count. -/
def Dev.recStamp (s : Dev) : Stamp := if s.vault.shadow then { s.stamp with usec := s.shadowUsec } else s.stamp

/-- R92: the 128 bits of a STAMP. -/
def Stamp.bits (t : Stamp) : BitVec 128 := t.boot ++ t.usec ++ t.rev ++ t.angle

/-- R92: word j of a STAMP, bits [32j + 31:32j]. -/
def Stamp.word (t : Stamp) (j : Nat) : Word := t.bits.extractLsb' (32 * j) 32

/-- Whether a new period of `ns` nanoseconds of USEC has begun since an instant: what the device does once in each. -/
def Dev.newPeriod (s : Dev) (last : Option Nat) (ns : Nat) : Bool :=
  last.all (fun t => decide ((t + ns - s.usec0 % ns) / ns < (s.now + ns - s.usec0 % ns) / ns))

/-- Whether `ns` nanoseconds have passed since the instant `t0`. -/
def Dev.elapsed (s : Dev) (t0 ns : Nat) : Bool := decide (t0 + ns ≤ s.now)

/-! ### Instances -/

def Dev.rail (s : Dev) (n : Fin 48) : Rail := s.rails.get n
def Dev.setRail (s : Dev) (n : Fin 48) (r : Rail) : Dev := { s with rails := s.rails.set n.val r n.isLt }
def Dev.teller (s : Dev) (k : Fin 8) : Teller := s.tellers.get k
def Dev.setTeller (s : Dev) (k : Fin 8) (t : Teller) : Dev :=
  { s with tellers := s.tellers.set k.val t k.isLt }
def Dev.door (s : Dev) (d : Fin 4) : Door := s.doors.get d
def Dev.setDoor (s : Dev) (d : Fin 4) (x : Door) : Dev := { s with doors := s.doors.set d.val x d.isLt }
def Dev.owner (s : Dev) (r : BitVec 8) : Owner := s.owners.get r.toFin
def Dev.setOwner (s : Dev) (r : BitVec 8) (o : Owner) : Dev :=
  { s with owners := s.owners.set r.toFin.val o r.toFin.isLt }

/-- All rails, L00 first. -/
def allRails : List (Fin 48) := List.finRange 48

/-- Whether a rail lies in a set. -/
def railIn (m : RailSet) (n : Fin 48) : Bool := m.getLsbD n.val

/-- The set holding one rail. -/
def railOne (n : Fin 48) : RailSet := 1#48 <<< n.val

/-- The rails of a set, L00 first. -/
def railsOf (m : RailSet) : List (Fin 48) := allRails.filter (railIn m)

/-- Mask m (R180, R656). -/
def Dev.maskSet (s : Dev) (m : Nat) : RailSet :=
  BitVec.ofNat 48 (s.get (F.M_LO_RAILS m) + s.get (F.M_HI_RAILS m) * 2 ^ 32)

/-- A rail set held as a low and a high field. -/
def Dev.set48 (s : Dev) (lo hi : Fld) : RailSet := BitVec.ofNat 48 (s.get lo + s.get hi * 2 ^ 32)

/-- R153: the rails named in a rail's interlock. -/
def Dev.gateSet (s : Dev) (n : Fin 48) : RailSet :=
  s.set48 (F.RAIL_GATEL_GATEL n) (F.RAIL_GATEH_GATEH n)

/-- Whether a rail is a controller rail, L00-L07. -/
def isCtl (n : Fin 48) : Bool := decide (n.val < 8)

def Dev.isGood (s : Dev) (n : Fin 48) : Bool := (s.rail n).code == .good

/-- Every rail of a set is GOOD. -/
def Dev.allGood (s : Dev) (m : RailSet) : Bool := (railsOf m).all s.isGood

/-! ### Modes -/

/-- SYS.MODE.EFF (R30). -/
def Dev.eff (s : Dev) : Mode :=
  match s.get F.SYS_MODE_EFF with
  | 1 => .audit
  | 2 => .watch
  | _ => .guard

/-- The device runs its main region's functions: RUN or HOLD-UP. -/
def Dev.live (s : Dev) : Bool := s.dev == .run || s.dev == .holdUp

/-- The device is in BOOT at a step. -/
def Dev.atStep (s : Dev) (k : Nat) : Bool := s.dev == .boot && s.get F.SYS_STATE_BOOTSTEP == k

/-- The main region has supply, clock and is not held or stopped. -/
def Dev.mainAlive (s : Dev) : Bool := !s.vault.mainHeld && !s.vault.mainDead

/-- R724: the table runs from the acceptance of an entry's cause. -/
def Dev.tableRuns (s : Dev) : Bool := s.vault.run.isSome || s.vault.pend.isSome

/-- R688, R689: the instruction carried out: EXTEST and HIGHZ in BOOT-FAIL only. -/
def Dev.tapActive (s : Dev) : BitVec 4 := if s.dev ≠ .bootFail ∧ (s.tapIr = 0 ∨ s.tapIr = 2) then 0xF else s.tapIr

/-- R689, R690: the test access port has the pins: EXTEST or HIGHZ in BOOT-FAIL. -/
def Dev.tapTakes (s : Dev) : Bool := s.tapActive == 0 || s.tapActive == 2

/-- R58, R681, R689: the device's own functions drive no host output: VSUP is below 11.0 V, or the test access port has the
pins. -/
def Dev.muted (s : Dev) : Bool := s.pwr.vsupLow || s.tapTakes

/-- R364, R58: the vault pulls FLT_N low: it has a cause to, and VSUP carries it. -/
def Dev.pulls (s : Dev) : Bool := s.vault.drive.isSome && !s.pwr.vsupLow

/-- R363-R368: FLT_N is low, whoever pulls it. -/
def Dev.fltLow (s : Dev) : Bool := s.pulls || s.vault.lineLow

/-- SYS.LOCK.LOCKED (R155). -/
def Dev.locked (s : Dev) : Bool := s.flag F.SYS_LOCK_LOCKED

/-- The sag governor's level (R68). -/
def Dev.sag (s : Dev) : Nat := s.get F.PWR_STATUS_SAG

/-- The throttling level in force (R332). -/
def Dev.level (s : Dev) : Nat := s.get F.THERM_STATUS_LEVEL

/-! ### Alert causes (R608-R611) -/

/-- R608, R609, R611, R643: set a cause bit of a door. An enabled bit that rises makes SMBALERT_C low again on door C
and queues an event frame on door D, 16 at most. -/
def Dev.cause (s : Dev) (d : Fin 4) (bit : Nat) : Dev :=
  let old := s.get (F.DOOR_ACAUSE_CAUSE d)
  let rises := !old.testBit bit && (s.get (F.DOOR_AEN_EN d)).testBit bit
  let s1 := s.setBit (F.DOOR_ACAUSE_CAUSE d) bit
  if rises then
    if d = 2 then { s1 with smbRel := false }
    else if d = 3 then
      if s1.evq.length < 16 then { s1 with evq := s1.evq ++ [(bit, s1.stamp)] }
      else { s1 with evOvf := true, evDropped := true }
    else s1
  else s1

/-- A cause set on every door. -/
def Dev.causeAll (s : Dev) (bit : Nat) : Dev :=
  (((s.cause 0 bit).cause 1 bit).cause 2 bit).cause 3 bit

/-- R608: the cause bits by name. -/
def cWindow : Nat := 0
def cStmt : Nat := 1
def cPosted : Nat := 2
def cRefused : Nat := 3
def cFault : Nat := 4
def cState : Nat := 5
def cOwn : Nat := 6
def cMbox : Nat := 7
def cLasting : Nat := 8

/-- R572: whether the latent intervals count: in RUN, in AUDIT or GUARD, below sag level 2. -/
def Dev.latCounts (s : Dev) : Bool := s.dev == .run && s.eff != .watch && decide (s.sag < 2)

/-- R572: bring the latent time up to this instant. Called before and after every change it depends on. -/
def Dev.latSync (s : Dev) : Dev :=
  let l := s.lat
  { s with lat := { l with
      ns := l.ns + (match l.since with | some t => s.now - t | none => 0)
      since := if s.latCounts then some s.now else none } }

/-- Change the device state, with the STATE cause of R608. -/
def Dev.setDev (s : Dev) (d : DevState) : Dev :=
  if s.dev = d then s else ({ s with dev := d }).latSync.causeAll cState

/-- Change the effective mode, with the STATE cause of R608. -/
def Dev.setEff (s : Dev) (m : Mode) : Dev :=
  if s.eff = m then s else (s.put F.SYS_MODE_EFF m.code).latSync.causeAll cState

/-- Change the sag governor's level (R68). -/
def Dev.setSag (s : Dev) (l : Nat) : Dev := (s.put F.PWR_STATUS_SAG l).latSync

/-! ### The journal queue (R522-R526) -/

/-- Enter one record; the queue has a free entry. -/
def Dev.jEnter (s : Dev) (r : JRec) : Dev :=
  { s with jq := s.jq ++ [(s.jIn, r)], jIn := s.jIn + 1 }

/-- R525: a device record enters while any of the 128 entries is free; otherwise it is dropped and counted. After
drops, the next record that enters is a JLOST record with their count. -/
def Dev.jPush (s : Dev) (r : JRec) : Dev :=
  let s1 := if s.jLost ≠ 0 ∧ s.jq.length < 128 then
      { (s.jEnter ⟨0x0A02, 0, false, false, s.vault.shadow, s.recStamp, BitVec.ofNat 32 s.jLost, 0, none⟩) with jLost := 0 }
    else s
  if s1.jq.length < 128 then s1.jEnter r
  else
    ({ s1 with jLost := s1.jLost + 1 }).bump F.LEDG_JLOST_LOST |>.mark F.LEDG_EVENT_JLOST

/-- A record of this instant. -/
def Dev.jRec (s : Dev) (typ obj : Nat) (arg0 arg1 : Word) (ff probe : Bool := false) : JRec :=
  ⟨typ, obj, ff, probe, s.vault.shadow, s.recStamp, arg0, arg1, none⟩

/-- Journal a record of this instant (R523). -/
def Dev.journal (s : Dev) (typ obj : Nat) (arg0 arg1 : Word := 0) (ff probe : Bool := false) : Dev :=
  s.jPush (s.jRec typ obj arg0 arg1 ff probe)

/-! ### Entries to the shutdown table (R357-R362, R724) -/

/-- R358, R359, R362: record an entry as merged. -/
def Dev.mergeEntry (s : Dev) (e : Entry) (cause : Nat) (inBoot : Bool) : Dev :=
  (s.journal 0x0706 e.code (BitVec.ofNat 32 cause) (if inBoot then 1 else 0)).mark F.SHUT_EVENT_MERGED

/-- The rank that a new entry must exceed: that of the entry accepted or running (R359). -/
def Vault.topRank (v : Vault) : Option Nat :=
  match v.pend, v.run with
  | some p, _ => some p.entry.rank
  | none, some r => some r.entry.rank
  | none, none => none

/-- R361: the TABLE_START record. -/
def Dev.tableStartRec (s : Dev) (e : Entry) (cause : Nat) : Dev :=
  s.journal 0x0701 e.code (BitVec.ofNat 32 cause)

/-- R724, R166, R668: the vault accepts an entry at this instant: the table runs from here on, SEQ_OUT is pulled low, and an open
calibration set closes. -/
def Dev.acceptEntry (s : Dev) (e : Entry) (cause : Nat) (jump : Bool) : Dev :=
  let s1 := s.putB F.CASC_STATUS_SEQOUT false
  { s1 with calOpen := none, vault := { s1.vault with pend := some ⟨e, cause, s.now, jump⟩ } }

/-- R357-R359, R362, R724: request an entry to the table at this instant (d of R369). Before boot step 8 it is only
recorded; an entry of equal or lower rank is merged; one of higher rank waits for its first step. An accepted entry of
lower rank that has not begun is recorded as merged where it was requested at the same instant (R358); else it counts as a
run, with its TABLE_START record, which the higher entry abandons (R359). Without a vault there is no table (R562). -/
def Dev.requestEntry (s : Dev) (e : Entry) (cause : Nat) : Dev :=
  if s.flag F.SAFE_STATUS_VAULTLOST then s
  else if !s.vault.loaded then s.mergeEntry e cause true
  else
    match s.vault.topRank with
    | none => s.acceptEntry e cause false
    | some r =>
      if e.rank ≤ r then s.mergeEntry e cause false
      else
        match s.vault.pend with
        | some p =>
          if p.d = s.now then (s.mergeEntry p.entry p.cause false).acceptEntry e cause p.jump
          else (((s.tableStartRec p.entry p.cause).setBit F.SHUT_EVENT_RAN p.entry.code).acceptEntry e cause true)
        | none => s.acceptEntry e cause true

/-- R586, R605: the result of a refused single write. -/
def Dev.writeRefused (s : Dev) (d : Fin 4) (reg : Nat) (r : Reason) : Dev :=
  (((s.put (F.DOOR_WRES_REG d) reg).put (F.DOOR_WRES_REASON d) r.code).bump (F.DOOR_WRES_COUNT d)).cause d cRefused

/-! ### WATCH and dangerous faults -/

/-- R45: a wake event in SYS.WAKE. -/
def Dev.wakeReg (s : Dev) (bit : Nat) : Dev :=
  match bit with
  | 0 => s.put F.SYS_WAKE_WAKEPIN 1
  | 1 => s.put F.SYS_WAKE_WINDOW 1
  | 6 => s.put F.SYS_WAKE_FAULT 1
  | 7 => s.put F.SYS_WAKE_VINLOSS 1
  | b => s.setBit F.SYS_WAKE_DOOR (b - 2)

/-- R236: a wake event for the next WWAKE of whichever teller is or comes to be the watch teller. -/
def Dev.wakeTellers (s : Dev) (bit : Nat) : Dev :=
  (List.finRange 8).foldl (fun (a : Dev) (k : Fin 8) =>
    a.setTeller k { a.teller k with causes := (a.teller k).causes ||| (1#8 <<< bit) }) s

/-- The teller that runs in WATCH (R37). -/
def Dev.isWatchTeller (s : Dev) (k : Fin 8) : Bool := s.get F.SYS_MODE_WTELLER == k.val

/-- R37, R200: between wake events the watch teller is WAITING, wherever in its program WATCH or its being named met it. -/
def Dev.dozes (s : Dev) (k : Fin 8) : Bool :=
  s.eff == .watch && s.isWatchTeller k && !s.awake && (s.teller k).st == .running

/-- R195: the time counted up to now. The rule counts while WDOG is not 0; a WDOG set later finds here the whole time RUNNING
since the last wait or KICK (log entry 38). -/
def Dev.wdogNow (s : Dev) (k : Fin 8) : Nat :=
  (s.teller k).wdogNs + (if s.dozes k then 0 else s.now - (s.teller k).runAt)

/-- R195: the dozing watch teller runs again from now on. -/
def Dev.rouse (s : Dev) : Dev :=
  (List.finRange 8).foldl (fun (a : Dev) (k : Fin 8) =>
    if s.dozes k then a.setTeller k { a.teller k with runAt := s.now } else a) s

/-- R37, R39, R45: record a wake event in SYS.WAKE and for the tellers' next WWAKE (R236); the watch teller runs. Only in
WATCH. -/
def Dev.wake (s : Dev) (bit : Nat) : Dev :=
  if s.eff = .watch then { ((s.rouse.wakeReg bit).wakeTellers bit) with awake := true } else s

/-- R117: the gates' next comparison starts from the angles of this instant. -/
def Dev.gateFresh (s : Dev) : Dev :=
  { s with tal := { s.tal with gateA := s.ang.toNat, gateS := s.sturn, gateDue := [] } }

/-- R41, R42: leave WATCH for GUARD, with the requested mode GUARD; the exit is complete later (R44). A dozing watch teller runs
from here on, its watchdog count as it was (R201). -/
def Dev.leaveWatch (s : Dev) : Dev :=
  if s.eff = .watch then { ((s.rouse.put F.SYS_MODE_REQ 0).setEff .guard).gateFresh with watchExit := true } else s

/-- The 48 measurement words of this instant (R514). -/
def Dev.measAll (s : Dev) : List Word := allRails.map (fun n => s.stored (0x410 + 0x40 * n.val))

/-- The STATE byte of R519. -/
def Dev.stateByte (s : Dev) : Byte :=
  BitVec.ofNat 8 (s.dev.code + 16 * s.eff.code + (if s.tableRuns then 64 else 0) + (if s.locked then 128 else 0))

/-- The LEVELS byte of R519. -/
def Dev.levelsByte (s : Dev) : Byte := BitVec.ofNat 8 (s.level + 8 * s.sag)

/-- The TALLY byte of R519. -/
def Dev.tallyByte (s : Dev) : Byte := BitVec.ofNat 8 (s.get F.TALLY_POS_STATE)

/-- R200: the state that a teller's STATUS shows: a dozing watch teller is WAITING. -/
def Dev.shownState (s : Dev) (k : Fin 8) : TRun := if s.dozes k then .waiting else (s.teller k).st

/-- The TSTAT word of R519. -/
def Dev.tstat (s : Dev) : Word :=
  BitVec.ofNat 32 ((List.finRange 8).foldl (fun a k =>
    let t := s.teller k
    a + ((s.shownState k).code + (if t.exc then 4 else 0) + (if t.d then 8 else 0)) * 2 ^ (4 * k.val)) 0)

/-- R514: freeze the folio's content for a fault of this instant. -/
def Dev.freeze (s : Dev) (kind obj : Nat) (dangerous : Bool) (arg0 arg1 : Word) : Folio :=
  { stamp := s.recStamp, kind := kind, obj := obj, dangerous := dangerous, shadow := s.vault.shadow, arg0 := arg0,
    arg1 := arg1, state := s.stateByte, tally := s.tallyByte, levels := s.levelsByte, meas := s.measAll,
    pcs := (List.finRange 8).map (fun k => (s.teller k).pc), tstat := s.tstat, at_ := s.now }

/-- R513: this boot's folio is still empty. -/
def Dev.folioFree (s : Dev) : Bool := s.folio.isNone

/-- R513: of the faults decided in one cycle a dangerous one comes before a FAULT, then the lower KIND, then the lower OBJ. -/
def Folio.precedes (f : Folio) (kind obj : Nat) (dangerous : Bool) : Bool :=
  if f.dangerous != dangerous then f.dangerous
  else decide (f.kind < kind) || (f.kind == kind && decide (f.obj ≤ obj))

/-- R513: the folio admits a fault of this instant: it is empty, or holds a fault of the same cycle that this one precedes. -/
def Dev.folioTakes (s : Dev) (kind obj : Nat) (dangerous : Bool) : Bool :=
  match s.folio with
  | none => true
  | some f => f.at_ == s.now && !s.folioDone && !f.precedes kind obj dangerous

/-- R513, R524: no record and no probe names the folio's fault. -/
def Dev.folioYields (s : Dev) : Dev :=
  { s with
    folioVer := none
    jq := s.jq.map (fun q => (q.1, { q.2 with ff := false }))
    probes := s.probes.map (fun (p : Probe) => { p with folio := false })
    probing := s.probing.map (fun (p : Probe) => { p with folio := false }) }

/-- R513, R514: take a fault into the folio where the folio admits it; a fault of the same cycle that yields goes to the journal
alone. -/
def Dev.intoFolio (s : Dev) (kind obj : Nat) (dangerous : Bool) (arg0 arg1 : Word) : Dev :=
  if s.folioTakes kind obj dangerous then
    { (if s.folioFree then s else s.folioYields) with folio := some (s.freeze kind obj dangerous arg0 arg1) }
  else s

/-- R41, R45, R608: a dangerous fault wakes and ends WATCH and sets the FAULT cause. -/
def Dev.alarm (s : Dev) : Dev := ((s.wake 6).leaveWatch).causeAll cFault

/-- R545, R41, R357, R608: what a dangerous fault does beside its record: it also requests the entry at DANGEROUS. -/
def Dev.dangerous (s : Dev) (cause : Nat) : Dev := s.alarm.requestEntry .dangerous cause

/-! ### Probes (R547-R552) -/

/-- The free value of this instant: unconstrained, one place of the sequence (log entry 20). -/
def Dev.free (s : Dev) : Word := Config.freeWord s.fresh

/-- The state with the next free value in place. -/
def Dev.spent (s : Dev) : Dev := { s with fresh := s.fresh + 1 }

/-- R548, R523: write a VERDICT record. It names its error by the slot of the error's record; for a PROBE of its own
the ARG0 is 0xFFFF_FFFF; where the error's record never entered the queue the spec names no slot, and ARG0 is free. -/
def Dev.verdictRec (s : Dev) (typ obj : Nat) (recNo : Option Nat) (cls : Nat) (v : Verdict) : Dev :=
  let r := s.jRec 0x0A01 obj (if typ = 0 then 0xFFFFFFFF#32 else s.free)
    (BitVec.ofNat 32 (v.code + cls * 256 + typ * 65536)) false false
  let s1 := (if typ = 0 then s else s.spent).jPush { r with slotOf := recNo }
  if v = .lasting then (s1.mark F.SAFE_EVENT_LASTING).causeAll cLasting else s1

/-- R520: the verdict of the fault that stands in the folio. -/
def Dev.folioVerdict (s : Dev) (isFolio : Bool) (v : Verdict) : Dev :=
  if isFolio && s.folioVer.isNone then { s with folioVer := some (v, s.usec.truncate 32) } else s

/-- R494: a temperature reading for TEMPMAX. -/
def HAcc.heat (a : HAcc) (t : Int) : HAcc := { a with tempMax := some (match a.tempMax with | some m => max m t | none => t) }

/-- R550, R266: a probe of the path `r` probes the path `q` too: a window with its PG input, or in a self-test, holds the window,
and the probe of SHORT_SS and OC the current reports of the controller's phases. -/
def Dev.serves (s : Dev) (r q : Path) : Bool :=
  r == q ||
    match r, q with
    | .windowPg n, .window m => n == m
    | .selftest 0 n, .window m => n == m.val
    | .sc c, .isns p => decide (s.get (F.SC_MAP_FIRST c) ≤ p.val) &&
        decide (p.val < s.get (F.SC_MAP_FIRST c) + s.get (F.SC_MAP_COUNT c))
    | _, _ => false

/-- R550: probes of the two paths would probe one path twice at a time. -/
def Dev.shares (s : Dev) (p q : Path) : Bool := s.serves p q || s.serves q p

/-- R554, R411: in WATCH a probe runs from the first 10 ms tick after its error's decision. -/
def Dev.ticked (s : Dev) (p : Probe) : Bool := s.eff != .watch || decide (p.since + 10000000 < s.tickAt)

/-- R550, R266: the path of the probe that runs or waits and probes `q` too, or `q` itself. -/
def Dev.servedBy (s : Dev) (q : Path) : Path := (((s.probing ++ s.probes).map (·.path)).find? (fun r => s.serves r q)).getD q

/-- R552: the probes that wait: one for each path, however many errors wait for it. -/
def Dev.waitingProbes (s : Dev) : Nat := (s.probes.map (·.path)).eraseDups.length

/-- R549, R550, R552: an error joins the probe or latent test that runs or waits on its path; otherwise its probe takes a
waiting place; with all 16 taken the verdict is INCONCLUSIVE at once, and PROBE_LOST is recorded. DESIGN CHOICE (log entry 43): so
it is for a PROBE of a program too, of which R552 does not speak: its PROBE_LOST has TYPE 0 and a free value as its slot. -/
def Dev.wantProbe (s : Dev) (p0 : Probe) : Dev :=
  let p := { p0 with path := s.servedBy p0.path }
  if s.probing.any (fun q => q.path == p.path) then { s with probing := s.probing ++ [p] }
  else if s.probes.any (fun q => q.path == p.path) || decide (s.waitingProbes < 16) then { s with probes := s.probes ++ [p] }
  else
    let s1 := s.verdictRec p.typ p.obj p.recNo p.cls .inconclusive
    let s2 := s1.folioVerdict p.folio .inconclusive
    let r := s2.jRec 0x0A1A 0 s2.free (BitVec.ofNat 32 p.typ)
    (s2.spent.jPush { r with slotOf := p.recNo }).mark F.SAFE_EVENT_PROBE_LOST

/-- R544: declare an error: its record (with FF and PROBE), the folio where R513 admits a dangerous fault, the reaction,
its probe. `path` is none for the errors R547 does not probe, whose verdict is INCONCLUSIVE at once. -/
def Dev.declareBy (s : Dev) (typ obj : Nat) (arg0 arg1 : Word) (isDangerous : Bool) (react : Dev → Dev) (path : Option Path) : Dev :=
  let takes := isDangerous && s.folioTakes typ obj true
  let s1 := if isDangerous then s.intoFolio typ obj true arg0 arg1 else s
  let no := s1.jIn + (if s1.jLost ≠ 0 then 1 else 0)
  let entered := decide (s1.jq.length + (if s1.jLost ≠ 0 then 1 else 0) < 128)
  let s2 := s1.journal typ obj arg0 arg1 takes true
  let s3 := react s2
  let recNo := if entered then some no else none
  match path with
  | some q => s3.wantProbe ⟨q, typ, obj, recNo, takes, 0, none, false, s3.now, false⟩
  | none => (s3.verdictRec typ obj recNo 0 .inconclusive).folioVerdict takes .inconclusive

/-- R544, R545: declare an error with the reaction that every error of its kind has. -/
def Dev.declare (s : Dev) (typ obj : Nat) (arg0 arg1 : Word) (isDangerous : Bool) (path : Option Path) : Dev :=
  s.declareBy typ obj arg0 arg1 isDangerous (fun t => if isDangerous then t.dangerous typ else t) path

end Sys2Proof.Machine
end

