-- ==== Sys2Proof/Machine/Rails.lean ====
section
/-! DEFINITION. Rails (04): conditions, outputs, the reset outputs and the cascade, leaving GOOD with GATE_LOST, fault
reactions, ON and OFF, and the rail commands of the table. -/

namespace Sys2Proof.Machine

/-! ### Conditions -/

/-- The controller of a controller rail shows `op` (SC[n].STATUS.OP). -/
def Dev.scOp (s : Dev) (n : Nat) : Nat := s.get (F.SC_STATUS_OP n)
def scIdle : Nat := 1
def scStart : Nat := 2
def scRegulating : Nat := 3
def scStop : Nat := 4
def scDischarge : Nat := 5
def scHeld : Nat := 6

/-- R158: the accepted PG level is the active one. -/
def Dev.pgActive (s : Dev) (n : Fin 48) : Bool := (s.rail n).pg == s.flag (F.RAIL_CFG_PGPOL n)

/-- "Inside the window" (04): neither comparator shows its condition at its live output. -/
def Dev.inWindow (s : Dev) (n : Fin 48) : Bool := !(s.rail n).uvLive && !(s.rail n).ovLive

/-- The composite good condition of the two classes of rail (04). -/
def Dev.goodCond (s : Dev) (n : Fin 48) : Bool :=
  s.inWindow n &&
    (if isCtl n then s.scOp n == scRegulating else !s.flag (F.RAIL_CFG_PGUSE n) || s.pgActive n)

/-- R140(1): the interlock is met. -/
def Dev.gateOk (s : Dev) (n : Fin 48) : Bool :=
  s.allGood (s.gateSet n) && (!s.flag (F.RAIL_CFG_SEQINREQ n) || s.seqIn)

/-- R140(4), R53, R565: VIN at or above VSTART, judged on the power-entry monitor, or on the latest VALID result of CV5
channel 12 while MONLOST. -/
def Dev.vinOk (s : Dev) : Bool :=
  let v := if s.flag F.SAFE_STATUS_MONLOST then ((s.cvs.get 5).valid12).getD 0 else s.get F.PWR_VIN_V
  decide (s.get F.PWR_START_VSTART * 1000 ≤ v)

/-- RAIL[n].MEAS as it stands. -/
def Dev.meas (s : Dev) (n : Fin 48) : Word := s.stored (0x410 + 0x40 * n.val)

/-- The last published result lies below VOFF; a rail with no result yet reads 0 (log entry 12). -/
def Dev.belowVoff (s : Dev) (n : Fin 48) : Bool :=
  decide (((s.rail n).result.getD 0) < s.get (F.RAIL_VOFF_VOFF n))

/-- The journal's ARG1 of a rail record: the state before the event. -/
def codeArg (c : RailCode) : Word := BitVec.ofNat 32 c.code

/-! ### Purses of a rail -/

/-- R315: credit a rail's granted coins back, up to CAP. -/
def Dev.creditRail (s : Dev) (n : Fin 48) : Dev :=
  if (s.rail n).inrush = .granted then
    { s with inrushUj := min (s.get F.PURSE_INCFG_CAP * 1000) (s.inrushUj + (s.rail n).inrushAmt * 1000) }
  else s

/-- Release a HEAT reservation of a rail (R327). -/
def Dev.dropHeat (s : Dev) (n : Fin 48) : Dev :=
  { s with heatRes := s.heatRes.filter (fun h => h.who != HWho.rail n) }

/-- R136, R308, R315: a rail's requests are withdrawn and its grants released on leaving ARMED other than to RISING. -/
def Dev.withdrawRail (s : Dev) (n : Fin 48) (credit : Bool) : Dev :=
  let s1 := if credit then s.creditRail n else s
  let s2 := { s1 with preqs := s1.preqs.filter (fun q => q.who != PWho.rail n) }
  let s3 := s2.dropHeat n
  s3.setRail n { s3.rail n with inrush := .none, heat := .none, inrushAmt := 0, reqAt := none, waitVin := false }

/-! ### Reset outputs and the cascade -/

/-- The instant since which every rail of a set has been GOOD, where all are. -/
def Dev.goodSince (s : Dev) (m : RailSet) : Nat := (railsOf m).foldl (fun (a : Nat) n => max a (s.rail n).stateAt) 0

def rstoMask (s : Dev) (k : Fin 8) : RailSet := s.set48 (F.RSTO_MASKL_MASKL k) (F.RSTO_MASKH_MASKH k)
def cascMask (s : Dev) : RailSet := s.set48 F.CASC_MASKL_MASKL F.CASC_MASKH_MASKH

/-- How a reset output is to be judged anew: not (`keep`), its running stretch restarts (`restart`, R164), or whether its
masked rails have been GOOD for STRETCH (`judge`, R161: after a change of CLAIM, MODE or its mask). -/
inductive RstoJudge where
  | keep | restart | judge
deriving DecidableEq, Repr

/-- R160-R164: drive a reset output as MODE, its mask and the vault say at an event: asserted by the vault, by ASSERT,
by an empty mask or a masked rail out of GOOD; released by RELEASE. With all masked rails GOOD an asserted AUTO output
stretches, and a released one stays so, unless it is to be judged and the rails have not been GOOD for STRETCH. -/
def Dev.rstoEval (s : Dev) (k : Fin 8) (j : RstoJudge) : Dev :=
  let asserted := (s.get F.RSTO_STATUS_ASSERTED).testBit k
  let put (s : Dev) (a st : Bool) : Dev :=
    let s1 := if a then s.setBit F.RSTO_STATUS_ASSERTED k else s.clrBit F.RSTO_STATUS_ASSERTED k
    if st then s1.setBit F.RSTO_STATUS_STRETCHING k else s1.clrBit F.RSTO_STATUS_STRETCHING k
  if !s.flag (F.RSTO_CFG_CLAIM k) then put s false false
  else if s.vault.rsto.toNat.testBit k then put s true false
  else
    match s.get (F.RSTO_CFG_MODE k) with
    | 1 => put s true false
    | 2 => put s false false
    | _ =>
      let m := rstoMask s k
      if m = 0 ∨ ¬ s.allGood m then put s true false
      else
        let since (t : Nat) : Dev := put { s with rstoAt := s.rstoAt.set k.val t k.isLt } true true
        let stretching := (s.get F.RSTO_STATUS_STRETCHING).testBit k
        if asserted then
          (if stretching then (if j = .keep then s else since s.now) else since (s.goodSince m))
        else if j = .judge ∧ ¬ s.elapsed (s.goodSince m) (s.get (F.RSTO_CFG_STRETCH k) * 1000000 - 10000) then
          since (s.goodSince m)
        else s

/-- R683: the main region counts as stopped: its EN and RSTO pins keep their level until a table step switches them. -/
def Dev.regionStops (s : Dev) : Bool := !s.mainAlive || s.flag F.SAFE_STATUS_CLKFAIL

/-- R161, R683 for every reset output. -/
def Dev.rstoAll (s : Dev) : Dev := if s.regionStops then s else (List.finRange 8).foldl (fun a k => a.rstoEval k .keep) s

/-- R165: the instant from which OUTDLY counts: the cascade rails all GOOD, or a later restart. -/
def Dev.cascSince (s : Dev) : Nat := max s.cascAt (s.goodSince (cascMask s))

/-- R165, R166: SEQ_OUT is low unless every masked rail has been GOOD for OUTDLY and the table does not run. `restart`
restarts the OUTDLY timing. -/
def Dev.cascEval (s0 : Dev) (restart : Bool) : Dev :=
  let s : Dev := if restart then { s0 with cascAt := s0.now } else s0
  let m := cascMask s
  if restart || !s.flag F.CASC_CFG_CLAIM || s.tableRuns || decide (m = 0) || !s.allGood m then
    (s.putB F.CASC_STATUS_SEQOUT false)
  else s

/-- R165: CLAIM becomes 1: SEQ_OUT is low unless every masked rail has been GOOD for OUTDLY already. -/
def Dev.cascClaim (s : Dev) : Dev :=
  let t := s.cascEval false
  let m := cascMask t
  if t.flag F.CASC_CFG_CLAIM && !t.tableRuns && decide (m ≠ 0) && t.allGood m then
    t.putB F.CASC_STATUS_SEQOUT (t.elapsed t.cascSince (t.get F.CASC_CFG_OUTDLY * 100000))
  else t

/-- What the entry of rail `n` to GOOD starts: the stretches and the OUTDLY timing of the outputs that name it. -/
def Dev.enteredGood (s : Dev) (n : Fin 48) : Dev :=
  let s1 := s.rstoAll
  if railIn (cascMask s1) n then s1.cascEval true else s1

/-! ### Outputs -/

def Dev.sc (s : Dev) (n : Fin 8) : Sc := s.scs.get n
def Dev.setSc (s : Dev) (n : Fin 8) (x : Sc) : Dev := { s with scs := s.scs.set n.val x n.isLt }

def Dev.ph (s : Dev) (p : Fin 24) : Ph := s.phs.get p
def Dev.setPh (s : Dev) (p : Fin 24) (x : Ph) : Dev := { s with phs := s.phs.set p.val x p.isLt }

/-- R447: the phases of a controller's map, in rotation order. -/
def Dev.phasesOf (s : Dev) (n : Nat) : List (Fin 24) :=
  let f := s.get (F.SC_MAP_FIRST n)
  (List.finRange 24).filter (fun p => decide (f ≤ p.val) && decide (p.val < f + s.get (F.SC_MAP_COUNT n)))

/-- R449: the controller whose map holds a phase. -/
def Dev.ctlOf (s : Dev) (p : Fin 24) : Option (Fin 8) := (List.finRange 8).find? (fun n => (s.phasesOf n).contains p)

/-- End every on-time of a controller; its phases go to mid-level, or drive low in the discharge state (R465). -/
def Dev.phasesOff (s : Dev) (n : Fin 8) (mid : Bool) : Dev :=
  (s.phasesOf n).foldl (fun (a : Dev) (p : Fin 24) =>
    let x := a.ph p
    a.setPh p { x with onAt := none, offAt := if x.onAt.isSome then a.now else x.offAt, mid := mid, dmid := false }) s

/-- R451, R453: the target K x V_REF with its margin, in uV. -/
def Dev.scTarget (s : Dev) (n : Nat) : Nat :=
  ((s.get (F.SC_VOUT_VSET n) : Int) * (1000 + signed 9 (s.get (F.SC_MRGN_OFS n)))).toNat

/-- Move from `a` towards `b` by at most `d`. -/
def towards (a b d : Nat) : Nat := if a ≤ b then min b (a + d) else max b (a - d)

/-- R454, R463, R464: the reference of this instant in uV: towards the target at VSET / TIME in soft start and
regulation, towards 0 at VSET / STOP in soft stop, else as it stands. -/
def Dev.scRef (s : Dev) (n : Fin 8) : Nat :=
  let x := s.sc n
  let v := s.get (F.SC_VOUT_VSET n) * (s.now - x.refAt)
  let op := s.scOp n
  if op = scStart ∨ op = scRegulating then towards x.ref0 (s.scTarget n) (v / (s.get (F.SC_SOFT_TIME n) * 100))
  else if op = scStop then towards x.ref0 0 (v / (s.get (F.SC_SOFT_STOP n) * 100))
  else x.ref0

/-- Hold the reference as it stands at this instant, and go on from there. -/
def Dev.scRebase (s : Dev) (n : Fin 8) : Dev := s.setSc n { s.sc n with ref0 := s.scRef n, refAt := s.now }

/-- R454: take up a changed VSET or offset by `f`: the reference moves on from where it stands. -/
def Dev.retarget (s : Dev) (n : Fin 8) (f : Dev → Dev) : Dev :=
  let t := f (s.scRebase n)
  t.put (F.SC_REF_TARGET n) (t.scTarget n / 1000)

/-- R460: as with DEM = 0: a phase outside its on-time drives low, once the controller has had an on-time (R463). -/
def Dev.lowAgain (s : Dev) (n : Fin 8) : Dev :=
  if (s.sc n).rampAt.isNone then s
  else (s.phasesOf n).foldl (fun (a : Dev) (p : Fin 24) => a.setPh p { a.ph p with mid := false }) s

/-- Change what the controller shows in STATUS.OP; the reference goes on from where it stands. Soft stop, and regulation with
DEM = 0, leave no phase at mid-level after a zero crossing (R460). No on-time is waiting in a state without switching. -/
def Dev.setOp (s : Dev) (n : Fin 8) (op : Nat) : Dev :=
  let t := (s.scRebase n).put (F.SC_STATUS_OP n) op
  if op = scStop ∨ (op = scRegulating ∧ ¬ s.flag (F.SC_CFG_DEM n)) then t.lowAgain n
  else if op = scStart ∨ op = scRegulating then t
  else (t.setSc n { t.sc n with want := false, totHold := false, shortAt := none }).phasesOff n (op != scDischarge)

/-- R346, R462, R464, R465: what OFF (soft stop) or FOFF (discharge) does to a rail's controller; mid-level at once
where the main region cannot act, with STOP = 0, and for a controller held by a protection. -/
def Dev.ctlStop (s : Dev) (n : Fin 48) (fast : Bool) : Dev :=
  if h : n.val < 8 then
    let c : Fin 8 := ⟨n.val, h⟩
    let op := s.scOp c
    if op = 0 then s
    else if op = scHeld then s
    else if !s.mainAlive || s.flag F.SAFE_STATUS_CLKFAIL then s.setOp c scIdle
    else if fast then (if op = scDischarge then s else s.setOp c scDischarge)
    else if s.get (F.SC_SOFT_STOP c) = 0 then s.setOp c scIdle
    else if op = scStart ∨ op = scRegulating then s.setOp c scStop
    else s
  else s

/-- R461, R477: a controller whose rail is OFF or UNUSED idles at mid-level; without CLAIM its pins are
high-impedance. -/
def Dev.ctlIdle (s : Dev) (n : Fin 48) : Dev :=
  if h : n.val < 8 then s.setOp ⟨n.val, h⟩ (if s.flag (F.RAIL_CFG_CLAIM n) then scIdle else 0) else s

/-- R481: a margin of the rail is in force. -/
def Dev.margined (s : Dev) (n : Fin 48) : Bool :=
  if isCtl n then s.get (F.SC_MRGN_OFS n) != 0
  else (List.range 16).any (fun m => s.get (F.MD_CFG_RAIL m) == n.val && s.get (F.MD_CODE_PRESENT m) != 0)

/-- Change the open day's accumulator of a rail. -/
def Dev.health (s : Dev) (n : Fin 48) (f : HAcc → HAcc) : Dev :=
  match s.hday with
  | none => s
  | some h => { s with hday := some { h with acc := h.acc.set n.val (f (h.acc.get n)) n.isLt } }

/-- R496: a count of the rail goes up; the open day's follows by the register's increase. -/
def Dev.countUp (s : Dev) (n : Fin 48) (f : Fld) (g : HAcc → HAcc) : Dev :=
  if s.get f = 2 ^ f.w - 1 then s else (s.bump f).health n g

/-- R494, R495: keep MARGSEC's count and the mark of a margined interval in step with the margin. -/
def Dev.healthMargin (s : Dev) (n : Fin 48) : Dev :=
  let m := s.margined n
  s.health n (fun a =>
    match a.margAt, m with
    | none, true => { a with margAt := some s.now, margIvl := true }
    | some t, false => { a with margAt := none, margNs := a.margNs + (s.now - t) }
    | _, _ => a)

/-- R484: the target of a margin DAC becomes 0; where its code stood at its target, the first step follows MDSTEP from now. -/
def Dev.mdHome (s : Dev) (m : Fin 16) : Dev :=
  let s1 := if s.get (F.MD_CODE_TARGET m) = s.get (F.MD_CODE_PRESENT m) then { s with mdAt := s.mdAt.set m.val s.now m.isLt } else s
  s1.put (F.MD_CODE_TARGET m) 0

/-- R490: the output of a rail switches off: the present code of each margin DAC that serves it becomes 0 at once. -/
def Dev.mdOff (s : Dev) (n : Fin 48) : Dev :=
  if isCtl n then s
  else ((List.finRange 16).foldl (fun (a : Dev) (m : Fin 16) =>
    if a.get (F.MD_CFG_RAIL m) = n.val then (a.put (F.MD_CODE_PRESENT m) 0).put (F.MD_CODE_STOPPED m) 0 else a) s).healthMargin n

/-- Switch a rail's output off (R134, R346): it falls from this instant (R135), and its HEAT reservation is released
(R327), and its margin DAC with it (R490). -/
def Dev.turnOff (s : Dev) (n : Fin 48) (fast : Bool) : Dev :=
  let r := s.rail n
  if r.out = .on then
    ((((s.setRail n { r with out := .falling, offAt := s.now, fallDone := false }).ctlStop n fast).dropHeat n).mdOff n).health n
      (fun a => match a.onAt with
        | some t => { a with onAt := none, onNs := a.onNs + (s.now - t) }
        | none => a)
  else s

/-- R152: PRESENT, once per entry to OFF. -/
def Dev.checkPresent (s : Dev) (n : Fin 48) : Dev :=
  let r := s.rail n
  if r.code = .off ∧ ¬ r.uvLive ∧ ¬ r.present ∧ s.live then
    ((s.setRail n { r with present := true }).mark (F.RAIL_EVENT_PRESENT n)).journal 0x0308 n (s.meas n) (codeArg .off)
  else s

/-- R490: a rail leaving GOOD has its margin set to 0 at once: the controller's offset, or the target of each margin
DAC that serves it, whose present code becomes 0 too where the output is off. -/
def Dev.clearMargin (s : Dev) (n : Fin 48) : Dev :=
  let s1 :=
    if h : n.val < 8 then s.retarget ⟨n.val, h⟩ (fun t => t.put (F.SC_MRGN_OFS n) 0)
    else (List.finRange 16).foldl (fun (a : Dev) (m : Fin 16) =>
      if a.get (F.MD_CFG_RAIL m) = n.val then
        let b := a.mdHome m
        if (b.rail n).out = .on then b else (b.put (F.MD_CODE_PRESENT m) 0).put (F.MD_CODE_STOPPED m) 0
      else a) s
  s1.healthMargin n

/-! ### Changing a rail's state -/

/-- Set a rail's state code at this instant; entering OFF clears the latched fault (R722). -/
def Dev.setCode (s : Dev) (n : Fin 48) (c : RailCode) : Dev :=
  let r := s.rail n
  if r.code = c then s
  else
    let r1 := { r with code := c, stateAt := s.now }
    match c with
    | .off => (s.setRail n { r1 with out := .off, fault := 0, present := false }).ctlIdle n
    | .unused => (s.setRail n { r1 with out := .off, fault := 0 }).ctlIdle n
    | _ => s.setRail n r1

/-- What every departure from GOOD does beside GATE_LOST: reset outputs, SEQ_OUT, margin (R161, R166, R490). -/
def Dev.afterGood (s : Dev) (n : Fin 48) : Dev :=
  ((s.rstoAll).cascEval false).clearMargin n

/-- The codes of R148 as actions. -/
inductive React where
  | hold | note | off | fastOff | dangerous
deriving DecidableEq, Repr

/-- R148: a reaction code in the column UV, PG, RISE, CHAT or (`drop`) in the column DROP. -/
def React.of (drop : Bool) : Nat → React
  | 0 => if drop then .note else .hold
  | 1 => .off
  | 2 => .fastOff
  | _ => .dangerous

/-- R148, R149, R722: enter FAULTED with code `f`, keeping an earlier code, and do to the output what the reaction
says; HOLD and DANGEROUS leave it. An ARMED rail's requests are withdrawn without credit (R315 credits only a return
to OFF). A main region that counts as stopped switches no output (R683). -/
def Dev.enterFaulted (s : Dev) (n : Fin 48) (f : Nat) (a : React) : Dev :=
  let s1 := if (s.rail n).code = .armed then s.withdrawRail n false else s
  let r := s1.rail n
  let s2 := if r.code = .faulted then s1 else (s1.setCode n .faulted)
  let s3 := if r.code = .faulted then s2 else s2.setRail n { s2.rail n with fault := f }
  match a with
  | .off => if s3.regionStops then s3 else s3.turnOff n false
  | .fastOff => if s3.regionStops then s3 else s3.turnOff n true
  | _ => s3

/-- The rails that react to rail `n` leaving GOOD: those whose interlock names it and whose output is on in RISING,
QUALIFYING or GOOD (R147). -/
def Dev.dependants (s : Dev) (n : Fin 48) : List (Fin 48) :=
  allRails.filter (fun d => railIn (s.gateSet d) n &&
    ((s.rail d).code == .rising || (s.rail d).code == .qualifying || (s.rail d).code == .good))

/-- R547, R550: the path of the named rail's probe, running or waiting, which a GATE_LOST joins. -/
def Dev.joinPath (s : Dev) (n : Fin 48) : Option Path :=
  ((s.probing ++ s.probes).find? (fun p =>
    p.obj == n.val && (p.typ / 256 == 3 || p.typ / 256 == 4 || p.typ == 0x0503 || p.typ == 0x0504))).map (·.path)

/-- R147, R148, R151: GATE_LOST on dependant `d` of rail `n`, with its DROP reaction. -/
def Dev.gateLost (s : Dev) (n d : Fin 48) : Dev :=
  let c := (s.rail d).code
  let a := React.of true (s.get (F.RAIL_REACT_DROP d))
  let s1 := ((s.mark (F.RAIL_EVENT_GATE_LOST d)).health d (fun a => { a with faults := a.faults + 1 })).declare 0x0306 d (s.meas d)
    (BitVec.ofNat 32 (c.code + 256 * n.val)) (a == .dangerous) (s.joinPath n)
  if a = .note then s1 else s1.enterFaulted d 6 a

/-- The GATE_LOST of every dependant of the rails in `work`, in order; a dependant that so leaves GOOD joins the
work. The spec orders neither several dependants of one departure nor a departure that follows from another: the model goes
through them from L00 up, and a departure that follows comes after those before it. None is declared while the table runs
(R353): a DROP reaction of DANGEROUS on one dependant so leaves the later ones without GATE_LOST (log entry 37). `fuel` bounds
the rails that can leave GOOD. -/
def Dev.cascade : Nat → List (Fin 48) → Dev → Dev
  | 0, _, s => s
  | _, [], s => s
  | fuel + 1, n :: work, s =>
    let s0 := s.afterGood n
    if s0.tableRuns then Dev.cascade fuel work s0
    else
      let deps := s0.dependants n
      let wasGood := deps.filter s0.isGood
      let s1 := deps.foldl (fun a d => if a.tableRuns then a else a.gateLost n d) s0
      Dev.cascade fuel (work ++ wasGood.filter (fun d => !s1.isGood d)) s1

/-- What follows when rail `n` has left GOOD. -/
def Dev.leftGood (s : Dev) (n : Fin 48) : Dev := Dev.cascade 49 [n] s

/-- Do `f` to the state, then what follows if rail `n` has left GOOD by it. -/
def Dev.watchGood (s : Dev) (n : Fin 48) (f : Dev → Dev) : Dev :=
  let t := f s
  if s.isGood n && !t.isGood n then t.leftGood n else t

/-- R147, R148, R353: declare a rail fault with its reaction code; while the table runs it is only recorded. -/
def Dev.railFault (s : Dev) (n : Fin 48) (typ fcode code : Nat) (ev : Fld) (path : Path) : Dev :=
  let run := s.tableRuns
  let a := React.of false code
  let dang := !run && a == .dangerous
  let c := (s.rail n).code
  s.watchGood n (fun s =>
    let s1 := ((s.mark ev).health n (fun a => { a with faults := a.faults + 1 })).declare typ n (s.meas n) (codeArg c)
      dang (some path)
    if run then s1 else s1.enterFaulted n fcode a)

/-- R152, R133: a rail's fall is complete, or its OFF finds it below VOFF. -/
def Dev.railToOff (s : Dev) (n : Fin 48) : Dev := (s.setCode n .off).checkPresent n

/-! ### ON and OFF (R136-R139) -/

/-- The outcome of an ON at a close (R138). -/
inductive OnOutcome where
  | refused (r : Reason) | merged | nothing | arm
deriving DecidableEq, Repr

/-- R474: SHUT stands tripped on a mapped phase of the controller. -/
def Dev.stageHot (s : Dev) (n : Nat) : Bool := (s.phasesOf n).any (fun p => s.flag (F.PH_STATUS_OT p))

/-- R138: conditions 1-10 of an ON, in order. `calOpen` says that the calibration set is open (R666). -/
def Dev.onCheck (s : Dev) (n : Fin 48) (calOpen : Bool) : OnOutcome :=
  if !s.flag (F.RAIL_CFG_USED n) then .refused .unused
  else if !s.flag (F.RAIL_CFG_CLAIM n) then .refused .notClaimed
  else if isCtl n && s.get (F.SC_MAP_COUNT n) == 0 then .refused .noPhases
  else if (s.rail n).lostOv then .refused .noOvPath
  else if s.flag F.SAFE_STATUS_VAULTLOST then .refused .vaultLost
  else if s.tableRuns then .refused .tableRunning
  else if s.fltLow then .refused .fltLow
  else if calOpen then .refused .busy
  else if isCtl n && s.stageHot n then .refused .stageHot
  else
    match (s.rail n).code with
    | .falling => .refused .falling
    | .faulted => .refused .faulted
    | .armed | .rising | .qualifying => .merged
    | .good => .nothing
    | .unused => .refused .unused
    | .off => .arm

/-- R136: the rail enters ARMED by an ON of this writer, which ranks its purse requests (R304). -/
def Dev.arm (s : Dev) (n : Fin 48) (wr : Writer) : Dev :=
  let s1 := s.setCode n .armed
  s1.setRail n { s1.rail n with inrush := .none, heat := .none, inrushAmt := 0, reqAt := none, onBy := wr, waitVin := false }

/-- R133, R136, R242, R345: apply an OFF, or with `fast` a FOFF, to a rail according to its state. A FAULTED rail whose output
is off or falling goes to OFF where its last result lies below VOFF (R345). The spec does not say from which instant FALLTO
counts where the output was off already: the model counts it from the entry to FALLING (log entry 37). -/
def Dev.off (s : Dev) (n : Fin 48) (fast : Bool) : Dev :=
  s.watchGood n (fun s =>
    let r := s.rail n
    match r.code with
    | .unused | .off => s
    | .armed => (s.withdrawRail n true).railToOff n
    | .rising | .qualifying | .good => (s.setCode n .falling).turnOff n fast
    | .falling => if fast then s.ctlStop n true else s
    | .faulted =>
      if r.out = .on then (s.setCode n .falling).turnOff n fast
      else
        let s1 := if fast then s.ctlStop n true else s
        if s.belowVoff n then s1.railToOff n
        else
          let s2 := s1.setCode n .falling
          if r.out = .falling then s2 else s2.setRail n { s2.rail n with out := .falling, offAt := s.now, fallDone := false })

/-- R562: fast off of every USED rail. -/
def Dev.fastOffAll (s : Dev) : Dev :=
  allRails.foldl (fun (a : Dev) (n : Fin 48) => if a.flag (F.RAIL_CFG_USED n) then a.off n true else a) s

/-- R465: the vault's fast off of a controller rail, which ends with its run. -/
def Dev.fastBy (s : Dev) (n : Fin 48) (fast : Bool) : Dev :=
  if fast && isCtl n then { s with vault := { s.vault with fasts := s.vault.fasts ||| railOne n } } else s

/-- The rails a vault action changes: marked for the precedence of the next close (R18, R19). -/
def Dev.vaultOff (s : Dev) (n : Fin 48) (fast : Bool) : Dev :=
  let t := (s.off n fast).fastBy n fast
  if (t.rail n).code = (s.rail n).code ∧ (t.rail n).out = (s.rail n).out then t
  else { t with vaultRails := t.vaultRails ||| railOne n }

/-! ### The start of a controller (R463) -/

/-- R463: on entry to RISING the reference starts at the feedback monitor's value where it lies between 0 and the
target, else at 0; the controller is in soft start. -/
def Dev.startRamp (s : Dev) (n : Fin 48) : Dev :=
  if h : n.val < 8 then
    let c : Fin 8 := ⟨n.val, h⟩
    let fb := s.get (F.SC_FBMON_WORD c) % 2 ^ 20 * 100
    let t := ((s.put (F.SC_REF_TARGET c) (s.scTarget c / 1000)).put (F.SC_STATUS_OP c) scStart).phasesOff c true
    let u := (t.phasesOf c).foldl (fun (a : Dev) (p : Fin 24) => a.setPh p { a.ph p with fltDone := false }) t   -- R469
    u.setSc c { u.sc c with
      ref0 := if fb ≤ s.scTarget c then fb else 0
      refAt := s.now
      limAt := s.now
      limEnd := 0
      shortAt := none
      rampAt := none }
  else s

end Sys2Proof.Machine
end

