-- ==== Sys2Proof/Machine/Modulator.lean ====
section
/-! DEFINITION. What the stage controllers' meanings share (12): on-times, current limits in force, exclusion and
holding of phases; and the measurement word (R377). -/

namespace Sys2Proof.Machine

/-- R377: a measurement word. -/
def measWord (v seq : Nat) (clip ready valid : Bool) : Word :=
  BitVec.ofNat 32 (v % 2 ^ 20 + seq % 256 * 2 ^ 20 + (if clip then 2 ^ 28 else 0) + (if ready then 2 ^ 30 else 0) +
    (if valid then 2 ^ 31 else 0))

/-- R379: the SEQ of the word after `w`. -/
def nextSeq (w : Nat) : Nat := (w / 2 ^ 20 + 1) % 256

/-! ### Feedforward and on-times (R456, R457) -/

/-- R457: the value of a controller's feedforward source, 100 uV; none while it has no VALID value. -/
def Dev.ffSource (s : Dev) (n : Nat) : Option Nat :=
  if s.flag (F.SC_CFG_FFSRC n) then
    if h : s.get (F.SC_CFG_FFRAIL n) < 48 then (s.rail ⟨s.get (F.SC_CFG_FFRAIL n), h⟩).lastValid else none
  else if s.flag F.PWR_VIN_VALID then some (s.get F.PWR_VIN_V) else none

/-- R457: V_S in 100 uV: the source, or FFVNOM (0.5 V per LSB). -/
def Dev.ffVolts (s : Dev) (n : Nat) : Nat := (s.ffSource n).getD (s.get (F.SC_CFG_FFVNOM n) * 5000)

/-- R456: the on-time in ns, and whether it is held at 30 ns or at its cap, for a reference in uV, V_S in 100 uV, FSW in
10 kHz and TADD. A cap that is not a whole number is cut to 1 ns. -/
def onTime (ref vs fsw tadd : Nat) : Nat × Bool × Bool :=
  let cap := 100000 / fsw - 150
  let den := vs * fsw
  if den = 0 then (cap, false, true)
  else
    let t := (2 * ref * 1000 + den) / (2 * den) + tadd
    if t < 30 then (30, true, false)
    else if 100000 < (t + 150) * fsw then (cap, false, true)
    else (t, false, false)

/-- R456, R457: compute the on-time anew. -/
def Dev.recalcTon (s : Dev) (n : Fin 8) : Dev :=
  let r := onTime (s.scRef n) (s.ffVolts n) (s.get (F.SC_MOD_FSW n)) (s.get (F.SC_CFG_TADD n))
  let rises := (r.2.1 && !s.flag (F.SC_STATUS_TONMIN n)) || (r.2.2 && !s.flag (F.SC_STATUS_TONMAX n))
  let s1 := ((s.put (F.SC_TON_TON n) r.1).putB (F.SC_STATUS_TONMIN n) r.2.1).putB (F.SC_STATUS_TONMAX n) r.2.2
  if rises then s1.mark (F.SC_EVENT_TONCLAMP n) else s1

/-- The controller switches: soft start, regulation, soft stop. -/
def Dev.switching (s : Dev) (n : Nat) : Bool :=
  s.scOp n == scStart || s.scOp n == scRegulating || s.scOp n == scStop

/-- R457: a new value of a rail's result: every switching controller fed by it computes its on-time anew. -/
def Dev.ffNew (s : Dev) (r : Fin 48) : Dev :=
  (List.finRange 8).foldl (fun (a : Dev) (n : Fin 8) =>
    if a.switching n && a.flag (F.SC_CFG_FFSRC n) && a.get (F.SC_CFG_FFRAIL n) == r.val then a.recalcTon n else a) s

/-- R457: the same for a new value of PWR.VIN. -/
def Dev.ffNewVin (s : Dev) : Dev :=
  (List.finRange 8).foldl (fun (a : Dev) (n : Fin 8) =>
    if a.switching n && !a.flag (F.SC_CFG_FFSRC n) then a.recalcTon n else a) s

/-! ### The drive of the phases (R461, R465, R479) -/

/-- R479: the rail's OV live output stops on-times. -/
def Dev.ovHold (s : Dev) (n : Fin 8) : Bool := (s.rail ⟨n.val, by omega⟩).ovLive

/-- R461: what a phase does that is not excluded: 0 high-impedance, 1 mid-level, 2 switching, 3 the discharge state. The row of
the OV live output prevails over those of the rail's state; a phase that a protection holds stays at mid-level (R465). -/
def Dev.scDrive (s : Dev) (n : Fin 8) : Nat :=
  let op := s.scOp n
  if op = 0 then 0
  else if op = scHeld then 1
  else if s.ovHold n then (if s.flag (F.SC_CFG_OVLOW n) then 3 else 1)
  else if s.switching n then 2
  else if op = scDischarge then 3
  else 1

/-- R461, R465, R479: the OV live output of a controller rail shows: no on-time goes on, and the discharge state begins low, or goes
on. What was at mid-level is so again when the OV ends (R460, R463). -/
def Dev.ovStops (s : Dev) (n : Fin 48) : Dev :=
  if n.val < 8 then
    let discharges := s.scOp n.val == scDischarge
    (s.phasesOf n.val).foldl (fun (a : Dev) (p : Fin 24) =>
      let x := a.ph p
      a.setPh p { x with
        onAt := none, offAt := if x.onAt.isSome then a.now else x.offAt, dmid := discharges && x.dmid }) s
  else s

/-! ### Limits in force (R468) -/

/-- R332: the derating step of the level in force: F_T = 1 - step / 8. -/
def Dev.derate (s : Dev) : Nat := s.level - 4

/-- The phases of a controller that are not excluded. -/
def Dev.activePhases (s : Dev) (n : Nat) : List (Fin 24) :=
  (s.phasesOf n).filter (fun p => !s.flag (F.PH_STATUS_EXCL p))

/-- R468: the total limit in force times 8 COUNT, in mA. -/
def Dev.totalLimit (s : Dev) (n : Nat) : Nat :=
  s.get (F.SC_LIM_IRATED n) * 1000 * (s.activePhases n).length * (8 - s.derate)

/-- R468: a phase limit of `half` half amperes in force, times 8, in mA. -/
def Dev.phaseLimit (s : Dev) (half : Nat) : Int := (half * 500 * (8 - s.derate) : Nat)

/-- R467: a current in mA exceeds the valley limit in force: the comparator withholds an on-time. -/
def Dev.overValley (s : Dev) (n : Fin 8) (i : Int) : Bool := decide (s.phaseLimit (s.get (F.SC_PLIM_IVAL n)) < 8 * i)

/-- R467: a current in mA exceeds the peak limit in force: the comparator ends an on-time. -/
def Dev.overPeak (s : Dev) (n : Fin 8) (i : Int) : Bool := decide (s.phaseLimit (s.get (F.SC_PLIM_IPK n)) < 8 * i)

/-- R467: ITOT exceeds the total limit. -/
def Dev.overTotal (s : Dev) (n : Fin 8) : Bool :=
  decide ((s.totalLimit n : Int) < (s.sc n).itot * (8 * s.get (F.SC_MAP_COUNT n) : Nat))

/-- Two periods of 1 / FSW in ns (R468). -/
def Dev.twoPeriods (s : Dev) (n : Nat) : Nat := 200000 / s.get (F.SC_MOD_FSW n)

/-- R468: the controller is in current limit. -/
def Dev.inLimit (s : Dev) (n : Fin 8) : Bool := (s.sc n).totHold || decide (s.now < (s.sc n).limEnd)

/-- R468: a valley or peak comparator has acted on phase `p`, at this instant. -/
def Dev.limitEvent (s : Dev) (n : Fin 8) (p : Fin 24) : Dev :=
  let x := s.sc n
  let until_ := s.now + s.twoPeriods n
  (s.setSc n { x with limAt := if s.inLimit n then x.limAt else s.now, limEnd := max x.limEnd until_ }).setPh p
    { s.ph p with limEnd := until_ }

/-- R468: the total limit withholds an on-time, or no longer does. -/
def Dev.totalHold (s : Dev) (n : Fin 8) (h : Bool) : Dev :=
  let x := s.sc n
  if h then s.setSc n { x with totHold := true, limAt := if s.inLimit n then x.limAt else s.now }
  else s.setSc n { x with totHold := false, limEnd := if x.totHold then max x.limEnd s.now else x.limEnd }

/-- R469: the short condition on the feedback monitor's last value. -/
def Dev.shortNow (s : Dev) (n : Fin 8) : Bool :=
  let ref := s.scRef n
  let v := s.get (F.SC_FBMON_WORD n) % 2 ^ 20 * 100
  s.scOp n == scStart && s.inLimit n &&
    (decide (s.scTarget n < 5 * (ref - v)) || (decide (300000 < ref) && decide (v < 150000)))

/-- R469: keep the instant since which the short condition holds together with current limit. -/
def Dev.shortSync (s : Dev) (n : Fin 8) : Dev :=
  let x := s.sc n
  s.setSc n { x with
    shortAt := if s.shortNow n then some (max (x.shortAt.getD s.now) x.limAt) else none }

/-- R469: every phase of a controller to mid-level, held by a protection. -/
def Dev.holdCtl (s : Dev) (n : Fin 8) : Dev := if s.scOp n = 0 then s else s.setOp n scHeld

end Sys2Proof.Machine
end

