-- ==== Sys2Proof/Machine/RailCmds.lean ====
section
/-! DEFINITION. The commands of the rail model (04): RAIL_START to SEQ_IN_CHANGE. Each names the instant `ts`; a
command whose condition the state does not meet changes nothing but the time (log entry 2). -/

namespace Sys2Proof.Machine

/-- R140(2), R140(3), R306: the rail holds its grants; a request for nothing is granted at once. -/
def Dev.grantsOk (s : Dev) (n : Fin 48) : Bool :=
  let r := s.rail n
  (r.inrush == .granted || (r.inrush == .none && decide (s.get (F.RAIL_BUDGET_INRUSH n) = 0))) &&
    (decide (s.get (F.RAIL_BUDGET_HEAT n) = 0) || r.heat == .granted)

/-- R140, R683: every condition for leaving ARMED holds, and the main region has not stopped. -/
def Dev.startOk (s : Dev) (n : Fin 48) : Bool :=
  (s.rail n).code == .armed && s.live && !s.regionStops && s.gateOk n && s.grantsOk n && s.vinOk &&
    !s.tableRuns

/-- R140, R53: VIN alone keeps the rail in ARMED. -/
def Dev.waitsVin (s : Dev) (n : Fin 48) : Bool :=
  (s.rail n).code == .armed && s.gateOk n && s.grantsOk n && !s.vinOk && !s.tableRuns

/-- A record of the power class with PWR.VIN and PWR.HOLDV. -/
def Dev.pwrRec (s : Dev) (typ : Nat) : Dev :=
  s.journal typ 0 (s.stored 0x100) (s.stored 0x101)

/-- R54: the rails that begin or end to wait; the first to wait is recorded. -/
def Dev.vinWaits (s : Dev) : Dev :=
  let s1 := allRails.foldl (fun (a : Dev) (n : Fin 48) =>
    if (a.rail n).waitVin == a.waitsVin n then a else a.setRail n { a.rail n with waitVin := a.waitsVin n }) s
  let some? := allRails.any (fun n => (s1.rail n).waitVin)
  match s1.pwr.lowAt, some? with
  | none, true => { (s1.pwrRec 0x0105) with pwr := { s1.pwr with lowAt := some s1.now, lowN := 1 } }
  | some _, false => { s1 with pwr := { s1.pwr with lowAt := none, lowN := 0 } }
  | _, _ => s1

/-- R54: the same outside CLOSE, at the instant of a change of what keeps a rail in ARMED; `old` is the state before it. -/
def Dev.vinWaitsSince (s old : Dev) : Dev :=
  if allRails.all (fun n => s.waitsVin n == old.waitsVin n) then s else s.vinWaits

/-- RAIL_START (R140, R463). -/
def railStart (ts : Nat) (n : Fin 48) (s : Dev) : Dev :=
  let s := s.advance ts
  if s.startOk n then
    let s1 := s.setCode n .rising
    let s2 := s1.setRail n { s1.rail n with
      out := .on, riseAt := s.now, chat := [], reqAt := none, waitVin := false }
    let s3 := s2.health n (fun a => { a with onAt := some s.now })
    if isCtl n then s3.startRamp n else s3
  else s

/-- R143: a change `f` of what the composite good condition looks at: where the condition does not hold before it and after
it, it has been broken up to this instant. -/
def Dev.aroundGood (s : Dev) (n : Fin 48) (f : Dev → Dev) : Dev :=
  let t := f s
  if s.goodCond n && t.goodCond n then t else t.setRail n { t.rail n with brokeAt := s.now }

/-- R144: the changes of the composite good condition counted within CHAT_W up to now. -/
def Dev.chatCount (s : Dev) (n : Fin 48) : Nat :=
  ((s.rail n).chat.filter (fun t => decide (s.now ≤ t + s.get (F.RAIL_FILT_CHAT_W n) * 1000000))).length

/-- R144: count a change of the composite good condition and, when it exceeds CHAT_N within CHAT_W, declare CHATTER.
`old` is the state before the change. -/
def Dev.countChange (s : Dev) (n : Fin 48) : Dev :=
  let s1 := s.setRail n { s.rail n with chat := s.now :: (s.rail n).chat }
  if s.get (F.RAIL_FILT_CHAT_N n) < s1.chatCount n then
    s1.railFault n 0x0305 5 (s.get (F.RAIL_REACT_CHAT n)) (F.RAIL_EVENT_CHATTER n)
      (if s.flag (F.RAIL_CFG_PGUSE n) then .windowPg n else .window n)
  else s1

/-- R144: the composite good condition has held since before the rail entered RISING, so that RISING saw no change of it. -/
def Dev.goodAllAlong (s : Dev) (n : Fin 48) : Bool := !isCtl n && decide ((s.rail n).brokeAt < (s.rail n).riseAt)

/-- RAIL_GOOD_COND_MET (R133, R144): RISING to QUALIFYING; a condition that has come counts as a change. -/
def railGoodCondMet (ts : Nat) (n : Fin 48) (s : Dev) : Dev :=
  let s := s.advance ts
  if (s.rail n).code = .rising ∧ s.goodCond n ∧ s.mainAlive then
    (if s.goodAllAlong n then s.setCode n .qualifying else (s.setCode n .qualifying).countChange n)
  else s

/-- RAIL_GOOD_COND_LOST (R133): QUALIFYING to RISING. -/
def railGoodCondLost (ts : Nat) (n : Fin 48) (s : Dev) : Dev :=
  let s := s.advance ts
  if (s.rail n).code = .qualifying ∧ ¬ s.goodCond n ∧ s.mainAlive then (s.setCode n .rising).countChange n else s

/-- RAIL_QUALIFIED (R143, R133): the composite good condition has held without break for QUAL (10 us per LSB). -/
def railQualified (ts : Nat) (n : Fin 48) (s : Dev) : Dev :=
  let s := s.advance ts
  let r := s.rail n
  if r.code = .qualifying ∧ s.goodCond n ∧ s.mainAlive ∧ s.elapsed (max r.stateAt r.brokeAt) (s.get (F.RAIL_TIMING_QUAL n) * 10000) then
    let s1 := s.setCode n .good
    let s2 := (s1.setRail n { s1.rail n with refAt := s.now, uvScan := false }).health n (fun a => { a with cycles := a.cycles + 1 })
    (s2.enteredGood n).vinWaitsSince s
  else s

/-- FALL_TIMEOUT (R135): recorded once, FALLTO (1 ms per LSB) after the output switched off. -/
def fallTimeout (ts : Nat) (n : Fin 48) (s : Dev) : Dev :=
  let s := s.advance ts
  let r := s.rail n
  if (r.code = .falling ∨ (r.code = .faulted ∧ r.out = .falling)) ∧ ¬ r.fallDone ∧
      s.elapsed r.offAt (s.get (F.RAIL_TIMING_FALLTO n) * 1000000) then
    ((s.setRail n { r with fallDone := true }).mark (F.RAIL_EVENT_FALL_TIMEOUT n)).journal 0x0307 n (s.meas n)
      (codeArg r.code)
  else s

/-- RISE_TIMEOUT (R145, R147): RISETO (1 ms per LSB) after EN was released, or after the end of the reference ramp. -/
def riseTimeout (ts : Nat) (n : Fin 48) (s : Dev) : Dev :=
  let s := s.advance ts
  let r := s.rail n
  if (r.code = .rising ∨ r.code = .qualifying) ∧ s.mainAlive ∧ (!isCtl n || s.scOp n == scRegulating) ∧
      s.elapsed r.riseAt (s.get (F.RAIL_TIMING_RISETO n) * 1000000) then
    s.railFault n 0x0304 4 (s.get (F.RAIL_REACT_RISE n)) (F.RAIL_EVENT_RISE_TIMEOUT n)
      (if s.flag (F.RAIL_CFG_PGUSE n) then .windowPg n else .window n)
  else s

/-- R354: while the table runs, fast off at once a rail and every rail whose interlock names it, where the output is
on; the vault does it. -/
def Dev.ovFastOff (s : Dev) (n : Fin 48) : Dev :=
  let one (a : Dev) (d : Fin 48) : Dev :=
    if (a.rail d).out = .on then
      let b := a.watchGood d (fun a =>
        if (a.rail d).code = .faulted then a.turnOff d true else (a.setCode d .falling).turnOff d true)
      { b with vaultRails := b.vaultRails ||| railOne d }
    else a
  allRails.foldl (fun a d => if railIn (a.gateSet d) n then one a d else a) (one s n)

/-- R147, R149, R354, R355: OV on a rail: its event and record, the dangerous fault, FAULTED with the output left to
the vault. While the table runs it is fast off at once where the output is on; where it is off or falling, the OV is
recorded and changes no step. -/
def Dev.ov (s : Dev) (n : Fin 48) (path : Path) : Dev :=
  if (s.rail n).code = .unused then s
  else
    let run := s.tableRuns
    let on := (s.rail n).out == .on
    let c := (s.rail n).code
    let react (t : Dev) : Dev := if run && !on then t.alarm else t.dangerous 0x0301
    let s1 := s.watchGood n (fun s =>
      (((s.mark (F.RAIL_EVENT_OV n)).health n (fun a => { a with faults := a.faults + 1 })).declareBy 0x0301 n (s.meas n) (codeArg c)
        true react (some path)).enterFaulted n 1 .dangerous)
    if run && on then s1.ovFastOff n else s1

/-- RAIL_OV (R147): the OV comparator has shown its condition for OVFILT (0.1 us per LSB). The excursion is declared
once. A supply to the vault suffices (R13). -/
def railOv (ts : Nat) (n : Fin 48) (s : Dev) : Dev :=
  let s := s.advance ts
  let r := s.rail n
  match r.ovAt with
  | some t0 =>
    if r.ovLive ∧ r.code ≠ .unused ∧ s.live ∧ s.eff ≠ .watch ∧ s.elapsed t0 (s.get (F.RAIL_FILT_OVFILT n) * 100) then
      (s.setRail n { r with ovAt := none }).ov n (.window n)
    else s
  | none => s

/-- RAIL_UV (R147): the UV comparator of a GOOD rail has shown its condition for UVFILT (0.1 us per LSB). DESIGN CHOICE (log entry 43):
one that a table run only records (R353), its condition still standing as the run completes, is not declared again; PG_LOSS
likewise. -/
def railUv (ts : Nat) (n : Fin 48) (s : Dev) : Dev :=
  let s := s.advance ts
  let r := s.rail n
  match r.uvAt with
  | some t0 =>
    if r.code = .good ∧ r.uvLive ∧ s.live ∧ s.mainAlive ∧ s.eff ≠ .watch ∧
        s.elapsed (max t0 r.stateAt) (s.get (F.RAIL_FILT_UVFILT n) * 100) then
      (s.setRail n { r with uvAt := none }).railFault n 0x0302 2 (s.get (F.RAIL_REACT_UV n)) (F.RAIL_EVENT_UV n) (.window n)
    else s
  | none => s

/-- PG_LOSS (R147): PG of a GOOD rail with PGUSE = 1 has been inactive for UVFILT. -/
def pgLoss (ts : Nat) (n : Fin 48) (s : Dev) : Dev :=
  let s := s.advance ts
  let r := s.rail n
  match r.pgAt with
  | some t0 =>
    if r.code = .good ∧ s.flag (F.RAIL_CFG_PGUSE n) ∧ ¬ isCtl n ∧ ¬ s.pgActive n ∧ s.live ∧ s.mainAlive ∧
        s.elapsed t0 (s.get (F.RAIL_FILT_UVFILT n) * 100) then
      (s.setRail n { r with pgAt := none }).railFault n 0x0303 3 (s.get (F.RAIL_REACT_PG n)) (F.RAIL_EVENT_PG_LOSS n)
        (.windowPg n)
    else s
  | none => s

/-- PG_CHANGE (R158, R150): a PG level is accepted after 512 ns of stability; a PG excursion of a GOOD rail that ends
before UVFILT is counted in PGSHORT. The PG input under test keeps its previous value (R547) and takes no change. -/
def pgChange (ts : Nat) (n : Fin 48) (level : Bool) (s : Dev) : Dev :=
  let s := s.advance ts
  let r := s.rail n
  if s.live ∧ ¬ isCtl n ∧ r.pg ≠ level ∧ ¬ s.probing.any (fun p => p.path == .windowPg n) then
    let act := level == s.flag (F.RAIL_CFG_PGPOL n)
    let short := act && r.pgAt.any (fun t => decide (s.now < t + s.get (F.RAIL_FILT_UVFILT n) * 100)) && r.code == .good &&
      s.flag (F.RAIL_CFG_PGUSE n)
    let s1 := s.aroundGood n (fun a => a.setRail n { r with pg := level, pgAt := if act then none else some s.now })
    if short then s1.countUp n (F.RAIL_COUNT_PGSHORT n) (fun a => { a with pgShort := a.pgShort + 1 }) else s1
  else s

/-- RSTO_RELEASE (R161, R683): the stretch (1 ms per LSB, within 10 us) has run with every masked rail GOOD. -/
def rstoRelease (ts : Nat) (k : Fin 8) (s : Dev) : Dev :=
  let s := s.advance ts
  if (s.get F.RSTO_STATUS_STRETCHING).testBit k ∧ s.flag (F.RSTO_CFG_CLAIM k) ∧ s.get (F.RSTO_CFG_MODE k) = 0 ∧
      s.live ∧ ¬ s.regionStops ∧ ¬ s.vault.rsto.toNat.testBit k ∧ s.allGood (rstoMask s k) ∧
      s.elapsed (s.rstoAt.get k) (s.get (F.RSTO_CFG_STRETCH k) * 1000000 - 10000) then
    (s.clrBit F.RSTO_STATUS_ASSERTED k).clrBit F.RSTO_STATUS_STRETCHING k
  else s

/-- SEQ_OUT_RELEASE (R165, R166): every cascade rail has been GOOD for OUTDLY (0.1 ms per LSB) and the table is idle. -/
def seqOutRelease (ts : Nat) (s : Dev) : Dev :=
  let s := s.advance ts
  if s.flag F.CASC_CFG_CLAIM ∧ s.live ∧ ¬ s.regionStops ∧ cascMask s ≠ 0 ∧ s.allGood (cascMask s) ∧ ¬ s.tableRuns ∧
      s.elapsed s.cascSince (s.get F.CASC_CFG_OUTDLY * 100000) then s.mark F.CASC_STATUS_SEQOUT
  else s

/-- SEQ_IN_CHANGE (R167, R168): a level stable for 10 us is accepted; a fall in RUN sets INFALL, journals it and with
INACT = 1 requests the table at NORMAL. DESIGN CHOICE (log entry 41): a fall in HOLD-UP is none of R168's, and the entry is
accepted at the instant of the fall (R724 names a close only for a request that a close applies). -/
def seqInChange (ts : Nat) (level : Bool) (s : Dev) : Dev :=
  let s := s.advance ts
  if s.dev = .unpowered ∨ s.dev = .powerHold ∨ s.dev = .thermalOff ∨ s.seqIn = level then s
  else
    let s0 := ({ s with seqIn := level }).putB F.CASC_STATUS_SEQIN level
    let s1 := if s.live ∧ s.mainAlive then s0.vinWaitsSince s else s0
    if level ∨ s.dev ≠ .run then s1
    else
      let s2 := (s1.mark F.CASC_STATUS_INFALL).journal 0x010B 0
      if s.flag F.CASC_CFG_INACT then s2.requestEntry .normal 0x010B else s2

end Sys2Proof.Machine
end

