-- ==== Sys2Proof/Machine/Tally.lean ====
section
/-! DEFINITION. The tally and the shutters (03): QUAD and SYNC counting, the tally's states and errors, the synthetic
angle, the angle source of gates and shutters, and the blanking of rails. Angle gates stand with the captures they
trigger. -/

namespace Sys2Proof.Machine

/-! ### Angles -/

/-- TALLY.CPR: 0 means 65,536. -/
def Dev.cpr (s : Dev) : Nat := if s.get F.TALLY_CPR_CPR = 0 then 65536 else s.get F.TALLY_CPR_CPR

def tOff : Nat := 0
def tSeeking : Nat := 1
def tLocked : Nat := 2
def tFlywheel : Nat := 3
def tLost : Nat := 4

/-- TALLY.POS.STATE. -/
def Dev.tst (s : Dev) : Nat := s.get F.TALLY_POS_STATE

/-- The tally is LOCKED or in FLYWHEEL. -/
def Dev.aligned (s : Dev) : Bool := s.tst == tLocked || s.tst == tFlywheel

/-- SANGLE at this instant (R111). -/
def Dev.sangle (s : Dev) : Nat := s.sturn % 65536

/-- The synthetic angle starts afresh from `a` at this instant. -/
def Dev.synthFrom (s : Dev) (a : Nat) : Dev := { s with tal := { s.tal with synth0 := a, synthAt := s.now, gateS := a } }

/-- TALLY.POS.SYNTH (R112): gates and shutters with FB = 1 use SANGLE. -/
def Dev.synthOn (s : Dev) : Bool := !s.aligned && s.get F.TALLY_FBPER_FBPER != 0

/-- R112: the angle a gate or shutter watches; none where a gate does not fire and a shutter does not blank. -/
def Dev.source (s : Dev) (fb : Bool) : Option Nat :=
  if s.aligned then some s.ang.toNat else if fb && s.synthOn then some s.sangle else none

/-! ### What the angle gates compare (R112-R117) -/

/-- R113: the target lies within `d` units from `a`, `a` itself left out: in (a, a + d] taken forward, or in [a - d, a)
taken backward, modulo 65,536. -/
def stepCrosses (target a d : Nat) (back : Bool) : Bool :=
  let off := (if back then a + 65536 - target else target + 65536 - a) % 65536
  decide ((if off = 0 then 65536 else off) ≤ d)

/-- R112: whether a gate watches the angle named: SANGLE (`syn`) or ANGLE. -/
def Dev.gateWatches (s : Dev) (g : Fin 16) (syn : Bool) : Bool :=
  if syn then s.flag (F.AG_FB g) && s.synthOn else s.aligned

/-- R113, R115, R117: one step of an angle from `a` by `d` units: every enabled gate that watches it, in the direction of
the step, and whose target it crosses is to fire, all in the same step. -/
def Dev.gateStep (s : Dev) (syn : Bool) (a d : Nat) (back : Bool) : Dev :=
  if s.live ∧ s.mainAlive ∧ s.eff ≠ .watch then
    { s with tal := { s.tal with gateDue := s.tal.gateDue ++ (List.finRange 16).filter (fun (g : Fin 16) =>
        s.flag (F.AG_EN g) && s.gateWatches g syn && (s.get (F.AG_DIR g)).testBit (if back then 1 else 0) &&
          stepCrosses (s.get (F.AG_TARGET g)) a d back) } }
  else s

/-- R113: compare what has run with time since the last comparison, always forward: ANGLE in SYNC, and SANGLE. QUAD
compares at each count. -/
def Dev.gateSettle (s : Dev) : Dev :=
  let s1 := if s.get F.TALLY_CFG_SRC = 2 then s.gateStep false s.tal.gateA ((s.ang.toNat + 65536 - s.tal.gateA) % 65536) false else s
  let s2 := s1.gateStep true (s.tal.gateS % 65536) (s.sturn - s.tal.gateS) false
  { s2 with tal := { s2.tal with gateA := s.ang.toNat, gateS := s.sturn } }

/-- R114: the next comparison is made on the angles as they stand now; what was crossed before stays to fire. -/
def Dev.gateJump (s : Dev) : Dev := { s with tal := { s.tal with gateA := s.ang.toNat, gateS := s.sturn } }

/-! ### Shutters (R118-R126) -/

/-- R119: the source of shutter `n` lies in [START, END), taken forward modulo 65,536. -/
def Dev.inShutter (s : Dev) (n : Fin 16) : Bool :=
  match s.source (s.flag (F.SH_CTL_FB n)) with
  | some a =>
    let st := s.get (F.SH_WIN_START n)
    decide ((a + 65536 - st) % 65536 < (s.get (F.SH_WIN_END n) + 65536 - st) % 65536)
  | none => false

/-- SH.ACTIVE bit n. -/
def Dev.blanks (s : Dev) (n : Fin 16) : Bool := (s.get F.SH_ACTIVE_ACTIVE).testBit n

/-- The rails a shutter names (R119). -/
def Dev.shutterSet (s : Dev) (n : Fin 16) : RailSet := s.maskSet (s.get (F.SH_CTL_MASK n))

/-- Whether a blanking shutter names the rail. -/
def Dev.wanted (s : Dev) (r : Fin 48) : Bool :=
  (List.finRange 16).any (fun n => s.blanks n && railIn (s.shutterSet n) r)

/-- A bound on the age of a sample at the end of its burst, ns: 65,536 samples of 16 ns and the nine clocks of the pipeline
(R435, R374), rounded up. -/
def burstMaxNs : Nat := 1100000

/-- R119, R121: bring every rail's blanking in step with the blanking shutters: a rail whose blanking has ended is
blanked again only once a result of it is published. -/
def Dev.reblank (s : Dev) : Dev :=
  allRails.foldl (fun (a : Dev) (r : Fin 48) =>
    let x := a.rail r
    match x.blankAt, a.wanted r with
    | none, true => if x.published then a.setRail r { x with blankAt := some a.now } else a
    | some t, false =>
      let was := (t, a.now) :: x.blankWas.filter (fun b => decide (a.now < b.2 + burstMaxNs))
      a.setRail r { x with blankAt := none, blankWas := was, published := false }
    | _, _ => a) s

def Dev.shutter (s : Dev) (n : Fin 16) : Shutter := s.shutters.get n
def Dev.setShutter (s : Dev) (n : Fin 16) (x : Shutter) : Dev :=
  { s with shutters := s.shutters.set n.val x n.isLt }

/-- End the blanking of a shutter; `spent` where it must first leave its window (R120). -/
def Dev.endBlank (s : Dev) (n : Fin 16) (spent : Bool) : Dev :=
  ((s.clrBit F.SH_ACTIVE_ACTIVE n).setShutter n { s.shutter n with spent := spent }).reblank

/-- R124: after a switch of the angle source, every blanking whose new source lies outside its window ends. -/
def Dev.rewindow (s : Dev) : Dev :=
  (List.finRange 16).foldl (fun (a : Dev) (n : Fin 16) =>
    if a.blanks n && !a.inShutter n then a.endBlank n false else a) s

/-- SHUTTER_BLANK_START (R119, R120, R126): the angle source enters the window of an enabled shutter. -/
def shutterBlankStart (ts : Nat) (n : Fin 16) (s : Dev) : Dev :=
  let s := s.advance ts
  if s.live ∧ s.eff ≠ .watch ∧ s.flag (F.SH_CTL_EN n) ∧ ¬ s.blanks n ∧ ¬ (s.shutter n).spent ∧ s.inShutter n then
    ((s.setBit F.SH_ACTIVE_ACTIVE n).setShutter n ⟨s.now, false⟩).reblank
  else s

/-- SHUTTER_BLANK_END (R119, R120): the angle source leaves the window. -/
def shutterBlankEnd (ts : Nat) (n : Fin 16) (s : Dev) : Dev :=
  let s := s.advance ts
  if s.inShutter n then s
  else if s.blanks n then s.endBlank n false
  else s.setShutter n { s.shutter n with spent := false }

/-- SHUTTER_CAPPED (R120): MAXT microseconds of blanking. -/
def shutterCapped (ts : Nat) (n : Fin 16) (s : Dev) : Dev :=
  let s := s.advance ts
  if s.blanks n ∧ s.elapsed (s.shutter n).since (s.get (F.SH_CTL_MAXT n) * 1000) then
    (s.setBit F.SH_CAPPED_CAPPED n).endBlank n true
  else s

/-! ### States and errors of the tally (R105-R111) -/

/-- The event bit and record type of a tally state (R109). -/
def Dev.tallyRec (s : Dev) (st cause : Nat) : Dev :=
  let t := BitVec.ofNat 32 (s.get F.TALLY_PERIOD_T)
  let c := BitVec.ofNat 32 cause
  match st with
  | 0 => s.journal 0x0204 0 c t
  | 2 => (s.mark F.TALLY_EVENT_LOCK).journal 0x0201 0 c t
  | 3 => (s.mark F.TALLY_EVENT_FLY).journal 0x0202 0 c t
  | 4 => (s.mark F.TALLY_EVENT_LOST).declare 0x0203 0 c t false (some .tally)
  | _ => s

/-- R108-R111, R124: the tally enters a state. Leaving LOCKED and FLYWHEEL starts SANGLE from ANGLE; LOST and OFF hold
ANGLE at its value; SEEKING starts its counts afresh. A switch of the angle source fires no gate (R114). -/
def Dev.tallyTo (s0 : Dev) (st cause : Nat) : Dev :=
  let s := s0.gateSettle
  let a := s.ang
  let s1 := { s with angle := a }
  let s2 := if s.aligned && !(st == tLocked || st == tFlywheel) then s1.synthFrom a.toNat else s1
  let s3 := s2.put F.TALLY_POS_STATE st
  let s4 := if st = tSeeking then
      { s3 with tal := { s3.tal with p := 0, first := true, travel := 0, counts := 0, illegal := [], lastBad := false, alike := 0 } }
    else s3
  ((s4.gateJump).tallyRec st cause).rewindow

/-- R96: a change of SRC at a close takes the tally to SEEKING, or to OFF for NONE, where REV and ANGLE keep their last
values: the source table's "Held at 0" is not followed (log entry 36). TALLY.PERIOD shows the new source's period, 0
until measured. The gates compare anew on the angle that the new source leaves (R114). -/
def Dev.tallySource (s : Dev) (old : Nat) : Dev :=
  if s.get F.TALLY_CFG_SRC = old then s
  else
    let s1 := { s with tal := { s.tal with edgeAt := none, period := none, indexAt := none, quadAt := none } }
    if s.get F.TALLY_CFG_SRC = 0 then s1.gateJump.tallyTo tOff 6 else (s1.put F.TALLY_PERIOD_T 0).gateJump.tallyTo tSeeking 6

/-- R109: whether a second has passed since the last record of a kind. -/
def Dev.reportDue (s : Dev) (last : Option Nat) : Bool :=
  match last with
  | some t => s.elapsed t 1000000000
  | none => true

/-- R109, R110: write the record of the counts of a kind since the previous one; an INDEX_ERR record carries its probe. -/
def Dev.tallyReport (s : Dev) (k : TErr) : Dev :=
  match k with
  | .qerr => { (s.journal 0x0205 0 (BitVec.ofNat 32 s.tal.qWait)) with
      tal := { s.tal with qWait := 0, qAt := some s.now } }
  | .indexErr =>
    let t := { s.tal with iWait := 0, iAt := some s.now }
    { s with tal := t }.declare 0x0206 0 (BitVec.ofNat 32 s.tal.iWait) 0 false (some .tally)
  | .syncJump => { (s.journal 0x0207 0 (BitVec.ofNat 32 s.tal.sWait)) with
      tal := { s.tal with sWait := 0, sAt := some s.now } }

def Dev.tallyWaiting (s : Dev) : TErr → Nat
  | .qerr => s.tal.qWait
  | .indexErr => s.tal.iWait
  | .syncJump => s.tal.sWait

def Dev.tallyLast (s : Dev) : TErr → Option Nat
  | .qerr => s.tal.qAt
  | .indexErr => s.tal.iAt
  | .syncJump => s.tal.sAt

/-- R99, R100, R105, R109: count an error of a kind: its counter and event bit; its record at once, or with the next
record of its kind where one was written within the second. An INDEX_ERR whose record waits is probed at once (R110). -/
def Dev.tallyErr (s : Dev) (k : TErr) : Dev :=
  let s1 := match k with
    | .qerr => { ((s.bump F.TALLY_ERR_QERR).mark F.TALLY_EVENT_QERR) with tal := { s.tal with qWait := s.tal.qWait + 1 } }
    | .indexErr => { ((s.bump F.TALLY_ERR_INDEX).mark F.TALLY_EVENT_INDEX_ERR) with
        tal := { s.tal with iWait := s.tal.iWait + 1 } }
    | .syncJump => { ((s.bump F.TALLY_ERR_SYNCJUMP).mark F.TALLY_EVENT_SYNCJUMP) with
        tal := { s.tal with sWait := s.tal.sWait + 1 } }
  if s1.reportDue (s1.tallyLast k) then s1.tallyReport k
  else if k = .indexErr then s1.wantProbe ⟨.tally, 0x0206, 0, none, false, 0, none, false, s1.now, false⟩
  else s1

/-- TALLY_ERR_REPORT (R109): a second after the last record of a kind, the counts since it are journalled. -/
def tallyErrReport (ts : Nat) (k : TErr) (s : Dev) : Dev :=
  let s := s.advance ts
  if s.live ∧ s.mainAlive ∧ s.tallyWaiting k ≠ 0 ∧ s.reportDue (s.tallyLast k) then s.tallyReport k else s

/-! ### The input filter (R97) -/

/-- R97: a level of a TB input is accepted once it has been stable for FILT + 1 REFCLK cycles of 40 ns. -/
def Dev.tbAccepts (s : Dev) (stable : Nat) : Bool := decide ((s.get F.TALLY_CFG_FILT + 1) * 40 ≤ stable)

/-- R97: transitions of TB_A and TB_B are accepted at no more than 10 M counts/s, in WATCH 2 M (log entry 36). -/
def Dev.quadAccepts (s : Dev) (stable : Nat) : Bool :=
  s.tbAccepts stable && s.tal.quadAt.all (fun t => s.elapsed t (if s.eff = .watch then 500 else 100))

/-! ### Quadrature (R98-R102) -/

/-- R98: ANGLE of a position. -/
def quadAngle (p cpr : Nat) : BitVec 16 := BitVec.ofNat 16 (p * 65536 / cpr)

/-- R98, R101, R102, R113: one count in a direction, which the gates compare. REV stands still before the first index
pulse. Where a write of TALLY.CPR left P at or above the new CPR, P is no smaller for it: a count forward takes it to 0,
a count backward down by one; ANGLE stands until that count (log entry 36). -/
def Dev.quadMove (s0 : Dev) (back : Bool) : Dev :=
  let s := s0.gateSettle
  let c := s.cpr
  let t := s.tal
  let wraps := if back then decide (t.p = 0) else decide (t.p + 1 ≥ c)
  let p := if back then (if t.p = 0 then c - 1 else t.p - 1) else (if t.p + 1 ≥ c then 0 else t.p + 1)
  let rev := if wraps && !t.first then (if back then s.rev - 1 else s.rev + 1) else s.rev
  let n := t.counts + 1
  let travel := t.travel + (if back then -1 else 1)
  let s1 := { s with
    tal := { t with p := p, counts := n, travel := travel, illegal := t.illegal.filter (fun x => decide (n < x + c)) }
    rev := rev
    angle := quadAngle p c }
  let a := s.angle.toNat
  let b := (quadAngle p c).toNat
  let s2 := ((s1.putB F.TALLY_POS_REVDIR back).gateStep false a ((if back then a + 65536 - b else b + 65536 - a) % 65536) back).gateJump
  if s2.tst = tLocked ∧ c + s2.get F.TALLY_CFG_IDXTOL < travel.natAbs then s2.tallyTo tLost 5 else s2

/-- R99: an illegal transition is counted; more than QERRMAX of them within one revolution of counts lose the tally. -/
def Dev.quadIllegal (s : Dev) : Dev :=
  let s1 := s.tallyErr .qerr
  let t := s1.tal
  let l := t.counts :: t.illegal.filter (fun x => decide (t.counts < x + s1.cpr))
  let s2 := { s1 with tal := { t with illegal := l } }
  if s2.get F.TALLY_CFG_QERRMAX < l.length ∧ s2.tst ≠ tLost then s2.tallyTo tLost 1 else s2

/-- QUAD_COUNT (R97-R99, R102): a transition of TB_A or TB_B whose new level has been stable for `stable` ns. DIRINV
exchanges the directions. A LOST tally holds its values and still counts illegal transitions. -/
def quadCount (ts : Nat) (q : QStep) (stable : Nat) (s : Dev) : Dev :=
  let s := s.advance ts
  if s.live ∧ s.mainAlive ∧ s.get F.TALLY_CFG_SRC = 1 ∧ s.quadAccepts stable then
    let s1 := { s with tal := { s.tal with quadAt := some s.now } }
    match q with
    | .illegal => s1.quadIllegal
    | .forward => if s.tst = tLost then s1 else s1.quadMove (s.flag F.TALLY_CFG_DIRINV)
    | .backward => if s.tst = tLost then s1 else s1.quadMove (!s.flag F.TALLY_CFG_DIRINV)
  else s

/-- TALLY.PERIOD holds 25 bits of TCLK cycles. -/
def periodCut (t : Nat) : Nat := min t 0x1FFFFFF

/-- R100, R101, R114: apply an index pulse to the position: P becomes 0, and REV goes up where P had passed half a
revolution: a correction forward, which the gates compare; one backward fires none. -/
def Dev.indexApply (s0 : Dev) : Dev :=
  let up := decide (s0.cpr ≤ 2 * s0.tal.p)
  let s := if up then s0.gateStep false s0.angle.toNat (65536 - s0.angle.toNat) false else s0
  let t := s.tal
  { s with
    rev := if up then s.rev + 1 else s.rev
    angle := 0
    tal := { t with p := 0, travel := 0, indexAt := some s.now, gateA := 0 } }

/-- INDEX_PULSE (R97, R100, R101, R108): an index pulse on TB_Z, whose level has been stable for `stable` ns. DESIGN CHOICE (log
entry 41): in LOST it goes to SEEKING with P at 0, while ANGLE stays until the next count and REV is not rounded. -/
def indexPulse (ts stable : Nat) (s : Dev) : Dev :=
  let s := s.advance ts
  if s.live ∧ s.mainAlive ∧ s.get F.TALLY_CFG_SRC = 1 ∧ s.tbAccepts stable then
    let s0 := match s.tal.indexAt with
      | some t => s.put F.TALLY_PERIOD_T (periodCut ((s.now - t) / 8))
      | none => s
    if s0.tst = tLost then
      let s1 := s0.tallyTo tSeeking 0
      { s1 with tal := { s1.tal with indexAt := some s1.now } }
    else
      let tol := s0.get F.TALLY_CFG_IDXTOL
      let p := s0.tal.p
      let bad := decide (tol < p) && decide (p + tol < s0.cpr)
      let twice := s0.tal.lastBad
      let s1 := s0.indexApply
      if s1.tal.first then { s1 with tal := { s1.tal with first := false, lastBad := false } }.tallyTo tLocked 0
      else if bad then
        let s2 := { s1 with tal := { s1.tal with lastBad := true } }.tallyErr .indexErr
        if twice then s2.tallyTo tLost 2 else s2
      else { s1 with tal := { s1.tal with lastBad := false } }
  else s

/-! ### Sync (R103-R108) -/

/-- R105: two periods differ by no more than SYNCTOL per cent of the earlier one. -/
def periodsAlike (tol new old : Nat) : Bool :=
  decide ((if new ≤ old then old - new else new - old) * 100 ≤ tol * old)

/-- R104, R114: an accepted edge sets ANGLE to 0 and rounds REV to the nearer cycle: forward, which the gates compare, or
backward, which fires none. -/
def Dev.edgeApply (s0 : Dev) : Dev :=
  let a := s0.ang.toNat
  let up := decide (32768 ≤ a)
  let s := if up then s0.gateSettle.gateStep false a (65536 - a) false else s0.gateSettle
  { s with
    rev := if up then s.rev + 1 else s.rev
    angle := 0
    tal := { s.tal with angleAt := s.now, edgeAt := some s.now, gateA := 0 } }

/-- R107: 2 us to 200 ms, in TCLK cycles. -/
def periodLegal (t : Nat) : Bool := decide (250 ≤ t) && decide (t ≤ 25000000)

/-- R103, R105-R107: what a measured period `t` does in the tally's state; the edge is applied. A period out of range
leads to LOST; in SEEKING it is discarded and the count of four begins again, the state staying SEEKING (log entry
36). -/
def Dev.edgePeriod (s : Dev) (t : Nat) : Dev :=
  let tol := s.get F.TALLY_CFG_SYNCTOL
  let old := s.tal.period
  if !periodLegal t then
    if s.tst = tSeeking then { s with tal := { s.tal with alike := 0, period := none } }
    else (s.put F.TALLY_PERIOD_T (periodCut t)).tallyTo tLost 3
  else
    let s1 := { (s.put F.TALLY_PERIOD_T t) with tal := { s.tal with period := some t } }
    let ok := old.any (fun o => periodsAlike tol t o)
    if s1.tst = tSeeking then
      let n : Nat := if ok then s1.tal.alike + 1 else 0
      let s2 := { s1 with tal := { s1.tal with alike := n } }
      if n = 4 then s2.tallyTo tLocked 0 else s2
    else if s1.tst = tFlywheel then s1.tallyTo tLocked 0
    else if old.isSome && !ok then s1.tallyErr .syncJump
    else s1

/-- Whether an edge is one that TALLY.CFG.EDGE selects. -/
def Dev.edgeSelected (s : Dev) (rising : Bool) : Bool :=
  match s.get F.TALLY_CFG_EDGE with
  | 0 => rising
  | 1 => !rising
  | _ => true

/-- SYNC_EDGE (R97, R103-R108): an edge of TB_SYNC whose new level has been stable for `stable` ns. DESIGN CHOICE (log entry 41):
an edge in LOST goes to SEEKING, whatever the period it ends (R108). -/
def syncEdge (ts : Nat) (rising : Bool) (stable : Nat) (s : Dev) : Dev :=
  let s := s.advance ts
  if s.live ∧ s.mainAlive ∧ s.get F.TALLY_CFG_SRC = 2 ∧ s.edgeSelected rising ∧ s.tbAccepts stable then
    let last := s.tal.edgeAt
    if s.tst = tLost then
      let s0 := match last with
        | some t => s.edgeApply.put F.TALLY_PERIOD_T (periodCut ((s.now - t) / 8))
        | none => s.edgeApply
      let s1 := s0.tallyTo tSeeking 0
      { s1 with tal := { s1.tal with period := none, angleAt := s1.now, edgeAt := some s1.now } }
    else
      match last with
      | some t => s.edgeApply.edgePeriod ((s.now - t) / 8)
      | none => s.edgeApply
  else s

/-- The period in force, in ns. -/
def Dev.periodNs (s : Dev) : Nat := s.get F.TALLY_PERIOD_T * 8

/-- SYNC runs: the tally counts cycles on a measured period. -/
def Dev.syncRuns (s : Dev) : Bool :=
  s.live && s.mainAlive && s.get F.TALLY_CFG_SRC == 2 && s.get F.TALLY_PERIOD_T != 0 &&
    (s.tst == tSeeking || s.tst == tLocked || s.tst == tFlywheel)

/-- R103: where ANGLE has passed 65,535 it wraps to 0, and REV goes up. -/
def Dev.wrapAngle (s0 : Dev) : Dev :=
  if s0.syncRuns && s0.elapsed s0.tal.angleAt s0.periodNs then
    let s := s0.gateSettle
    { s with rev := s.rev + 1, tal := { s.tal with angleAt := s.tal.angleAt + s.periodNs } }
  else s0

/-- SYNC_ANGLE_WRAP (R103). -/
def syncAngleWrap (ts : Nat) (s : Dev) : Dev := (s.advance ts).wrapAngle

/-- TALLY_FLYWHEEL (R106): no edge within (1 + SYNCTOL / 100) periods of the last one. -/
def tallyFlywheel (ts : Nat) (s : Dev) : Dev :=
  let s := s.advance ts
  match s.tal.edgeAt with
  | some t =>
    if s.syncRuns ∧ s.tst = tLocked ∧ s.elapsed t (s.periodNs * (100 + s.get F.TALLY_CFG_SYNCTOL) / 100) then
      s.tallyTo tFlywheel 0
    else s
  | none => s

/-- FLYWHEEL_EXHAUSTED (R106): FLYN further periods without an edge. A wrap due at the same instant comes first. -/
def flywheelExhausted (ts : Nat) (s : Dev) : Dev :=
  let s := s.advance ts
  match s.tal.edgeAt with
  | some t =>
    if s.syncRuns ∧ s.tst = tFlywheel ∧ s.elapsed t (s.periodNs * (1 + s.get F.TALLY_CFG_FLYN)) then
      s.wrapAngle.tallyTo tLost 4
    else s
  | none => s

end Sys2Proof.Machine
end

