-- ==== Sys2Proof/Machine/TellerOps.lean ====
section
/-! DEFINITION. What the tellers' meanings share (05, 06): registers, flags, LASTREF, the ends of waits. -/

namespace Sys2Proof.Machine

/-- R205: read X[r]; X0 reads as 0. -/
def Teller.xr (t : Teller) (r : Fin 16) : Word := if r.val = 0 then 0 else t.x.get r

/-- R205: write X[r]; writes to X0 are discarded. -/
def Teller.xw (t : Teller) (r : Fin 16) (v : Word) : Teller :=
  if r.val = 0 then t else { t with x := t.x.set r.val v r.isLt }

/-- R189, R220: set D and LASTREF. -/
def Teller.refuse (t : Teller) (why : Reason) (pc : BitVec 16) : Teller :=
  { t with d := true, refWhy := why.code, refPc := pc }

/-- The same, of teller k of the device. -/
def Dev.refuseTeller (s : Dev) (k : Fin 8) (why : Reason) (pc : BitVec 16) : Dev :=
  s.setTeller k ((s.teller k).refuse why pc)

/-- R233: the next PC. -/
def Teller.next (t : Teller) : Teller := { t with pc := t.pc + 1 }

/-- R195: a teller enters a wait at this instant; the watchdog count ends. -/
def Teller.waitFor (t : Teller) (w : Wait) : Teller := { t with st := .waiting, wait := some w, wdogNs := 0 }

/-- R192, R195: a teller that STEP set going, or that a HALT met stalled, halts after its instruction; the time it has been
RUNNING is counted. -/
def Teller.stepped (t : Teller) (now : Nat) : Teller :=
  if t.step && t.st == .running then { t with st := .halted, step := false, wdogNs := t.wdogNs + (now - t.runAt) } else t

/-- R215: a wait ends: the teller runs on at the next instruction; a SUSPENDED one when WATCH ends (R201). -/
def Teller.endWait (t : Teller) (now : Nat) : Teller :=
  let t1 := { t.next with wait := none, runAt := now }
  if t.st = .suspended then { t1 with held := .running } else { t1 with st := .running }.stepped now

/-- A waiting teller: WAITING, or SUSPENDED while it waited. -/
def Teller.waits (t : Teller) : Bool := t.st == .waiting || (t.st == .suspended && t.held == .waiting)

/-- R255: a reservation or purse wait of a teller ends refused: D and LASTREF, and 0 to a RESERVE's X[RD]. -/
def Teller.purseRefused (t : Teller) (now : Nat) : Teller :=
  match t.wait with
  | some (.reserve rd _) => ((t.xw rd 0).refuse .purseRefused t.pc).endWait now
  | _ => (t.refuse .purseRefused t.pc).endWait now

end Sys2Proof.Machine
end

