-- ==== Sys2Proof/Machine/Conv.lean ====
section
/-! DEFINITION. Converters and captures (10, 11): measurement words and what a published result does, the capture
buffer's words, triggers and their queue, injected operations, calibration and the open-wire test; the commands of
these subjects act on the device and answer the words written to the capture buffer. -/

namespace Sys2Proof.Machine

/-- Words for the capture buffer of a converter: index and word. -/
abbrev BufWords := List (Nat × BitVec 16)

def Dev.cv (s : Dev) (c : Fin 6) : Conv := s.cvs.get c
def Dev.setCv (s : Dev) (c : Fin 6) (x : Conv) : Dev := { s with cvs := s.cvs.set c.val x c.isLt }
def Dev.cap (s : Dev) (c : Fin 6) : Cap := s.caps.get c
def Dev.setCap (s : Dev) (c : Fin 6) (x : Cap) : Dev := { s with caps := s.caps.set c.val x c.isLt }

/-- R372: rail channel k of CVc is L(8c + k). -/
def railOf (c : Fin 6) (k : Fin 8) : Fin 48 := ⟨8 * c.val + k.val, by omega⟩

/-- The converter of a rail, and its channel there. -/
def cvOf (n : Fin 48) : Fin 6 := ⟨n.val / 8, by omega⟩
def chOf (n : Fin 48) : Nat := n.val % 8

/-- One converter clock in ns (R371, R69). -/
def Conv.clk (x : Conv) : Nat := if x.fast then 8 else 16

/-- D = S + N, in ns (R374). -/
def Conv.dwellNs (x : Conv) : Nat := (x.s + x.n) * x.clk

/-- A dwell begun at `began` under the converter's S, N and rate, complete. -/
def Conv.flight (x : Conv) (kind : FlightKind) (told : Bool) : Flight :=
  ⟨kind, x.began, x.began, x.began + x.dwellNs, x.s, x.n, x.clk, told⟩

/-- R384: run `i` of the burst in progress: N samples after those of the runs before; the first also has the settling. -/
def Conv.runFlight (x : Conv) (ch i : Nat) : Flight :=
  let from_ := x.began + (x.s + i * x.n) * x.clk
  ⟨.run ch, x.began, if i = 0 then x.began else from_, from_ + x.n * x.clk, x.s, x.n, x.clk, true⟩

/-- The instant at which a dwell is published: nine clocks after its last sample's (R374). -/
def Flight.pubAt (f : Flight) : Nat := f.last + 9 * f.clk

/-! ### Measurement words (R376, R377) -/

/-- R372: SPAN of a range in units of 100 uV. -/
def spanOf (range : Nat) : Nat :=
  match range with
  | 0 => 16000 | 1 => 64000 | 2 => 256000 | _ => 1024000

/-- The range of a converter's channel (R372). -/
def Dev.chRange (s : Dev) (c : Fin 6) (ch : Nat) : Nat :=
  if h : ch < 8 then s.get (F.RAIL_CFG_RANGE (railOf c ⟨ch, h⟩)) else if ch = 12 then 1 else 0

/-- R376: a code of a channel, corrected by the converter's factors for the channel's range. -/
def Dev.corrected (s : Dev) (c : Fin 6) (ch code : Nat) : Int :=
  let r := s.chRange c ch
  Config.corr s.trims code (s.get (F.CV_CALF c r)) (s.get (F.CV_CALF c (4 + r))) ((List.range 8).map (fun j => s.get (F.CV_CALF c (8 + j))))

/-- R376: the sum of the averaging window; corrected codes come in units of 1/65536 code. -/
def codeSum (codes : List Int) : Int := codes.foldl (· + ·) 0

/-- R376: V and CLIP of an averaging window on a span. -/
def formResult (codes : List Int) (span : Nat) : Nat × Bool :=
  let den : Int := (codes.length * 16384 * 65536 : Nat)
  let v : Int := (2 * codeSum codes * (span : Int) + den) / (2 * den)
  if (span : Int) < v then (span, true) else if v < 0 then (0, true) else (v.toNat, false)

/-! ### Statistics of a result (R443, R444) -/

/-- R443: one result's contribution: its samples are scaled by the span (units of 100 uV / 2^30). -/
def Stat.add (a : Stat) (codes : List Int) (span : Nat) (clip : Bool) : Stat :=
  let xs := codes.map (fun c => c * (span : Int))
  let n := xs.length
  let sum := xs.foldl (· + ·) 0
  let sq := xs.foldl (fun b x => b + x * x) 0
  let lo := xs.foldl min (xs.headD 0)
  let hi := xs.foldl max (xs.headD 0)
  { a with
    lo := if a.nres = 0 then lo else min a.lo lo
    hi := if a.nres = 0 then hi else max a.hi hi
    sumM := a.sumM + sum * (128 / n : Nat)
    sumR := a.sumR + (((n : Int) * sq - sum * sum) * ((128 / n) * (128 / n) : Nat)).toNat
    nres := a.nres + 1
    clip := a.clip || clip }

/-- R443, R444: a VALID result enters the open interval, and a droop is counted: this result lies below the level that the last
completed interval gives, and the result before it does not. -/
def Dev.statAdd (s : Dev) (n : Fin 48) (v : Nat) (codes : List Int) (span : Nat) (clip : Bool) : Dev :=
  let a := (s.stats.get n).add codes span clip
  let low (x : Nat) : Bool := s.flag (F.RAIL_SMEAN_READY n) &&
    decide (x * 1000 < s.get (F.RAIL_SMEAN_V n) * (1000 - s.get (F.RAIL_STATCFG_DROOP n)))
  let droop := low v && a.prev.any (fun p => !low p)
  let b := { a with prev := some v, droops := if droop then a.droops + 1 else a.droops }
  { s with stats := s.stats.set n.val b n.isLt }

/-! ### What a published result does -/

/-- A shutter blanked the rail at the instant `t`. -/
def Rail.blankedAt (r : Rail) (t : Nat) : Bool :=
  r.blankAt.any (fun b => decide (b ≤ t)) || r.blankWas.any (fun b => decide (b.1 ≤ t) && decide (t < b.2))

/-- R122: some blanking of the rail overlaps the span from `a` to `b`. -/
def Rail.blankedIn (r : Rail) (a b : Nat) : Bool :=
  r.blankAt.any (fun t => decide (t < b)) || r.blankWas.any (fun w => decide (w.1 < b) && decide (a < w.2))

/-- The converter's results are not stood behind (R402). -/
def Dev.invalid (s : Dev) (c : Fin 6) : Bool := s.flag (F.CV_STATUS_INVALID c)

/-- R133, R152: a result below VOFF completes a fall: a FALLING rail enters OFF, a FAULTED rail's output is off. -/
def Dev.railFallen (s : Dev) (n : Fin 48) (v : Nat) : Dev :=
  let r := s.rail n
  if v < s.get (F.RAIL_VOFF_VOFF n) ∧ r.out = .falling then
    if r.code = .falling then s.railToOff n
    else if r.code = .faulted then
      let t := s.setRail n { r with out := .off }
      if h : n.val < 8 then (if t.scOp n = scDischarge then t.setOp ⟨n.val, h⟩ scIdle else t) else t
    else s
  else s

/-- R147, R723: scan UV of a GOOD rail, timed between publications; declared once for a run of low results. -/
def Dev.scanUv (s : Dev) (n : Fin 48) (v : Nat) : Dev :=
  let r := s.rail n
  if s.get (F.RAIL_UVTH_UVTH n) ≤ v then s.setRail n { r with refAt := s.now, uvScan := false }
  else if r.code = .good ∧ ¬ r.uvScan ∧ s.elapsed (max r.refAt r.stateAt) (s.get (F.RAIL_FILT_UVFILT n) * 100) then
    (s.setRail n { r with uvScan := true }).railFault n 0x0302 2 (s.get (F.RAIL_REACT_UV n)) (F.RAIL_EVENT_UV n)
      (.conv (cvOf n))
  else s

/-- The OV comparator of the rail is under test (R428). -/
def Dev.ovUnderTest (s : Dev) (n : Fin 48) : Bool :=
  (s.cv (cvOf n)).wtest.any (fun w => w.rail == n && w.ov)

/-- R428, R430: scan OV while the OV comparator is under test or BADOV; declared once for a run of high results. -/
def Dev.scanOv (s : Dev) (n : Fin 48) (v : Nat) : Dev :=
  let r := s.rail n
  if v ≤ s.get (F.RAIL_OVTH_OVTH n) then s.setRail n { r with ovScan := false }
  else if (s.ovUnderTest n || s.flag (F.RAIL_WSTATUS_BADOV n)) ∧ ¬ r.ovScan then
    (s.setRail n { r with ovScan := true }).ov n (.window n)
  else s

/-- R378: whether a result of a dwell begun at `began` is VALID. -/
def Dev.resultValid (s : Dev) (n : Fin 48) (began : Nat) : Bool :=
  !s.invalid (cvOf n) && !(s.rail n).rangeAt.any (fun t => decide (began < t))

/-- R381, R384, R122: publish a result of a rail in MEAS, unless a blanking of the rail overlaps its samples, which lie between
`first` and `last`. The statistics, the statistics' droops, the scan's UV and OV decisions and a completed fall follow. -/
def Dev.publishRail (s : Dev) (n : Fin 48) (began first last : Nat) (codes : List Int) : Dev :=
  let r := s.rail n
  if r.blankedIn first last then s
  else
    let span := spanOf (s.get (F.RAIL_CFG_RANGE n))
    let res := formResult codes span
    let valid := s.resultValid n began
    let s1 := ((((s.put (F.RAIL_MEAS_V n) res.1).roll (F.RAIL_MEAS_SEQ n)).putB (F.RAIL_MEAS_CLIP n) res.2).mark
      (F.RAIL_MEAS_READY n)).putB (F.RAIL_MEAS_VALID n) valid
    let s2 := if res.2 then s1.mark (F.CV_EVENT_CLIP (cvOf n)) else s1
    let s3 := if valid then s2.statAdd n res.1 codes span res.2 else s2
    let x := s3.rail n
    let s4 := s3.setRail n { x with
      result := some res.1
      published := true
      rangeAt := if x.rangeAt.any (fun t => decide (began < t)) then x.rangeAt else none
      lastValid := if valid then some res.1 else x.lastValid }
    ((((s4.ffNew n).railFallen n res.1).scanUv n res.1).scanOv n res.1).reblank

/-- R494: the channel 11 result of a converter counts for TEMPMAX of its enable-class rails. -/
def Dev.convTemp (s : Dev) (c : Fin 6) (t : Int) : Dev :=
  (List.finRange 8).foldl (fun (a : Dev) (k : Fin 8) =>
    if isCtl (railOf c k) then a else a.health (railOf c k) (fun h => h.heat t)) s

/-- R384, R378: publish the word of a diagnosis channel (8-12) in DIAGRES; no word is VALID before boot step 8. -/
def Dev.publishDiag (s : Dev) (c : Fin 6) (ch v : Nat) (clip : Bool) : Dev :=
  let i := ch - 8
  let valid := !s.invalid c && s.dev != .boot
  let w := measWord v (nextSeq (s.get (F.CV_DIAGRES c i))) clip true valid
  let s1 := s.put (F.CV_DIAGRES c i) w.toNat
  let s2 := if ch = 11 then s1.convTemp c (signed 20 v)
    else if ch = 12 ∧ valid then s1.setCv c { s1.cv c with valid12 := some v } else s1
  if clip then s2.mark (F.CV_EVENT_CLIP c) else s2

/-- R376: the value of a diagnosis channel: a voltage on range 0; VIN or HOLD, range 1 times 32; the temperature. -/
def diagValue (ch : Nat) (codes : List Int) (temp : Int) : Nat × Bool :=
  if ch = 11 then (toSigned 20 temp, false)
  else if ch = 12 then
    let r := formResult codes (spanOf 1)
    (r.1 * 32, r.2)
  else formResult codes (spanOf 0)

/-! ### Background plausibility (R401, R402) -/

/-- The mean of the valid die sensors, 0.1 C per LSB, times their count; and the count. -/
def Dev.dieSum (s : Dev) : Int × Nat :=
  (List.range 4).foldl (fun (a : Int × Nat) i =>
    if s.flag (F.THERM_SENSOR_FAIL i) || s.flag (F.THERM_SENSOR_SUBST i) then a
    else (a.1 + signed 16 (s.get (F.THERM_SENSOR_T i)), a.2 + 1)) (0, 0)

/-- R401: the limits of the background dwells. -/
def Dev.plausible (s : Dev) (c : Fin 6) (ch v : Nat) : Bool :=
  match ch with
  | 9 => decide (v ≤ 20)
  | 10 => decide (11940 ≤ v) && decide (v ≤ 12060)
  | 11 =>
    let d := s.dieSum
    decide (d.2 = 0) || decide ((signed 20 v * d.2 - d.1).natAbs ≤ 150 * d.2)
  | _ =>
    let e := if c.val = 5 then s.get F.PWR_VIN_V else s.get F.PWR_HOLDV_V
    decide (((v : Int) - e).natAbs * 50 ≤ e + 250000)

/-- R401, R402: judge a background result: outside its limit, PLAUS and the error CONV_PLAUS. One of channel 12 that no probe takes
(R552) leaves nothing for R565. -/
def Dev.judgePlaus (s : Dev) (c : Fin 6) (ch v : Nat) : Dev :=
  if s.plausible c ch v then s
  else
    let s1 := (s.mark (F.CV_EVENT_PLAUS c)).declare 0x0502 c ch (BitVec.ofNat 32 (s.get (F.CV_DIAGRES c (ch - 8)))) false (some (.conv c))
    let asked := decide (s.probes.length + s.probing.length < s1.probes.length + s1.probing.length)
    s1.setCv c { s1.cv c with plaus12 := (s1.cv c).plaus12 || (ch == 12 && asked) }

/-- R547, R403: part `i` of a converter probe (test DAC codes 0x100, 0x800 and 0xF00 on channel 8 within 0.25 % + 1.0 mV,
then channels 9 and 10) finds `v`. -/
def Dev.probePart (s : Dev) (c : Fin 6) (i v : Nat) : Bool :=
  let near (code : Nat) : Bool := decide ((32 * (v : Int) - 125 * code).natAbs * 400 ≤ 125 * code + 128000)
  match i with
  | 1 => near 0x100
  | 2 => near 0x800
  | 3 => near 0xF00
  | 4 => s.plausible c 9 v
  | _ => s.plausible c 10 v

/-- The channel that part `i` of a converter probe measures. -/
def partChannel (i : Nat) : Nat := if i ≤ 3 then 8 else if i = 4 then 9 else 10

/-- R547, R388: the next result of a converter probe; the probe's next dwell takes the internal request, its test DAC stepping
to the next code now; after the last the test DAC is restored (R429). -/
def Dev.judgeProbe (s : Dev) (c : Fin 6) (v : Nat) : Dev :=
  let x := s.cv c
  let i := x.pstep + 1
  s.setCv c { x with
    pstep := i
    restore := if i = 5 then some s.now else x.restore
    pbad := if x.pbad = 0 ∧ ¬ s.probePart c i v then i else x.pbad
    pAt := s.now
    own := if i < 5 then x.own ++ [.probe (partChannel (i + 1))] else x.own }

/-! ### The open-wire test (R404-R409) -/

def Dev.setWire (s : Dev) (c : Fin 6) (w : Option Wire) : Dev := s.setCv c { s.cv c with wire := w }

/-- R388: place an internal request. -/
def Dev.askOwn (s : Dev) (c : Fin 6) (i : Internal) : Dev := s.setCv c { s.cv c with own := (s.cv c).own ++ [i] }

/-- R404, R405: start the test of a rail channel: its dwell V0 is requested. OWRES keeps the previous result, with READY 0 (R606). -/
def Dev.wireStart (s : Dev) (c : Fin 6) (ch : Nat) (probe : Bool) : Dev :=
  ((s.put (F.CV_OWRES_READY c) 0).setWire c (some ⟨ch, 1, true, s.now, 0, 0, 0, probe⟩)).askOwn c (.wire ch)

/-- R405: the result of the step's dwell; the next source change follows. -/
def Dev.wireResult (s : Dev) (c : Fin 6) (v : Nat) : Dev :=
  match (s.cv c).wire with
  | some w =>
    match w.step with
    | 1 => s.setWire c (some { w with v0 := v, step := 2, dwell := false, since := s.now })
    | 2 => s.setWire c (some { w with v1 := v, step := 3, dwell := false, since := s.now })
    | _ => s.setWire c (some { w with v2 := v, step := 4, dwell := false, since := s.now })
  | none => s

/-- R606, R607: a new result of the open-wire test in OWRES, under the next count. -/
def Dev.wireWrite (s : Dev) (c : Fin 6) (ch : Nat) (openP openN aborted : Bool) : Dev :=
  (((((s.put (F.CV_OWRES_CH c) ch).putB (F.CV_OWRES_OPEN_P c) openP).putB (F.CV_OWRES_OPEN_N c) openN).putB
    (F.CV_OWRES_ABORTED c) aborted).mark (F.CV_OWRES_READY c)).roll (F.CV_OWRES_SEQ c)

/-- R408: a test that has turned a source on is over. -/
def Dev.wireOff (s : Dev) (c : Fin 6) (w : Wire) : Dev :=
  s.setCv c { s.cv c with wire := none, wireOut := if 2 ≤ w.step then some (w.ch, s.now) else (s.cv c).wireOut }

/-- R409: abort a test: both sources off, ABORTED set in a result that names no open wire, its waiting dwell withdrawn. -/
def Dev.wireAbort (s : Dev) (c : Fin 6) : Dev :=
  match (s.cv c).wire with
  | some w =>
    let s1 := s.wireOff c w
    let x := s1.cv c
    (s1.setCv c { x with own := x.own.filter (fun i => match i with | .wire _ => false | _ => true) }).wireWrite c w.ch false false true
  | none => s

/-- R408: from the moment a source turns on to the end of step 4 no scan result of the rail under test is published, nor later one
with a sample of before that end; `first` is the dwell's first sample. -/
def Conv.wireHolds (x : Conv) (ch first : Nat) : Bool :=
  x.wire.any (fun w => w.ch == ch && decide (2 ≤ w.step)) || x.wireOut.any (fun w => w.1 == ch && decide (first < w.2))

/-- A source interval of the open-wire test is in progress (R385). -/
def Conv.wireSource (x : Conv) : Bool := x.wire.any (fun w => w.step == 2 || w.step == 3)

/-- A difference of two results (100 uV) in mV, rounded to the nearest (log entry 21). -/
def toMv (d : Int) : Int := (2 * d + 10) / 20

/-- OPEN_WIRE_SETTLE (R405): OWSET microseconds after a source turned on, the step's dwell is requested. -/
def openWireSettle (ts : Nat) (c : Fin 6) (s : Dev) : Dev :=
  let s := s.advance ts
  match (s.cv c).wire with
  | some w =>
    if (w.step = 2 ∨ w.step = 3) ∧ ¬ w.dwell ∧ s.live ∧ s.elapsed w.since (s.get (F.CV_OWCTL_OWSET c) * 1000) then
      (s.setWire c (some { w with dwell := true })).askOwn c (.wire w.ch)
    else s
  | none => s

/-- R405, R406: DP, DN and what they report. An error's or a PROBE's own test leaves the judgement to its verdict. -/
def Dev.wireEnd (s : Dev) (c : Fin 6) (w : Wire) : Dev :=
  let dp := toMv ((w.v1 : Int) - w.v0)
  let dn := toMv ((w.v2 : Int) - w.v0)
  let thr : Int := s.get (F.CV_OWCTL_OWTHR c)
  let s1 := ((s.wireOff c w).put (F.CV_OWDELTA_DP c) (toSigned 16 dp)).put (F.CV_OWDELTA_DN c) (toSigned 16 dn)
  let s2 := s1.wireWrite c w.ch (decide (thr < dp)) (decide (thr < dn)) false
  if thr < dp ∨ thr < dn then
    let s3 := s2.mark (F.CV_EVENT_OPEN c)
    if h : w.ch < 8 then
      let n := railOf c ⟨w.ch, h⟩
      if w.probe then s3
      else s3.declare 0x0503 n (s3.stored (0x150B + 0x80 * c.val)) (s3.stored (0x150A + 0x80 * c.val)) false (some (.sense n))
    else s3
  else s2

/-- OPEN_WIRE_END (R405, R406): OWSET microseconds after the sources are off, the test ends. -/
def openWireEnd (ts : Nat) (c : Fin 6) (s : Dev) : Dev :=
  let s := s.advance ts
  match (s.cv c).wire with
  | some w =>
    if w.step = 4 ∧ s.live ∧ s.elapsed w.since (s.get (F.CV_OWCTL_OWSET c) * 1000) then s.wireEnd c w else s
  | none => s

/-! ### The capture buffer's words (R431-R439) -/

def capOff : Nat := 0
def capArmed : Nat := 1
def capCapturing : Nat := 2
def capFrozen : Nat := 3

def Dev.capState (s : Dev) (c : Fin 6) : Nat := s.get (F.CAP_STATUS_STATE c)

/-- R433: the buffer records every sample: ARMED or CAPTURING in AUDIT at 125 MHz. -/
def Dev.continuous (s : Dev) (c : Fin 6) : Bool :=
  (s.capState c == capArmed || s.capState c == capCapturing) && s.eff == .audit && (s.cv c).fast

/-- R433: keep the spans in which the buffer is ARMED or CAPTURING in AUDIT in step with its state and the mode. -/
def Dev.capSync (s : Dev) (c : Fin 6) : Dev :=
  let x := s.cap c
  let holds := (s.capState c == capArmed || s.capState c == capCapturing) && s.eff == .audit
  match x.heldAt, holds with
  | none, true => s.setCap c { x with heldAt := some s.now }
  | some t, false => s.setCap c { x with heldAt := none, held := ((t, s.now) :: x.held).take 4 }
  | _, _ => s

/-- The same for every buffer. -/
def Dev.capSyncAll (s : Dev) : Dev := (List.finRange 6).foldl (fun (a : Dev) (c : Fin 6) => a.capSync c) s

/-- R433: the buffer was ARMED or CAPTURING in AUDIT at the instant `t`. -/
def Cap.heldIn (x : Cap) (t : Nat) : Bool :=
  x.heldAt.any (fun a => decide (a ≤ t)) || x.held.any (fun w => decide (w.1 ≤ t) && decide (t < w.2))

/-- R439: writing word `i` overwrites the completed captures that span it. -/
def Dev.overwrite (s : Dev) (c : Fin 6) (i : Nat) : Dev :=
  (List.range 4).foldl (fun (a : Dev) d =>
    let len := a.get (F.CAP_DLEN_LEN c d)
    if len ≠ 0 ∧ (i + 65536 - a.get (F.CAP_DPOS_START c d)) % 65536 < len ∧ a.get (F.CAP_DLEN_OVERWRITTEN c d) = 0 then
      ((a.mark (F.CAP_DLEN_OVERWRITTEN c d)).bump (F.CAP_MISS_OVWR c)).mark (F.CAP_EVENT_OVWR c)
    else a) s

/-- One word at the write pointer. -/
def Dev.capWord (s : Dev) (c : Fin 6) : Dev :=
  let i := s.get (F.CAP_STATUS_WPTR c)
  let s1 := (s.overwrite c i).put (F.CAP_STATUS_WPTR c) (i + 1)
  let s2 := s1.put (F.CAP_FILL_FILL c) (min 65536 (s1.get (F.CAP_FILL_FILL c) + 1))
  s2.setCap c { s2.cap c with run := (s2.cap c).run + 1 }

/-- R431, R433: write words; the first after an interruption, a tag, carries GAP. -/
def Dev.capWrite (s : Dev) (c : Fin 6) (ws : List (BitVec 16)) : Dev × BufWords :=
  match ws with
  | [] => (s, [])
  | w :: rest =>
    let x := s.cap c
    let w0 := if x.gap then w ||| 0x40 else w
    let s0 := if x.gap then s.setCap c { x with gap := false, run := 0 } else s
    let i := s.get (F.CAP_STATUS_WPTR c)
    ((w0 :: rest).foldl (fun (a : Dev) _ => a.capWord c) s0,
      (List.range (w0 :: rest).length).zip (w0 :: rest) |>.map (fun p => ((i + p.1) % 65536, p.2)))

/-- R431: a tag. -/
def tagWord (ch : Nat) (inj burst : Bool) : BitVec 16 :=
  BitVec.ofNat 16 (0xC000 + ch % 16 + (if inj then 16 else 0) + (if burst then 32 else 0))

/-- R376, R431: a corrected code rounded for the buffer and limited to its 14 bits. -/
def roundCode (c : Int) : Nat := min 16383 (max 0 ((2 * c + 65536) / 131072)).toNat

/-- R431: the words of a dwell or burst from its codes in time order, the tag in place of the first. `t0` is the
instant of the first sample, `st` the settling samples and `clk` the converter clock. -/
def Dev.dwellWords (s : Dev) (c : Fin 6) (ch : Nat) (inj burst : Bool) (t0 st clk : Nat) (codes : List Nat) :
    List (BitVec 16) :=
  (List.range codes.length).zip codes |>.map (fun p =>
    if p.1 = 0 then tagWord ch inj burst
    else
      let code := BitVec.ofNat 16 (roundCode (s.corrected c ch p.2))
      if p.1 < st then 0x4000#16 ||| code
      else if h : ch < 8 then
        if (s.rail (railOf c ⟨ch, h⟩)).blankedAt (t0 + p.1 * clk) then 0x8000#16 ||| code else code
      else code)

/-- R433: the stream into the buffer is interrupted. -/
def Dev.capBreak (s : Dev) (c : Fin 6) (broken : Bool) : Dev :=
  if broken then s.setCap c { s.cap c with gap := true } else s

/-- R433: record those samples of a dwell that the converter took at 125 MHz while the buffer was ARMED or CAPTURING in AUDIT; the
samples it does not record interrupt the stream. -/
def Dev.recordDwell (s : Dev) (c : Fin 6) (ch : Nat) (inj : Bool) (t0 st clk : Nat) (codes : List Nat) : Dev × BufWords :=
  let holds (i : Nat) : Bool := clk == 8 && (s.cap c).heldIn (t0 + i * clk)
  let from_ := ((List.range codes.length).takeWhile (fun i => !holds i)).length
  let run := (((List.range codes.length).drop from_).takeWhile holds).length
  if run = 0 then (s.capBreak c true, [])
  else
    let r := (s.capBreak c (decide (0 < from_))).capWrite c
      (s.dwellWords c ch inj false (t0 + from_ * clk) (st - from_) clk ((codes.drop from_).take run))
    (r.1.capBreak c (decide (from_ + run < codes.length)), r.2)

/-! ### The scan (R374, R375, R380, R383) -/

/-- R375: the scan's next slot begins at the instant `at_`; slot 0 takes up a changed CV[n].CFG; the rate follows the
last close (R33). -/
def Dev.beginSlot (s : Dev) (c : Fin 6) (k : Fin 8) (at_ : Nat) : Dev :=
  let x := s.cv c
  let x1 := if k.val = 0 then { x with s := s.get (F.CV_CFG_S c), n := 2 ^ s.get (F.CV_CFG_NLOG c) } else x
  ((s.setCv c { x1 with slot := k, began := at_, fast := s.cvFast }).put (F.CV_CHSEL_CH c) k).put (F.CV_CHSEL_INJ c) 0

/-- R375: a changed CV[n].CFG also holds for a slot 0 of the slow scan that has yet to begin. -/
def Dev.cfgTaken (s : Dev) (c : Fin 6) : Dev :=
  let x := s.cv c
  if x.op = .slow ∧ x.slot = 0 ∧ s.now < x.began then s.beginSlot c 0 x.began else s

/-- The slot after `k` (R380). -/
def nextSlot (k : Fin 8) : Fin 8 := ⟨(k.val + 1) % 8, by omega⟩

/-- One scan dwell is complete: the counts of R387 and R388. -/
def Conv.counted (x : Conv) : Conv := { x with must := x.must - 1, ownMust := x.ownMust - 1 }

/-- R411: the converter and its test DAC, which the probe of a path needs powered. -/
def Path.needs (p : Path) (c : Fin 6) : Bool :=
  match p with
  | .conv a => a == c
  | .selftest 1 a => a == c.val
  | .window n | .windowPg n => cvOf n == c
  | .selftest 0 n => cvOf (Fin.ofNat 48 n) == c
  | .dieSensors => true
  | _ => false

/-- R411, R554: the error probe of a path that needs the converter runs; a latent test alone does not in WATCH (R572). -/
def Dev.keptUp (s : Dev) (c : Fin 6) : Bool := s.probing.any (fun p => !p.latent && s.ticked p && p.path.needs c)

/-- The paths whose probe has an internal dwell run on converter `c` (R547). -/
def Internal.ofPath (i : Internal) (c : Fin 6) (p : Path) : Bool :=
  match i with
  | .probe ch => if ch = 11 then p == .dieSensors else p == .conv c || p == .selftest 1 c
  | _ => false

/-- R388, R411, R554, R572: the converter may serve the dwell; in WATCH an error probe's alone, once its tick has come. -/
def Dev.mayServe (s : Dev) (c : Fin 6) (i : Internal) : Bool :=
  s.eff != .watch || s.probing.any (fun p => !p.latent && s.ticked p && i.ofPath c p.path)

/-- R374, R410: the scan dwell in progress has its samples: it is in the pipeline, and the next slot began as its last sample
was taken. A slow scan ends after slot 7 and the converter powers down, unless a probe keeps it up. -/
def Dev.scanNext (s : Dev) (c : Fin 6) : Dev :=
  let x := s.cv c
  let slow := x.op == .slow
  let y := { x.counted with flights := x.flights ++ [x.flight (if slow then .slow x.slot else .scan x.slot) false] }
  if slow && x.slot.val == 7 && !s.keptUp c then s.setCv c { y with op := .idle, slot := 0 }
  else (s.setCv c y).beginSlot c (nextSlot x.slot) (x.began + x.dwellNs)

/-- R374: bring the scan up to this instant, dwell by dwell; it does not run ahead of a result that is due and not yet
published. -/
def Dev.scanTo (s : Dev) (c : Fin 6) : Nat → Dev
  | 0 => s
  | fuel + 1 =>
    let x := s.cv c
    if (x.op = .scan ∨ x.op = .slow) ∧ s.elapsed x.began x.dwellNs ∧ x.flights.all (fun f => decide (s.now < f.pubAt)) then
      (s.scanNext c).scanTo c fuel
    else s

/-- The scan at this instant: of the shortest dwells, of five clocks, three end within the pipeline's nine and the next. -/
def Dev.scanned (s : Dev) (c : Fin 6) : Dev := s.scanTo c 3

/-- R433: the words of the scan dwells in the pipeline that have not gone to the buffer, from codes in time order; and the codes
that are left. -/
def Dev.tellFlights (s : Dev) (c : Fin 6) (raw : List Nat) : (Dev × BufWords) × List Nat :=
  let fs := (s.cv c).flights
  let r := fs.foldl (fun (a : (Dev × BufWords) × List Nat) f =>
    match f.told, f.kind with
    | false, .scan k =>
      let w := a.1.1.recordDwell c k.val false f.began f.s f.clk (a.2.take (f.s + f.n))
      ((w.1, a.1.2 ++ w.2), a.2.drop (f.s + f.n))
    | _, _ => a) ((s, []), raw)
  let d := r.1.1
  ((d.setCv c { d.cv c with flights := fs.map (fun (f : Flight) => { f with told := true }) }, r.1.2), r.2)

/-- R383: end the scan dwell in progress at this instant: it is abandoned, and those before it that are complete stay in the
pipeline. `raw` are their codes, and those of the abandoned dwell, in time order. -/
def Dev.cutScan (s : Dev) (c : Fin 6) (raw : List Nat) : Dev × BufWords :=
  let s1 := s.scanned c
  let x := s1.cv c
  if x.op = CvOp.scan then
    let r := s1.tellFlights c raw
    let rest := r.2.take ((s.now - x.began) / x.clk)
    if rest.isEmpty then r.1
    else
      let w := r.1.1.recordDwell c x.slot false x.began x.s x.clk rest
      (w.1, r.1.2 ++ w.2)
  else (s1, [])

/-! ### Triggers (R383-R390, R434) -/

/-- R386: the rank among triggers of one converter clock; lower ranks first. -/
def Dev.trigRank (s : Dev) : TrigSrc → Nat
  | .window n ov => 2 * n.val + (if ov then 1 else 0)
  | .gate g => 100 + g.val
  | .teller k _ | .wrr k _ => 200 + (7 - s.get (F.TELLER_CFG_PRIO k)) * 8 + k.val
  | .door d => 300 + d.val

/-- R386: the converter clock in which a trigger of this instant arrives. -/
def Dev.arrival (s : Dev) (c : Fin 6) : Nat := (s.now + (s.cv c).clk - 1) / (s.cv c).clk

/-- R385: a trigger of this instant finds the converter busy: an operation, a calibration (or its beginning, R395), the scan of
R387 or an open-wire source interval is in progress, a trigger waits or is about to be accepted; at sag level 2 a burst waits
(R390); a dwell of channel 8 waits for the test DAC (R429). -/
def Dev.cvBusy (s : Dev) (c : Fin 6) (t : Trig) : Bool :=
  let x := (s.scanned c).cv c
  x.op != CvOp.scan || decide (x.must ≠ 0) || x.arriving.isSome || x.pend.isSome || x.wireSource || (t.burst && s.sag == 2) ||
    (t.ch == 8 && (x.wtest.isSome || x.restore.isSome)) || (x.calPend && x.calWait == 0 && x.wire.isNone)

/-- R385: whether a trigger of this instant would be dropped. -/
def Dev.wouldDrop (s : Dev) (c : Fin 6) (t : Trig) : Bool :=
  let x := s.cv c
  let outranks (o : Option Trig) : Bool :=
    o.any (fun a => a.arrive == t.arrive && decide (s.trigRank t.src < s.trigRank a.src))
  s.cvBusy c t && x.pend.isSome && (!outranks x.arriving || (t.burst && s.sag == 2)) && !outranks x.pend

/-- R385: count a dropped trigger. -/
def Dev.countDrop (s : Dev) (c : Fin 6) : Dev := (s.bump (F.CV_TRIG_OVERRUN c)).mark (F.CV_EVENT_OVERRUN c)

/-- R392: an injected dwell whose result goes to INJRES. -/
def Trig.ofHost (t : Trig) : Bool :=
  !t.burst && match t.src with
    | .wrr .. | .door _ => true
    | _ => false

/-- R392: such a dwell has been accepted and its result is still to be published. -/
def Conv.hostWaits (x : Conv) : Bool :=
  x.arriving.any Trig.ofHost || x.pend.any Trig.ofHost ||
    (match x.op with
      | .dwell t _ => t.ofHost
      | _ => false) ||
    x.flights.any (fun f => match f.kind with
      | .dwell t => t.ofHost
      | _ => false)

/-- R392: the dwell that a host requested through INJCTL is not to be: INJRES has its READY back, unless another one is on its way. -/
def Dev.injBack (s : Dev) (c : Fin 6) (t : Trig) : Dev :=
  if !t.burst && (s.cv c).injReady && !(s.cv c).hostWaits then s.setBit (F.CV_INJRES_WORD c) 30 else s

/-- R268, R385, R392: a trigger that had a place loses it to one of a higher rank in the same converter clock. A door's request
is refused as a single write is, whatever brought it (log entry 39). -/
def Dev.trigLost (s : Dev) (c : Fin 6) (t : Trig) : Dev :=
  let s1 := s.countDrop c
  match t.src with
  | .teller k pc =>
    let x := s1.teller k
    match x.wait with
    | some (.inj rd c' a) =>
      if c' = c ∧ a = t.arrive ∧ ¬ t.burst then s1.setTeller k (((x.xw rd 0).refuse .trigOverrun pc).endWait s1.now)
      else s1.setTeller k (x.refuse .trigOverrun pc)
    | _ => s1.setTeller k (x.refuse .trigOverrun pc)
  | .wrr k pc => (s1.injBack c t).refuseTeller k .trigOverrun pc
  | .door d => (s1.injBack c t).writeRefused d (0x1503 + 0x80 * c.val) .trigOverrun
  | _ => s1

/-- R385, R386, R397: present a trigger to its converter: it is about to be accepted, or takes the pending place, or is
dropped; a higher-ranked one of the same converter clock takes the place of a lower one. -/
def Dev.present (s : Dev) (c : Fin 6) (t : Trig) : Dev :=
  let s0 := if (s.cv c).op = CvOp.cal then s.bump (F.CV_TRIG_DURCAL c) else s
  let x := s0.cv c
  let beats (o : Option Trig) : Bool :=
    o.any (fun a => a.arrive == t.arrive && decide (s0.trigRank t.src < s0.trigRank a.src))
  if !s0.cvBusy c t then s0.setCv c { x with arriving := some t }
  else if beats x.arriving && !(t.burst && s0.sag == 2) then
    match x.arriving, x.pend with
    | some a, none => s0.setCv c { x with arriving := some t, pend := some a }
    | some a, some p =>
      if p.arrive = a.arrive ∧ s0.trigRank a.src < s0.trigRank p.src then
        (s0.setCv c { x with arriving := some t, pend := some a }).trigLost c p
      else (s0.setCv c { x with arriving := some t }).trigLost c a
    | none, _ => s0
  else if x.pend.isNone then s0.setCv c { x with pend := some t }
  else if beats x.pend then
    match x.pend with
    | some p => (s0.setCv c { x with pend := some t }).trigLost c p
    | none => s0
  else s0.countDrop c

/-- The buffer takes captures: ARMED or CAPTURING (R422, R434). -/
def Dev.capTakes (s : Dev) (c : Fin 6) : Bool := s.capState c == capArmed || s.capState c == capCapturing

/-- Count a missed trigger (R422, R434, R438). -/
def Dev.capMiss (s : Dev) (c : Fin 6) : Dev := (s.bump (F.CAP_MISS_MISS c)).mark (F.CAP_EVENT_MISS c)

/-- R422, R434: a window route or an angle gate triggers a capture of a rail; in WATCH it does nothing (R411, R425). -/
def Dev.captureTrigger (s : Dev) (src : TrigSrc) (n : Fin 48) : Dev :=
  let c := cvOf n
  if s.eff = .watch then s
  else if s.capTakes c then s.present c ⟨src, chOf n, true, s.stamp, s.arrival c⟩
  else s.capMiss c

/-! ### Operations -/

/-- R435: L and P of a capture, and CLAMPED, for S settling samples. -/
def captureLen (s capLen pre : Nat) : Nat × Nat × Bool :=
  let l := if capLen = 0 then 65536 else capLen
  if 65536 < s + l then (65536 - s, 0, true)
  else if 65536 < pre + s + l then (l, 65536 - s - l, true)
  else (l, pre, false)

/-- DSRC.SRC and DSRC.OBJ of a trigger. -/
def TrigSrc.code : TrigSrc → Nat × Nat
  | .window _ false => (0, 0) | .window _ true => (1, 0) | .gate g => (2, g.val) | .teller k _ => (3, k.val)
  | .wrr k _ => (3, k.val)
  | .door d => (4, d.val)

/-- CV[n].STATUS.PSRC. -/
def TrigSrc.psrc : TrigSrc → Nat
  | .window .. => 0 | .gate _ => 1 | .teller .. => 2 | .wrr .. => 2 | .door _ => 3

/-- R433, R435-R437: what acceptance of a burst writes: the newest descriptor and the buffer's state; its tag carries GAP where
the stream before it was interrupted. -/
def Dev.captureBegin (s : Dev) (c : Fin 6) (t : Trig) (pended : Bool) (pre : Nat) (clamped : Bool) : Dev :=
  let d := (s.get (F.CAP_DCOUNT_NEWEST c) + 1) % 4
  let trig := s.get (F.CAP_STATUS_WPTR c)
  let x := s.cap c
  let run := if x.gap then 0 else x.run
  let p := if s.continuous c then min pre run else 0
  let s1 := (((s.put (F.CAP_DCOUNT_NEWEST c) d).put (F.CAP_DPOS_START c d) (trig + 65536 - p)).put
    (F.CAP_DPOS_TRIG c d) trig)
  let s2 := ((((s1.put (F.CAP_DLEN_LEN c d) 0).put (F.CAP_DLEN_CLAMPED c d) 0).put (F.CAP_DLEN_OVERWRITTEN c d) 0).put
    (F.CAP_DLEN_SHORTPRE c d) 0)
  let s3 := if h : t.ch < 8 then s2.put (F.CAP_DLEN_RANGE c d) (s2.get (F.RAIL_CFG_RANGE (railOf c ⟨t.ch, h⟩))) else s2
  let s4 := (((s3.put (F.CAP_DSRC_SRC c d) t.src.code.1).put (F.CAP_DSRC_CH c d) t.ch).put (F.CAP_DSRC_OBJ c d)
    t.src.code.2)
  let s5 := ((s4.putB (F.CAP_DSRC_RATE c d) (s4.cv c).fast).putB (F.CAP_DSRC_PENDED c d) pended)
  let s6 := (List.range 4).foldl (fun (a : Dev) j => a.put (F.CAP_DSTAMP c d j) (t.stamp.word j).toNat) s5
  let s7 := if clamped then s6.mark (F.CAP_EVENT_CLAMPED c) else s6
  (s7.put (F.CAP_STATUS_STATE c) capCapturing).setCap c
    { s7.cap c with pre := p, clamped := clamped, short := decide (p < pre), tagGap := x.gap || !s.continuous c, gap := false }

/-- Begin an operation at this instant (R383, R387); while a calibration waits for operations, it is one of them (R395). -/
def Dev.beginOp (s : Dev) (c : Fin 6) (t : Trig) (pended : Bool) : Dev :=
  let x := { s.cv c with owes := (s.cv c).calPend && decide (0 < (s.cv c).calWait) }
  let fast := s.cvFast
  if t.burst then
    let lp := captureLen x.s (s.get (F.CAP_CFG_CAPLEN c)) (s.get (F.CAP_CFG_PRE c))
    let s1 := s.setCv c { x with fast := fast, began := s.now, op := .burst t pended lp.1 0 }
    ((s1.captureBegin c t pended lp.2.1 lp.2.2).put (F.CV_CHSEL_CH c) t.ch).mark (F.CV_CHSEL_INJ c)
  else
    ((s.setCv c { x with fast := fast, began := s.now, op := .dwell t pended }).put (F.CV_CHSEL_CH c) t.ch).mark
      (F.CV_CHSEL_INJ c)

/-- R395: a trigger for which a calibration waits has gone without an operation. -/
def Conv.gone (x : Conv) : Conv := { x with calWait := x.calWait - 1 }

/-- TRIGGER_ACCEPT (R383): a presented trigger is accepted; a burst whose buffer takes no captures is missed. -/
def triggerAccept (ts : Nat) (c : Fin 6) (raw : List Nat) (s : Dev) : Dev × BufWords :=
  let s := s.advance ts
  match (s.cv c).arriving with
  | some t =>
    let r := s.cutScan c raw
    if (r.1.cv c).op = CvOp.scan ∧ s.live ∧ s.mainAlive then
      let s1 := r.1.setCv c { r.1.cv c with arriving := none }
      if t.burst ∧ ¬ s1.capTakes c then ((s1.setCv c (s1.cv c).gone).capMiss c, r.2) else (s1.beginOp c t false, r.2)
    else (s, [])
  | none => (s, [])

/-- PENDING_TRIGGER_SERVE (R387, R398): at the slot boundary that ends the full scan, or at the end of a calibration, the pending
trigger is served. -/
def pendingTriggerServe (ts : Nat) (c : Fin 6) (raw : List Nat) (s : Dev) : Dev × BufWords :=
  let s := s.advance ts
  let r := s.cutScan c raw
  let x := r.1.cv c
  match x.pend with
  | some t =>
    if x.op = CvOp.scan ∧ x.must = 0 ∧ x.arriving.isNone ∧ ¬ (t.burst ∧ s.sag = 2) ∧
        ¬ (t.ch = 8 ∧ (x.wtest.isSome ∨ x.restore.isSome)) ∧ s.live ∧ s.mainAlive then
      let s1 := r.1.setCv c { x with pend := none }
      if t.burst ∧ ¬ s1.capTakes c then ((s1.setCv c (s1.cv c).gone).capMiss c, r.2) else (s1.beginOp c t true, r.2)
    else (s, [])
  | none => (s, [])

/-- A dwell of a probe. -/
def Internal.isProbe : Internal → Bool
  | .probe _ => true
  | _ => false

/-- R547: the test DAC has settled for a probe's dwell of channel 8. -/
def Dev.dacSettled (s : Dev) (x : Conv) : Internal → Bool
  | .probe 8 => s.elapsed x.pAt 5000
  | _ => true

/-- INTERNAL_DWELL_SERVE (R388): the converter serves its internal request, after any pending trigger and the full scan. In WATCH
it serves an error probe's dwell, after its slow scan (R411, R554); in BOOT, where no scan runs, a probe's at once (R547). -/
def internalDwellServe (ts : Nat) (c : Fin 6) (raw : List Nat) (s : Dev) : Dev × BufWords :=
  let s := s.advance ts
  let r := s.cutScan c raw
  let x := r.1.cv c
  match x.own.find? (s.mayServe c) with
  | some i =>
    let watch := s.eff == .watch && x.op == .slow
    let boot := s.dev == .boot && x.op == .idle && i.isProbe
    if (x.op = CvOp.scan ∨ watch ∨ boot) ∧ x.must = 0 ∧ x.ownMust = 0 ∧ x.arriving.isNone ∧ x.pend.isNone ∧
        s.dacSettled x i ∧ (s.live ∨ boot) ∧ s.mainAlive then
      (((r.1.setCv c { x with own := x.own.erase i, op := .own i, began := s.now, fast := s.cvFast, owes := false }).put (F.CV_CHSEL_CH c)
        i.ch).mark (F.CV_CHSEL_INJ c), r.2)
    else (s, [])
  | none => (s, [])

/-- R383, R387: after an injected operation the scan resumes with the abandoned slot, and one full scan is due; in WATCH it is
the slow scan (R411); in BOOT the converter rests. -/
def Dev.resumeScan (s : Dev) (c : Fin 6) : Dev :=
  let x := s.cv c
  if s.dev = .boot then s.setCv c { x with op := .idle, ownMust := 0 }
  else
  (s.setCv c { x with
    op := if s.eff = .watch then .slow else .scan
    must := if s.eff = .watch then 0 else 8
    ownMust := 8
    calWait := if x.owes then x.calWait - 1 else x.calWait
    owes := false }).beginSlot c x.slot s.now

/-- R438: a buffer that enters FROZEN or OFF removes the capture that waits at its converter. -/
def Dev.capDropPending (s : Dev) (c : Fin 6) : Dev :=
  let x := s.cv c
  match x.pend with
  | some t => if t.burst then (s.setCv c { x.gone with pend := none }).capMiss c else s
  | none => s

/-- R533: an archive commit's copy of a buffer begins: its block shows CAP.STATUS as it stands now. -/
def Dev.capSnap (s : Dev) (c : Fin 6) : Dev :=
  s.setCap c { s.cap c with
    snap := BitVec.ofNat 32 ((s.putB (F.CAP_STATUS_CONT c) (s.continuous c)).get ⟨0x2102 + 40 * c.val, 0, 32⟩) }

/-- R437, R432, R440: a burst ends: its descriptor is completed, and the buffer returns to ARMED or enters FROZEN or OFF; for
an archive commit that waits for it, FROZEN. -/
def Dev.captureEnd (s : Dev) (c : Fin 6) (len : Nat) : Dev :=
  let d := s.get (F.CAP_DCOUNT_NEWEST c)
  let x := s.cap c
  let s1 := (s.roll (F.CAP_DCOUNT_SEQ c)).mark (F.CAP_EVENT_DONE c)
  let s2 := ((((s1.put (F.CAP_DLEN_LEN c d) (x.pre + (s.cv c).s + len)).putB (F.CAP_DLEN_CLAMPED c d) x.clamped).putB
    (F.CAP_DLEN_SHORTPRE c d) x.short).put (F.CAP_DSRC_SEQ c d) (s1.get (F.CAP_DCOUNT_SEQ c)))
  let s3 := s2.setCap c { s2.cap c with disarm := false, gap := (s2.cap c).gap || !s2.continuous c }
  let st := if x.disarm then capOff else if s3.flag (F.CAP_CTL_FREEZE c) then capFrozen else capArmed
  (if x.back.isSome then
    (((s3.setCap c { s3.cap c with back := some st, gap := true }).put (F.CAP_STATUS_STATE c) capFrozen).capDropPending c).capSnap c
  else if st = capArmed then s3.put (F.CAP_STATUS_STATE c) capArmed
  else (s3.put (F.CAP_STATUS_STATE c) st).capDropPending c).capSync c

/-- R436, R433: the words of a burst: its tag, S - 1 settling samples and L averaging samples; an interruption since its
acceptance shows in the word after them. -/
def Dev.burstWords (s : Dev) (c : Fin 6) (t : Trig) (raw : List Nat) : Dev × BufWords :=
  let x := s.cv c
  let y := s.cap c
  let r := (s.setCap c { y with gap := y.tagGap }).capWrite c (s.dwellWords c t.ch true true x.began x.s x.clk raw)
  (r.1.setCap c { r.1.cap c with gap := y.gap }, r.2)

/-- A dwell that ends now goes into the pipeline and, where the buffer records every sample, into the buffer. -/
def Dev.dwellEnds (s : Dev) (c : Fin 6) (ch : Nat) (kind : FlightKind) (raw : List Nat) : Dev × BufWords :=
  let x := s.cv c
  let r := s.recordDwell c ch true x.began x.s x.clk (raw.take (x.s + x.n))
  let y := r.1.cv c
  ((r.1.setCv c { y with flights := y.flights ++ [x.flight kind true] }).resumeScan c, r.2)

/-- INJECTED_OPERATION_END (R387, R436, R437): an injected dwell, burst or internal dwell has taken its samples. `raw` are its
codes in time order: S + L for a burst, whose words enter the buffer now. -/
def injectedOperationEnd (ts : Nat) (c : Fin 6) (raw : List Nat) (s : Dev) : Dev × BufWords :=
  let s := s.advance ts
  let x := s.cv c
  match x.op with
  | .burst t _ len done =>
    if s.elapsed x.began ((x.s + len) * x.clk) ∧ raw.length = x.s + len then
      let r := s.burstWords c t raw
      let s1 := r.1.captureEnd c len
      let y := s1.cv c
      let runs := (List.range (len / x.n - done)).map (fun i => x.runFlight t.ch (done + i))
      ((s1.setCv c { y with flights := y.flights ++ runs }).resumeScan c, r.2)
    else (s, [])
  | .dwell t _ => if s.elapsed x.began x.dwellNs then s.dwellEnds c t.ch (.dwell t) raw else (s, [])
  | .own i => if s.elapsed x.began x.dwellNs then s.dwellEnds c i.ch (.own i) raw else (s, [])
  | _ => (s, [])

/-! ### Publication (R374) -/

/-- R269, R384, R392: the result of an injected dwell reaches the rail's MEAS or DIAGRES, and its requester. The word
an INJ returns is that of the register its result stands in. -/
def Dev.publishDwell (s : Dev) (c : Fin 6) (t : Trig) (f : Flight) (codes : List Int) (temp : Int) : Dev :=
  let res := if h : t.ch < 8 then formResult codes (spanOf (s.get (F.RAIL_CFG_RANGE (railOf c ⟨t.ch, h⟩))))
    else diagValue t.ch codes temp
  let valid := if h : t.ch < 8 then s.resultValid (railOf c ⟨t.ch, h⟩) f.began else !s.invalid c
  let s1 := if h : t.ch < 8 then s.publishRail (railOf c ⟨t.ch, h⟩) f.began f.first f.last codes
    else s.publishDiag c t.ch res.1 res.2
  let seq := if h : t.ch < 8 then s1.get (F.RAIL_MEAS_SEQ (railOf c ⟨t.ch, h⟩)) else s1.get (F.CV_DIAGRES c (t.ch - 8)) / 2 ^ 20
  match t.src with
  | .teller k _ =>
    let y := s1.teller k
    match y.wait with
    | some (.inj rd c' a) =>
      if c' = c ∧ a = t.arrive then s1.setTeller k ((y.xw rd (measWord res.1 seq res.2 true valid)).endWait s1.now) else s1
    | _ => s1
  | .door _ | .wrr .. =>
    (s1.setCv c { s1.cv c with injCh := if t.ch < 8 then some t.ch else none }).put (F.CV_INJRES_WORD c)
      (measWord res.1 (nextSeq (s1.get (F.CV_INJRES_WORD c))) res.2 true valid).toNat
  | _ => s1

/-- R401, R405, R547: the result of an internal dwell. The dwells of the open-wire test publish as every injected dwell of a rail
channel does (R384); R408 withholds scan results alone. -/
def Dev.publishOwn (s : Dev) (c : Fin 6) (i : Internal) (f : Flight) (codes : List Int) (temp : Int) : Dev :=
  match i with
  | .plaus ch =>
    let r := diagValue ch codes temp
    (s.publishDiag c ch r.1 r.2).judgePlaus c ch r.1
  | .probe ch =>
    let r := diagValue ch codes temp
    let t := s.publishDiag c ch r.1 r.2
    if ch = 11 then t.setCv c { t.cv c with dieT := some temp } else t.judgeProbe c r.1
  | .wire ch =>
    if h : ch < 8 then
      let n := railOf c ⟨ch, h⟩
      let v := (formResult codes (spanOf (s.get (F.RAIL_CFG_RANGE n)))).1
      (s.publishRail n f.began f.first f.last codes).wireResult c v
    else s

/-- R374: publish the result of a dwell of the pipeline: of a scan dwell, unless its rail is under the open-wire test (R381,
R408); of a slow scan's, whatever the shutters (R126); of an injected or internal dwell; of a run of a burst (R384). -/
def Dev.publish (s : Dev) (c : Fin 6) (f : Flight) (codes : List Int) (temp : Int) : Dev :=
  match f.kind with
  | .scan k => if (s.cv c).wireHolds k f.first then s else s.publishRail (railOf c k) f.began f.first f.last codes
  | .slow k => s.publishRail (railOf c k) f.began 0 0 codes
  | .dwell t => s.publishDwell c t f codes temp
  | .own i => s.publishOwn c i f codes temp
  | .run ch => if h : ch < 8 then s.publishRail (railOf c ⟨ch, h⟩) f.began f.first f.last codes else s

/-- The channel of a dwell of the pipeline. -/
def FlightKind.ch : FlightKind → Nat
  | .scan k | .slow k => k
  | .dwell t => t.ch
  | .own i => i.ch
  | .run ch => ch

/-- The words of a scan dwell enter the buffer with its result, unless they stand there. -/
def Dev.tellOne (s : Dev) (c : Fin 6) (f : Flight) (raw : List Nat) : Dev × BufWords :=
  if f.told then (s, []) else s.recordDwell c f.kind.ch false f.began f.s f.clk raw

/-- The result that is published next: the oldest of the pipeline, or else the next run of the burst in progress; with the
device that has it no more. -/
def Dev.nextFlight (s : Dev) (c : Fin 6) : Option (Flight × Dev) :=
  let x := s.cv c
  match x.flights, x.op with
  | f :: rest, _ => some (f, s.setCv c { x with flights := rest })
  | [], .burst t p len done =>
    if (done + 1) * x.n ≤ len then some (x.runFlight t.ch done, s.setCv c { x with op := .burst t p len (done + 1) }) else none
  | [], _ => none

/-- DWELL_PUBLISH (R374, R376): nine clocks after its last sample the next result of the converter's pipeline is published.
`settle` are the codes of the settling samples, `codes` those of the averaging window, `temp` the temperature of channel 11 in
0.1 C. -/
def dwellPublish (ts : Nat) (c : Fin 6) (settle codes : List Nat) (temp : Int) (s : Dev) : Dev × BufWords :=
  let s := (s.advance ts).scanned c
  match s.nextFlight c with
  | some (f, s1) =>
    if (s.live ∨ s.dev = .boot) ∧ s.mainAlive ∧ codes.length = f.n ∧ f.pubAt ≤ s.now then
      let r := s1.tellOne c f (settle.take f.s ++ codes)
      (r.1.publish c f (codes.map (fun w => s.corrected c f.kind.ch w)) temp, r.2)
    else (s, [])
  | none => (s, [])

/-! ### Calibration (R394-R399) -/

/-- R394, R395: request a calibration; the operation in progress and the trigger then pending complete first. -/
def Dev.calRequest (s : Dev) (c : Fin 6) : Dev :=
  let x := s.cv c
  let ops := (match x.op with | .dwell .. | .burst .. | .own _ => 1 | _ => 0) + (if x.arriving.isSome then 1 else 0) +
    (if x.pend.isSome then 1 else 0)
  s.setCv c { x with
    calPend := true
    calWait := ops
    owes := (match x.op with | .dwell .. | .burst .. | .own _ => true | _ => false) }

/-- The converter calibrates or will: R394's MERGED. -/
def Dev.calibrating (s : Dev) (c : Fin 6) : Bool := (s.cv c).op == CvOp.cal || (s.cv c).calPend

/-- CALIBRATION_BEGIN (R395, R396, R409): begins at the end of what it waits for, and abandons a scan dwell. At boot
step 6 nothing is in progress. -/
def calibrationBegin (ts : Nat) (c : Fin 6) (raw : List Nat) (s : Dev) : Dev × BufWords :=
  let s := s.advance ts
  let x := s.cv c
  if x.calPend ∧ x.calWait = 0 ∧ x.wire.isNone ∧ (x.op = CvOp.scan ∨ (x.op = CvOp.idle ∧ s.dev = DevState.boot)) ∧ s.mainAlive ∧
      (s.live ∨ s.dev = DevState.boot) then
    let r := s.cutScan c raw
    let y := r.1.cv c
    ((r.1.setCv c { y with op := .cal, calPend := false, calAt := s.now }).setCap c { r.1.cap c with gap := true }, r.2)
  else (s, [])

/-- R399: a new factor lies within its limit. -/
def factorOk (j v : Nat) : Bool :=
  if j < 4 then decide ((signed 32 v).natAbs ≤ 4096)
  else if j < 8 then decide (996148 ≤ v) && decide (v ≤ 1101004)
  else decide ((signed 32 v).natAbs ≤ 4096)

/-- R399: the first factor outside its limit. -/
def firstBadFactor (fs : List Nat) : Option (Nat × Nat) :=
  ((List.range 16).zip fs).find? (fun p => !factorOk p.1 p.2)

/-- Write the sixteen factors. -/
def Dev.putFactors (s : Dev) (c : Fin 6) (fs : List Nat) : Dev :=
  ((List.range 16).zip fs).foldl (fun (a : Dev) p => a.put (F.CV_CALF c p.1) p.2) s

/-- R398: after a calibration the scan starts at slot 0, and the pending trigger no longer waits for anything. -/
def Dev.calLeave (s : Dev) (c : Fin 6) : Dev :=
  let x := s.cv c
  if s.dev = DevState.boot then s.setCv c { x with op := .idle }
  else
    (s.setCv c { x with op := .scan, must := 0, ownMust := 8 }).beginSlot c 0 s.now

/-- Every converter has finished the calibration of boot step 6. -/
def Dev.allCalibrated (s : Dev) : Bool := (List.finRange 6).all (fun c => !s.calibrating c)

/-- CALIBRATION_END (R398, R399, R402): 1.20 ms after it began. `fs` are the sixteen new factors, `temp` the channel 11
temperature in 0.1 C. At boot step 6 a failed calibration leaves its own factors in place (R548), and the last one to end
takes the boot to step 7. -/
def calibrationEnd (ts : Nat) (c : Fin 6) (fs : List Nat) (temp : Int) (s : Dev) : Dev :=
  let s := s.advance ts
  let x := s.cv c
  if x.op = CvOp.cal ∧ fs.length = 16 ∧ s.elapsed x.calAt 1200000 ∧ s.mainAlive then
    let s1 := match firstBadFactor fs with
      | none =>
        let a := ((((s.putFactors c fs).put (F.CV_CALSTAT_RESULT c) 1).put (F.CV_CALSTAT_TEMP c) (toSigned 12 temp)).mark
          (F.CV_EVENT_CALDONE c)).put (F.CV_STATUS_INVALID c) 0
        a.setCv c { a.cv c with calOkAt := some s.now }
      | some (j, v) =>
        let a := if s.dev = DevState.boot then s.putFactors c fs else s
        ((a.put (F.CV_CALSTAT_RESULT c) 2).mark (F.CV_EVENT_CALFAIL c)).declare 0x0501 c j (BitVec.ofNat 32 v) false
          (some (.conv c))
    let s2 := s1.calLeave c
    if s2.dev = DevState.boot ∧ s2.get F.SYS_STATE_BOOTSTEP = 6 ∧ s2.allCalibrated then s2.put F.SYS_STATE_BOOTSTEP 7 else s2
  else s

/-! ### Ticks -/

/-- R401: the channel of the next background dwell. -/
def Dev.plausChannel (s : Dev) (c : Fin 6) : Nat := 9 + (s.cv c).rotate % (if c.val < 4 then 3 else 4)

/-- PLAUSIBILITY_DWELL (R401): the 10 ms tick of a converter: its next background dwell is requested; it is judged at
its publication. Not in WATCH (R411). -/
def plausibilityDwell (ts : Nat) (c : Fin 6) (s : Dev) : Dev :=
  let s := s.advance ts
  let x := s.cv c
  if s.live ∧ s.mainAlive ∧ s.eff ≠ .watch ∧ s.elapsed x.plausAt 10000000 then
    s.setCv c { x with plausAt := s.now, rotate := x.rotate + 1, own := x.own ++ [.plaus (s.plausChannel c)] }
  else s

/-- SLOW_SCAN_TICK (R410, R411): in WATCH, each 10.000 ms after the close that applied it, all six converters power up,
wait 50 us and run one scan at 62.5 MHz. -/
def slowScanTick (ts : Nat) (s : Dev) : Dev :=
  let s := s.advance ts
  if s.live ∧ s.mainAlive ∧ s.eff = .watch ∧ s.tickAt ≤ s.now then
    (List.finRange 6).foldl (fun (a : Dev) (c : Fin 6) =>
      if (a.cv c).op ≠ .idle then a
      else (a.setCv c { a.cv c with op := .slow, ownMust := 8 }).beginSlot c 0 (s.tickAt + 50000))
      { s with tickAt := s.tickAt + 10000000 }
  else s

/-! ### Statistics intervals (R442, R445) -/

/-- The integer square root, by bits. -/
def isqrt (n : Nat) : Nat :=
  (List.range 48).foldr (fun b r => if (r + 2 ^ b) * (r + 2 ^ b) ≤ n then r + 2 ^ b else r) 0

/-- A sample in units of 2^-30 of 100 uV, rounded (log entry 21). -/
def roundSample (x : Int) : Nat := (max 0 ((2 * x + 2 ^ 30) / 2 ^ 31)).toNat

/-- R443: MEAN := round(mean of the m). -/
def Stat.mean (a : Stat) : Nat :=
  if a.nres = 0 then 0 else (max 0 ((2 * a.sumM + a.nres * 2 ^ 37) / (a.nres * 2 ^ 38 : Nat))).toNat

/-- R443: RMS := round(sqrt(mean of the r2)). -/
def Stat.rms (a : Stat) : Nat :=
  if a.nres = 0 then 0 else (isqrt (4 * a.sumR / (a.nres * 2 ^ 74)) + 1) / 2

/-- One statistics word of a rail. -/
def Dev.putStat (s : Dev) (v : Fld) (rdy : Fld) (valid : Fld) (seq : Fld) (x : Nat) (ok : Bool) : Dev :=
  (((s.put v x).roll seq).mark rdy).putB valid ok

/-- R494, R495: the interval's part in the open health day. -/
def HAcc.addInterval (a : HAcc) (x : Stat) (lo hi mean rms : Nat) (margined : Bool) : HAcc :=
  let b := if a.margIvl || x.nres == 0 then a
    else { a with
      vMin := min a.vMin lo
      vMax := max a.vMax hi
      meanSum := a.meanSum + mean * x.nres
      meanN := a.meanN + x.nres
      ppMax := max a.ppMax (hi - lo)
      rmsMax := max a.rmsMax rms
      nint := a.nint + 1
      clip := a.clip || x.clip }
  { b with droops := b.droops + min 0xFFFF x.droops, margIvl := margined }

/-- R445: write the statistics of one rail, and its part of the open day. -/
def Dev.statWrite (s : Dev) (n : Fin 48) : Dev :=
  let a := s.stats.get n
  let ok := a.nres != 0
  let lo := if ok then roundSample a.lo else 0
  let hi := if ok then roundSample a.hi else 0
  let s1 := s.putStat (F.RAIL_SMIN_V n) (F.RAIL_SMIN_READY n) (F.RAIL_SMIN_VALID n) (F.RAIL_SMIN_SEQ n) lo ok
  let s2 := s1.putStat (F.RAIL_SMAX_V n) (F.RAIL_SMAX_READY n) (F.RAIL_SMAX_VALID n) (F.RAIL_SMAX_SEQ n) hi ok
  let s3 := s2.putStat (F.RAIL_SMEAN_V n) (F.RAIL_SMEAN_READY n) (F.RAIL_SMEAN_VALID n) (F.RAIL_SMEAN_SEQ n) a.mean ok
  let s4 := s3.putStat (F.RAIL_SPP_V n) (F.RAIL_SPP_READY n) (F.RAIL_SPP_VALID n) (F.RAIL_SPP_SEQ n) (hi - lo) ok
  let s5 := s4.putStat (F.RAIL_SRMS_V n) (F.RAIL_SRMS_READY n) (F.RAIL_SRMS_VALID n) (F.RAIL_SRMS_SEQ n) a.rms ok
  let s6 := (s5.put (F.RAIL_SCNT_NRES n) (min 0xFFFFFF a.nres)).roll (F.RAIL_SCNT_SEQ n)
  let s7 := ((s6.put (F.RAIL_SDROOP_DROOPS n) (min 0xFFFF a.droops)).putB (F.RAIL_SDROOP_CLIP n) a.clip).roll
    (F.RAIL_SDROOP_SEQ n)
  let m := s7.margined n
  ({ s7 with stats := s7.stats.set n.val { prev := a.prev } n.isLt }).health n (fun h =>
    h.addInterval a lo hi a.mean a.rms m)

/-- STATS_INTERVAL (R442, R445, R494): an interval boundary: the statistics of all 48 rails are written, and the next
interval begins with the INTERVAL then in force. -/
def statsInterval (ts : Nat) (s : Dev) : Dev :=
  let s := s.advance ts
  if s.live ∧ s.mainAlive ∧ s.elapsed s.statAt (s.statLen * 1000000) then
    let s1 := allRails.foldl (fun (a : Dev) (n : Fin 48) => a.statWrite n) s
    { s1 with statAt := s.statAt + s.statLen * 1000000, statLen := s1.get F.CAP_STATCFG_INTERVAL }
  else s

end Sys2Proof.Machine
end

