-- ==== Sys2Proof/Machine/Charger.lean ====
section
/-! DEFINITION. The hold-up charger (R59-R62): when it runs, and what PWR.STATUS.CHG shows. -/

namespace Sys2Proof.Machine

/-- PWR.STATUS.CHG of 02. -/
def chgOff : Nat := 0
def chgCc : Nat := 1
def chgCv : Nat := 2
def chgDropout : Nat := 3
def chgTimeout : Nat := 4
def chgHoldOv : Nat := 5
def chgHalf : Nat := 6

/-- PWR.CHG.VCV in 100 uV. -/
def Dev.vcv (s : Dev) : Nat := s.get F.PWR_CHG_VCV * 1000

/-- R59: the charger may run. -/
def Dev.chgMay (s : Dev) : Bool :=
  s.dev == .run && s.flag F.PWR_CHG_EN && !s.flag F.PWR_STATUS_VINLOSS && !s.flag F.PWR_STATUS_VIN_HIGH && decide (s.sag < 2)

/-- R59, R60: what a running charger reports on the last readings of VIN and HOLD. -/
def Dev.chgMode (s : Dev) : Nat :=
  if s.get F.PWR_VIN_V < s.vcv + 30000 then chgDropout
  else if s.vcv ≤ s.get F.PWR_HOLDV_V then chgCv
  else if s.sag = 1 then chgHalf
  else chgCc

/-- R59-R61: bring the charger in step with what it depends on; a charger that stopped on TIMEOUT or HOLD_OV stays so.
DESIGN CHOICE (log entry 41): its resumption after a pause (VIN_HIGH cleared, sag level 2 left) is a new start for TMAX. -/
def Dev.chgRun (s : Dev) : Dev :=
  let c := s.get F.PWR_STATUS_CHG
  if c = chgTimeout ∨ c = chgHoldOv then s
  else if !s.chgMay then { (s.put F.PWR_STATUS_CHG chgOff) with pwr := { s.pwr with ovAt := none } }
  else if c = chgOff then { (s.put F.PWR_STATUS_CHG s.chgMode) with pwr := { s.pwr with
    chgAt := s.now
    ovAt := none
    reached := decide (s.vcv ≤ s.get F.PWR_HOLDV_V + 10000) } }
  else s.put F.PWR_STATUS_CHG s.chgMode

/-- R61: a write of PWR.CHG restarts the charger. -/
def Dev.chgRestart (s : Dev) : Dev := (s.put F.PWR_STATUS_CHG chgOff).chgRun

end Sys2Proof.Machine
end

