-- ==== Sys2Proof/Machine/Thermal.lean ====
section
/-! DEFINITION. Thermal zones and throttling (08), the sensors' substitution, the device thermal shutdown (R26), and the
temperature readings of phases (R474, R475). Sensors are numbered as the bits of THERM.SUBST: TS0-TS3, NTC0-NTC3,
TSNS00-TSNS23. -/

namespace Sys2Proof.Machine

/-! ### Sensors -/

/-- THERM.SUBST as one mask. -/
def Dev.substMask (s : Dev) : Nat :=
  s.get F.THERM_SUBST_TS + s.get F.THERM_SUBST_NTC * 16 + s.get F.THERM_SUBST_TSNS * 256

def Dev.substituted (s : Dev) (i : Nat) : Bool := s.substMask.testBit i

/-- The zone of a sensor: 0 die, 1 stages, 2 board. -/
def zoneOf (i : Nat) : Nat := if i < 4 then 0 else if i < 8 then 2 else 1

/-- R330: the warning level of a sensor, 0.1 C. -/
def Dev.warnOf (s : Dev) (i : Nat) : Int :=
  if i < 4 then 1350
  else if i < 8 then s.get F.THERM_BOARD_WARN
  else if h : i - 8 < 24 then
    match s.ctlOf ⟨i - 8, h⟩ with
    | some n => s.get (F.SC_TEMP_WARN n)
    | none => 0
  else 0

/-- The last raw reading of a sensor, 0.1 C. -/
def Dev.reading (s : Dev) (i : Nat) : Int :=
  signed 16 (if i < 8 then s.get (F.THERM_SENSOR_T i) else s.get (F.PH_TMEAS_T (i - 8)))

/-- The sensors of a zone: the die sensors, the phases in a map, the enabled NTCs. -/
def Dev.zoneSensors (s : Dev) (z : Nat) : List Nat :=
  match z with
  | 0 => [0, 1, 2, 3]
  | 1 => ((List.finRange 24).filter (fun p => (s.ctlOf p).isSome)).map (fun p => p.val + 8)
  | _ => [4, 5, 6, 7].filter (fun i => (s.get F.THERM_CFG_NTCEN).testBit (i - 4))

/-- R330, R335: a sensor's margin, 0.1 C; 0 where it is substituted. -/
def Dev.marginOf (s : Dev) (i : Nat) : Int := if s.substituted i then 0 else s.warnOf i - s.reading i

/-- The sensor of least margin in a list. DESIGN CHOICE (log entry 43): of two with the same margin, the lower-numbered. -/
def Dev.hottest (s : Dev) : List Nat → Option Nat
  | [] => none
  | i :: is =>
    match Dev.hottest s is with
    | some j => if s.marginOf i ≤ s.marginOf j then some i else some j
    | none => some i

/-- R325: a zone's thermal resistance, 0.1 C/W. -/
def Dev.theta (s : Dev) (z : Nat) : Nat :=
  match z with
  | 0 => s.get F.THERM_THETA_DIE | 1 => s.get F.THERM_THETA_STAGE | _ => s.get F.THERM_THETA_BOARD

/-- R330: the valid sensors of a zone. -/
def Dev.validSensors (s : Dev) (z : Nat) : List Nat := (s.zoneSensors z).filter (fun i => !s.substituted i)

/-- R325: what one zone's margin leaves, in mW. DESIGN CHOICE (log entry 41): the quotient is cut to whole mW. -/
def Dev.zoneHeadroom (s : Dev) (m : Int × Nat) : Nat := (max 0 m.1).toNat * 1000 / s.theta m.2

/-- R325, R330, R336: HEADROOM in mW, the zone of the least margin, and each zone's hottest valid sensor. A substituted
sensor counts in HEADROOM, with margin 0. DESIGN CHOICE (log entry 43): of two zones with the same least margin, THERM.STATUS.ZONE
shows the lower-numbered. -/
def Dev.headroom (s : Dev) : Dev :=
  let per (z : Nat) : Option (Int × Nat) := (s.hottest (s.zoneSensors z)).map (fun i => (s.marginOf i, z))
  let ms := [0, 1, 2].filterMap per
  let hr := (ms.tail.map s.zoneHeadroom).foldl min ((ms.head?.map s.zoneHeadroom).getD 0)
  let least := ms.foldl (fun (a : Option (Int × Nat)) m =>
    match a with
    | some b => if m.1 < b.1 then some m else a
    | none => some m) none
  { ((s.put F.PURSE_HEAT_HEADROOM (min 65535 hr)).put F.THERM_STATUS_ZONE ((least.map (·.2)).getD 0)) with
    headMw := hr
    thHot := [0, 1, 2].map (fun z => (s.hottest (s.validSensors z)).getD 0) }

/-! ### Levels (R331-R337) -/

/-- R332: the level in force becomes `l`; a change is journalled with the sensor and zone that caused it (R333). At
level 2 a campaign ends at the next close (R489). -/
def Dev.setLevel (s : Dev) (l sensor zone : Nat) : Dev :=
  if s.level = l then s
  else
    let s1 := (s.put F.THERM_STATUS_LEVEL l).journal 0x0603 sensor (BitVec.ofNat 32 l) (BitVec.ofNat 32 zone)
    if 2 ≤ l then { s1 with mgEnd := s1.mgEnd ||| 1 } else s1

/-- The highest floor of a latched substitution (R336). -/
def Dev.floorLevel (s : Dev) : Nat := s.thFloors.foldl (fun a f => max a f.2) 0

/-- R332: the computed level: the highest level tripped in any zone. -/
def Dev.computedLevel (s : Dev) : Nat :=
  (List.range 21).foldl (fun a i => if s.thTrip.getD i false then max a (i % 7 + 1) else a) 0

/-- R332, R336: the computed level and the floor as the trips and the latched substitutions have them. -/
def Dev.showLevels (s : Dev) : Dev :=
  (s.put F.THERM_STATUS_COMPUTED s.computedLevel).put F.THERM_STATUS_FLOOR s.floorLevel

/-- R332, R336: the level in force is the computed level, raised to the floor. -/
def Dev.relevel (s : Dev) (sensor zone : Nat) : Dev :=
  s.showLevels.setLevel (max s.computedLevel s.floorLevel) sensor zone

/-- R331, R333: level k of a zone trips or releases; a change of the computed level takes effect at the next scheduler run,
with the zone and its hottest sensor as the cause. -/
def Dev.trip (s : Dev) (zone : Fin 3) (level : Fin 7) (up : Bool) : Dev :=
  let s1 := { s with thTrip := s.thTrip.set (zone.val * 7 + level.val) up }
  let s2 := if s1.computedLevel = s.computedLevel then s1 else { s1 with thCause := some (s.thHot.getD zone 0, zone.val) }
  s2.showLevels

/-- R333: the scheduler run puts a changed level into force. -/
def Dev.levelTakes (s : Dev) : Dev :=
  match s.thCause with
  | some c => ({ s with thCause := none }).relevel c.1 c.2
  | none => s

/-- Latch or clear a substitution in THERM.SUBST and in the sensor's own register. -/
def Dev.markSubst (s : Dev) (i : Nat) (b : Bool) : Dev :=
  let upd (f : Fld) (j : Nat) : Dev := if b then s.setBit f j else s.clrBit f j
  if i < 4 then (upd F.THERM_SUBST_TS i).putB (F.THERM_SENSOR_SUBST i) b
  else if i < 8 then (upd F.THERM_SUBST_NTC (i - 4)).putB (F.THERM_SENSOR_SUBST i) b
  else (upd F.THERM_SUBST_TSNS (i - 8)).putB (F.PH_TMEAS_SUBST (i - 8)) b

/-- R335: the path of a sensor, as its probe knows it. -/
def sensorPath (i : Nat) : Path :=
  if i < 4 then .dieSensors else if i < 8 then .ntc (Fin.ofNat 4 i) else .tsns (Fin.ofNat 24 (i - 8))

/-- R335, R544: substitute a failed sensor: SUBST is journalled, the level in force rises by one, up to 7, and becomes the floor, and
the sensor's path is probed. -/
def Dev.substitute (s : Dev) (i : Nat) : Dev :=
  if s.substituted i then s
  else
    let fl := min 7 (s.level + 1)
    let s1 := { (s.markSubst i true) with thFloors := s.thFloors ++ [(i, fl)] }
    s1.declareBy 0x0604 i (BitVec.ofInt 32 (s.reading i)) (BitVec.ofNat 32 fl) false
      (fun t => ((t.showLevels).setLevel (max s.level fl) i (zoneOf i)).headroom) (some (sensorPath i))

/-- R337: the owner ends substitutions: those of `m`. -/
def Dev.endSubst (s : Dev) (m : Nat) : Dev :=
  (List.range 32).foldl (fun (a : Dev) i =>
    if m.testBit i && a.substituted i then
      ((({ (a.markSubst i false) with thFloors := a.thFloors.filter (fun f => f.1 != i) }).relevel i (zoneOf i)).headroom)
    else a) s

/-- R331: one reading's effect on a zone's counts: trips count readings above a threshold, releases readings below it
by more than HYST, on the zone's least margin among its valid sensors. DESIGN CHOICE (log entry 41): in a zone without a valid
sensor the counts stand still, and a level that stands tripped stays so. -/
def Dev.countZone (s : Dev) (z : Nat) : Dev :=
  match s.hottest (s.validSensors z) with
  | some i =>
    let m := s.marginOf i
    (List.range 7).foldl (fun (a : Dev) k =>
      let j := z * 7 + k
      let th : Int := ((7 - k) * s.get F.THERM_CFG_LSTEP * 10 : Nat)
      let hy : Int := (s.get F.THERM_CFG_HYST * 10 : Nat)
      { a with
        thUp := a.thUp.set j (if m < th then min 8 (a.thUp.getD j 0 + 1) else 0)
        thDown := a.thDown.set j (if th + hy < m then min 8 (a.thDown.getD j 0 + 1) else 0) }) s
  | none => s

/-- A valid reading's range: -55 to +200 C (R334). -/
def badReading (t : Int) : Bool := decide (t < -550) || decide (2000 < t)

/-- R334, R335: a die sensor's or an enabled NTC's reading, with its path's error flag. -/
def Dev.readSensor (s : Dev) (i : Nat) (t : Int) (err : Bool) : Dev :=
  let bad := badReading t || err
  let s1 := (s.put (F.THERM_SENSOR_T i) (toSigned 16 t)).putB (F.THERM_SENSOR_FAIL i) bad
  if bad then s1.substitute i else s1

/-- R466: a phase's temperature, 0.1 C, from its TSNS in 0.1 mV, rounded to nearest. -/
def Dev.tsnsTemp (s : Dev) (p : Fin 24) (v : Nat) : Int :=
  let g : Int := s.get (F.PH_TCFG_TGAIN p)
  (2 * ((v : Int) - 10 * s.get (F.PH_TCFG_TZERO p)) * 10 + g) / (2 * g)

/-- R334, R474, R475, R494: one millisecond's reading of a mapped phase, its TSNS in 0.1 mV; none while its probe runs
(R478). A reading out of range is a failed sensor at once (R334); TSNS_FAIL counts 8 of them, or of TSNS below 0.10 V. -/
def Dev.readPhase (s : Dev) (n : Fin 8) (p : Fin 24) (v : Nat) : Dev :=
  if s.probing.any (fun q => q.path == .tsns p) then s
  else
    let t := s.tsnsTemp p v
    let x := s.ph p
    let bad := decide (v < 1000) || (decide (v ≤ 25000) && badReading t)
    let tBad := if bad then min 8 (x.tBad + 1) else 0
    let used := if s.substituted (p.val + 8) || badReading t then (s.get (F.SC_TEMP_WARN n) : Int) else t
    let hys : Int := (s.get (F.SC_TEMP_HYS n) * 10 : Nat)
    let w : Int := s.get (F.SC_TEMP_WARN n)
    let sh : Int := s.get (F.SC_TEMP_SHUT n)
    let up (lvl : Int) (c : Nat) : Nat := if lvl < used then min 8 (c + 1) else 0
    let down (lvl : Int) (c : Nat) : Nat := if used < lvl - hys then min 8 (c + 1) else 0
    let y : Ph := { x with
      fltDone := x.fltDone && decide (25000 < v)
      tBad := tBad
      warnUp := up w x.warnUp
      warnDown := down w x.warnDown
      shutUp := up sh x.shutUp
      shutDown := down sh x.shutDown }
    let s1 := (s.setPh p y).put (F.PH_TMEAS_T p) (toSigned 16 t)
    let s2 := if v ≤ 25000 then s1.put (F.PH_TMEAS_FLT p) 0 else if (s.rail ⟨n.val, by omega⟩).code = .unused then s1.mark (F.PH_TMEAS_FLT p) else s1
    let s3 := if tBad < 8 then s2.put (F.PH_TMEAS_FAIL p) 0 else s2
    let s4 := if y.warnDown = 8 then s3.put (F.PH_STATUS_OTW p) 0 else s3
    let s5 := if y.shutDown = 8 then s4.put (F.PH_STATUS_OT p) 0 else s4
    let s6 := if badReading t || s5.flag (F.PH_TMEAS_FAIL p) then s5.substitute (p.val + 8) else s5
    s6.health ⟨n.val, by omega⟩ (fun h => h.heat t)

/-- R26, R330: the vault's comparison of the die sensors with 165 C, at the readings of this instant. -/
def Dev.countShutdown (s : Dev) (die : List Int) : Dev :=
  { s with checks := { s.checks with
      sdT := Vector.ofFn (fun (i : Fin 4) => die.getD i 0)
      readAt := some s.now
      sd := Vector.ofFn (fun (i : Fin 4) => if 1650 < die.getD i 0 then min 8 (s.checks.sd.get i + 1) else 0) } }

/-- R564: whether the valid die readings differ by more than 30.0 C is counted; 9 marks a declared GRADIENT. -/
def Dev.countGradient (s : Dev) : Dev :=
  let ts := ((List.range 4).filter (fun i => !s.substituted i)).map s.reading
  let apart := decide (300 < ts.foldl max (ts.headD 0) - ts.foldl min (ts.headD 0))
  { s with checks := { s.checks with grad := if apart then (if s.checks.grad < 8 then s.checks.grad + 1 else s.checks.grad) else 0 } }

/-- THERMAL_READING (R330, R26, R474): the millisecond's readings, once in each millisecond: the die sensors and the NTCs in
0.1 C with their paths' error flags, every TSNS in 0.1 mV. -/
def thermalReading (ts : Nat) (die ntc : List (Int × Bool)) (tsns : List Nat) (s : Dev) : Dev :=
  let s := s.advance ts
  if !s.newPeriod s.checks.readAt 1000000 then s
  else if s.dev = .boot ∨ s.dev = .bootFail then s.countShutdown (die.map (·.1))
  else if s.live then
    let s1 := (List.range 4).foldl (fun (a : Dev) i => a.readSensor i (die.getD i (0, true)).1 (die.getD i (0, true)).2)
      (s.countShutdown (die.map (·.1)))
    let s2 := (List.range 4).foldl (fun (a : Dev) i =>
      if (a.get F.THERM_CFG_NTCEN).testBit i then a.readSensor (4 + i) (ntc.getD i (0, true)).1 (ntc.getD i (0, true)).2
      else a) s1
    let s3 := (List.finRange 24).foldl (fun (a : Dev) (p : Fin 24) =>
      match a.ctlOf p with
      | some n => a.readPhase n p (tsns.getD p 0)
      | none => a) s2
    (((s3.countGradient.countZone 0).countZone 1).countZone 2).headroom
  else s

/-- THROTTLE_TRIP (R331, R333): eight consecutive readings of the zone above the level's threshold. -/
def throttleTrip (ts : Nat) (zone : Fin 3) (level : Fin 7) (s : Dev) : Dev :=
  let s := s.advance ts
  let j := zone.val * 7 + level.val
  if s.live ∧ s.thUp.getD j 0 = 8 ∧ ¬ s.thTrip.getD j false then
    s.trip zone level true
  else s

/-- THROTTLE_RELEASE (R331, R333): eight consecutive readings of the zone below the threshold minus HYST. -/
def throttleRelease (ts : Nat) (zone : Fin 3) (level : Fin 7) (s : Dev) : Dev :=
  let s := s.advance ts
  let j := zone.val * 7 + level.val
  if s.live ∧ s.thDown.getD j 0 = 8 ∧ s.thTrip.getD j false then
    s.trip zone level false
  else s

/-- GRADIENT (R564): valid die readings have differed by more than 30.0 C for 8 consecutive readings. -/
def gradient (ts : Nat) (s : Dev) : Dev :=
  let s := s.advance ts
  if s.live ∧ s.checks.grad = 8 then
    let valid := (List.range 4).filter (fun i => !s.substituted i)
    let hot := (s.hottest valid).getD 0
    let cool := valid.foldl (fun a i => min a (s.reading i)) (s.reading hot)
    let s1 := { s with checks := { s.checks with grad := 9 } }
    (s1.mark F.SAFE_EVENT_GRADIENT).declare 0x0A15 hot (BitVec.ofInt 32 (s.reading hot)) (BitVec.ofInt 32 cool) false
      (some .dieSensors)
  else s

end Sys2Proof.Machine
end

