-- ==== Sys2Proof/Machine/Stage.lean ====
section
/-! DEFINITION. Stage controllers (12): the feedback and phase monitors, on-times, soft start and soft stop, the
protections of R469 and the exclusion of phases. -/

namespace Sys2Proof.Machine

/-! ### Monitors (R452, R466) -/

/-- FBMON_SAMPLE (R452): FBPn/FBNn in 100 uV; FBMON takes K times it. -/
def fbmonSample (ts : Nat) (n : Fin 8) (fb : Nat) (s : Dev) : Dev :=
  let s := s.advance ts
  if s.live ∧ s.mainAlive then
    let v := fb * s.get (F.SC_CFG_DIVK n)
    let top := 2 ^ 20 - 1
    let w := measWord (min top v) (nextSeq (s.get (F.SC_FBMON_WORD n))) (decide (top < v)) true true
    (s.put (F.SC_FBMON_WORD n) w.toNat).shortSync n
  else s

/-- R466: a phase's current in mA, from its 12-bit code over 0-2.4 V, rounded to nearest. -/
def Dev.phaseCurrent (s : Dev) (p : Fin 24) (code : Nat) : Int :=
  let den : Int := (4096 * s.get (F.PH_ICFG_GAIN p) * s.get (F.PH_ICFG_RIS p) : Nat)
  (2 * ((code * 2400 : Nat) - (s.get (F.PH_ICFG_IZERO p) * 4096 : Nat) : Int) * 100000 + den) / (2 * den)

/-- A current as a measurement word with [19:0] signed. -/
def currentWord (i : Int) (seq : Nat) : Word :=
  let v := toSigned 20 i
  measWord v seq (signed 20 v != i) true true

/-- R466, R470: one sample of a mapped phase. The samples kept are those since the oldest of its controller's phases'
last 1,000 on-times began. -/
def Dev.samplePhase (s : Dev) (p : Fin 24) (code : Nat) : Dev :=
  let x := s.ph p
  let i := s.phaseCurrent p code
  let bad := decide (code * 2400 < 50 * 4096) || decide (2350 * 4096 < code * 2400)
  (s.setPh p { x with
    sum := x.sum + i
    cnt := x.cnt + 1
    badN := if bad then min 10 (x.badN + 1) else 0
    hist := (s.now, code) :: x.hist }).put (F.PH_IMEAS_WORD p)
      (currentWord i (nextSeq (s.get (F.PH_IMEAS_WORD p)))).toNat

/-- The instant of the 1,000th last on-time of a phase; 0 before there are so many. -/
def Ph.window (x : Ph) : Nat := if x.cycles.length = 1000 then x.cycles.getLastD 0 else 0

/-- Forget the samples before every window of the controller's phases. -/
def Dev.trimHist (s : Dev) (n : Fin 8) : Dev :=
  let t0 := (s.phasesOf n).foldl (fun a p => min a (s.ph p).window) s.now
  (s.phasesOf n).foldl (fun (a : Dev) (p : Fin 24) =>
    a.setPh p { a.ph p with hist := (a.ph p).hist.filter (fun e => decide (t0 ≤ e.1)) }) s

/-- The report of a phase, mA. -/
def Dev.report (s : Dev) (p : Fin 24) : Int := signed 20 (s.get (F.PH_IMEAS_WORD p) % 2 ^ 20)

/-- R470: the PHASE_OPEN condition of a phase. -/
def Dev.openCond (s : Dev) (n : Fin 8) (p : Fin 24) : Bool :=
  let act := s.activePhases n
  let sum := (s.sc n).itot
  decide (2 ≤ s.get (F.SC_MAP_COUNT n)) && act.contains p && decide (s.report p * 10 * (act.length : Nat) < sum) &&
    decide ((3 * 1000 * s.get (F.SC_LIM_IRATED n) : Nat) < sum * 10)

/-- R466, R470: after the samples of a microsecond: ITOT, the total limit and the PHASE_OPEN conditions. -/
def Dev.sumPhases (s : Dev) (n : Fin 8) : Dev :=
  let act := s.activePhases n
  let sum := act.foldl (fun (a : Int) p => a + s.report p) 0
  let s1 := (s.setSc n { s.sc n with itot := sum }).put (F.SC_ITOT_WORD n)
    (currentWord sum (nextSeq (s.get (F.SC_ITOT_WORD n)))).toNat
  let s2 := (s1.phasesOf n).foldl (fun (a : Dev) (p : Fin 24) =>
    let x := a.ph p
    a.setPh p { x with openAt := if a.openCond n p then some (x.openAt.getD a.now) else none }) s1
  let s3 := if s2.overTotal n then (if (s2.sc n).want then s2.totalHold n true else s2) else s2.totalHold n false
  (s3.shortSync n).trimHist n

/-- R476: a phase's mean deviates by more than IMBTHR per cent of IRATED / COUNT. -/
def Dev.deviates (s : Dev) (n : Fin 8) : Bool :=
  let act := s.activePhases n
  let m : Int := act.length
  let avg (p : Fin 24) : Int := signed 20 (s.get (F.PH_IAVG_WORD p) % 2 ^ 20)
  let sum := act.foldl (fun (a : Int) p => a + avg p) 0
  act.any (fun p => decide (s.get (F.SC_PLIM_IMBTHR n) * s.get (F.SC_LIM_IRATED n) * 1000 * act.length <
    (m * avg p - sum).natAbs * 100 * s.get (F.SC_MAP_COUNT n)))

/-- R466, R476: at the end of a millisecond, the means of a controller's phases and its imbalance count. -/
def Dev.meanPhases (s : Dev) (n : Fin 8) : Dev :=
  if (s.phasesOf n).any (fun p => decide (1000 ≤ (s.ph p).cnt)) then
    let s1 := (s.phasesOf n).foldl (fun (a : Dev) (p : Fin 24) =>
      let x := a.ph p
      let c : Int := x.cnt
      let m := if x.cnt = 0 then 0 else (2 * x.sum + c) / (2 * c)
      (a.setPh p { x with sum := 0, cnt := 0 }).put (F.PH_IAVG_WORD p)
        (currentWord m (nextSeq (a.get (F.PH_IAVG_WORD p)))).toNat) s
    let x := s1.sc n
    s1.setSc n { x with imb := if s1.deviates n then min 8 (x.imb + 1) else 0 }
  else s

/-- PHASE_MONITOR_SAMPLE (R466): the microsecond's ISNS codes of PH00-PH23; unmapped phases are ignored (R449). -/
def phaseMonitorSample (ts : Nat) (codes : List Nat) (s : Dev) : Dev :=
  let s := s.advance ts
  if s.live ∧ s.mainAlive then
    let s1 := (List.finRange 24).foldl (fun (a : Dev) (p : Fin 24) =>
      if (a.ctlOf p).isSome then a.samplePhase p (min 4095 (codes.getD p 0)) else a) s
    (List.finRange 8).foldl (fun (a : Dev) (n : Fin 8) =>
      if a.get (F.SC_MAP_COUNT n) = 0 then a else (a.sumPhases n).meanPhases n) s1
  else s

/-! ### On-times (R455-R460, R467, R479) -/

/-- R455, R461, R479: the controller may start on-times. -/
def Dev.mayFire (s : Dev) (n : Fin 8) : Bool :=
  s.switching n && s.live && s.mainAlive && !s.flag F.SAFE_STATUS_CLKFAIL && !s.ovHold n && !s.pwr.vsupLow

/-- R450, R459: the phases of a controller in rotation order from its place on. -/
def Dev.rotation (s : Dev) (n : Fin 8) : List (Fin 24) :=
  let ps := s.phasesOf n
  ps.rotateLeft (s.sc n).next

/-- R459: a phase outside its on-time and its minimum off-time of 150 ns, and not excluded. -/
def Dev.phaseReady (s : Dev) (p : Fin 24) : Bool :=
  let x := s.ph p
  !s.flag (F.PH_STATUS_EXCL p) && x.onAt.isNone && s.elapsed x.offAt 150

/-- R455: V_RAMP at this instant, in uV at the feedback node: +RAMP / 2 at the start of an on-time, then falling at RAMP x COUNT x
FSW to -RAMP / 2, where it stands before the first on-time too (log entry 40). -/
def Dev.ramp (s : Dev) (n : Fin 8) : Int :=
  let r := s.get (F.SC_MOD_RAMP n)
  match (s.sc n).rampAt with
  | some t =>
    let fall := r * s.get (F.SC_MAP_COUNT n) * s.get (F.SC_MOD_FSW n) * (s.now - t) / 100
    max (-(r * 500 : Nat)) ((r * 500 : Nat) - (fall : Int))
  | none => -(r * 500 : Nat)

/-- R455: V_FB of `fb` uV lies below V_REF + V_RAMP; both sides times K. -/
def Dev.fbLow (s : Dev) (n : Fin 8) (fb : Nat) : Bool :=
  let k : Int := s.get (F.SC_CFG_DIVK n)
  decide ((fb : Int) * k < s.scRef n + s.ramp n * k)

/-- R456, R459: start an on-time on a phase. -/
def Dev.fire (s : Dev) (n : Fin 8) (p : Fin 24) : Dev :=
  let s1 := s.recalcTon n
  let x := s1.ph p
  let s2 := s1.setPh p { x with
    onAt := some s1.now
    onLen := s1.get (F.SC_TON_TON n)
    mid := false
    cycles := (s1.now :: x.cycles).take 1000 }
  let s3 := if (s2.sc n).rampAt.isNone ∧
      ((s2.scOp n = scRegulating ∧ ¬ s2.flag (F.SC_CFG_DEM n)) ∨ s2.scOp n = scStop) then
      (s2.setSc n { s2.sc n with rampAt := some s2.now }).lowAgain n
    else s2
  s3.setSc n { s3.sc n with rampAt := some s3.now, want := false, next := (p.val + 1 - s3.get (F.SC_MAP_FIRST n)) % s3.get (F.SC_MAP_COUNT n) }

/-- ON_TIME_REQUEST (R455, R459, R467): the feedback node stands at `fb` uV, and `amps` are the phases' currents in mA: below the
reference plus ramp an on-time is requested, or a waiting request is tried again. -/
def onTimeRequest (ts : Nat) (n : Fin 8) (fb : Nat) (amps : List Int) (s : Dev) : Dev :=
  let s := s.advance ts
  if s.mayFire n ∧ (s.phasesOf n) ≠ [] ∧ ((s.sc n).want ∨ s.fbLow n fb) then
    let s0 := s.setSc n { s.sc n with want := true }
    if s0.overTotal n then (s0.totalHold n true).shortSync n
    else
      let s1 := s0.totalHold n false
      let ready : List (Fin 24) := (s1.rotation n).filter s1.phaseReady
      let blocked (p : Fin 24) : Bool := s1.overValley n (amps.getD p.val 0)
      let s2 := (ready.takeWhile blocked).foldl (fun (a : Dev) (p : Fin 24) => a.limitEvent n p) s1
      match ready.find? (fun (p : Fin 24) => !blocked p) with
      | some p => (s2.fire n p).shortSync n
      | none => s2.shortSync n
  else s

/-- ON_TIME_END (R456, R467): the phase's current is `amp` mA: above the peak limit the on-time ends at once, else when it has
run. -/
def onTimeEnd (ts : Nat) (p : Fin 24) (amp : Int) (s : Dev) : Dev :=
  let s := s.advance ts
  let x := s.ph p
  match x.onAt, s.ctlOf p with
  | some t, some n =>
    if s.overPeak n amp then ((s.setPh p { x with onAt := none, offAt := s.now }).limitEvent n p).shortSync n
    else if s.elapsed t x.onLen then s.setPh p { x with onAt := none, offAt := s.now }
    else s
  | _, _ => s

/-- DEM_ZERO_CURRENT (R460, R465): a phase's report crosses 0 A in an off-time, or -IDIS or 0 A in the discharge
state. -/
def demZeroCurrent (ts : Nat) (p : Fin 24) (s : Dev) : Dev :=
  let s := s.advance ts
  let x := s.ph p
  let i := s.report p
  match s.ctlOf p with
  | some n =>
    let op := s.scOp n
    let dem := op == scStart || (op == scRegulating && s.flag (F.SC_CFG_DEM n))
    let drive := s.scDrive n
    if s.flag (F.PH_STATUS_EXCL p) ∨ x.onAt.isSome then s
    else if drive = 3 ∧ x.dmid ∧ 0 ≤ i then s.setPh p { x with dmid := false }
    else if drive = 3 ∧ ¬ x.dmid ∧ i ≤ -(s.get (F.SC_LIM_IDIS n) * 1000 : Nat) then s.setPh p { x with dmid := true }
    else if drive = 2 ∧ dem ∧ i ≤ 0 then s.setPh p { x with mid := true }
    else s
  | none => s

/-! ### Soft start and soft stop (R463, R464) -/

/-- RAMP_COMPLETE (R463, R145): the reference has reached its target; RISE_TIMEOUT counts from here. -/
def rampComplete (ts : Nat) (n : Fin 8) (s : Dev) : Dev :=
  let s := s.advance ts
  if s.live ∧ s.mainAlive ∧ s.scOp n = scStart ∧ s.scRef n = s.scTarget n then
    let r : Fin 48 := ⟨n.val, by omega⟩
    let s1 := s.setOp n scRegulating
    (s1.setRail r { s1.rail r with riseAt := s.now }).setSc n { s1.sc n with rampEnd := s.now, shortAt := none }
  else s

/-- SOFT_STOP_END (R464): the reference has reached 0; every phase goes to mid-level. -/
def softStopEnd (ts : Nat) (n : Fin 8) (s : Dev) : Dev :=
  let s := s.advance ts
  if s.scOp n = scStop ∧ s.scRef n = 0 then s.setOp n scIdle else s

/-! ### Protections (R469-R477) -/

/-- The rail of a controller. -/
def ctlRail (n : Fin 8) : Fin 48 := ⟨n.val, by omega⟩

/-- R469: declare a controller error: its event bits, record and probe. -/
def Dev.ctlDeclare (s : Dev) (n : Fin 8) (typ : Nat) (p : Option (Fin 24)) (dang : Bool) (path : Option Path)
    (ev : Fld) (phEv : Option Fld) : Dev :=
  let s1 := match phEv with
    | some f => s.mark f
    | none => s
  (s1.mark ev).declare typ n (BitVec.ofNat 32 ((p.map (·.val)).getD 0xFF)) (BitVec.ofNat 32 (s1.get (F.SC_ITOT_WORD n)))
    dang path

/-- R469, R147, R130: a protection that holds the controller: every phase to mid-level, the rail fault with its output off,
dangerous where FREACT says so; on an UNUSED rail nothing is declared. The table does not hold it back (R356). -/
def Dev.protect (s : Dev) (n : Fin 8) (typ fcode : Nat) (p : Option (Fin 24)) (dang : Bool) (path : Path) (ev : Fld)
    (phEv : Option Fld) : Dev :=
  let r := ctlRail n
  if (s.rail r).code = .unused then s
  else
    s.watchGood r (fun s =>
      let s1 := (s.holdCtl n).health r (fun a => { a with faults := a.faults + 1 })
      (s1.ctlDeclare n typ p dang (some path) ev phEv).enterFaulted r fcode .off)

/-- SHORT_SS (R469, R147, R722): the short condition and current limit have held for 50 us during the ramp. -/
def shortSs (ts : Nat) (n : Fin 8) (s : Dev) : Dev :=
  let s := s.advance ts
  match (s.sc n).shortAt with
  | some t =>
    if s.live ∧ s.mainAlive ∧ s.shortNow n ∧ s.elapsed (max t (s.sc n).limAt) 50000 then
      let mark (d : Dev) : Dev := if (d.rail (ctlRail n)).code = .unused then d else d.mark (F.RAIL_EVENT_SHORT_SS n)
      (mark s).protect n 0x0401 7 none (s.flag (F.SC_FREACT_SHORT_SS n)) (.sc n) (F.SC_EVENT_SHORT_SS n) none
    else s
  | none => s

/-- OC (R469): current limit has held for OCT (10 us per LSB) after the ramp. -/
def oc (ts : Nat) (n : Fin 8) (s : Dev) : Dev :=
  let s := s.advance ts
  let x := s.sc n
  if s.live ∧ s.mainAlive ∧ s.scOp n = scRegulating ∧ s.inLimit n ∧
      s.elapsed (max x.limAt x.rampEnd) (s.get (F.SC_LIM_OCT n) * 10000) then
    s.protect n 0x0402 8 none (s.flag (F.SC_FREACT_OC n)) (.sc n) (F.SC_EVENT_OC n) none
  else s

/-- STAGE_FLT (R469, R480): a mapped phase's TSNS lies above 2.50 V for 2 us; declared once until a reading lies below, or the rail is
started again. On an UNUSED rail FLT alone shows it (R130), and the fault is declared once the rail is in use. -/
def stageFlt (ts : Nat) (p : Fin 24) (s : Dev) : Dev :=
  let s := s.advance ts
  match s.ctlOf p with
  | some n =>
    if ¬ (s.live ∧ s.mainAlive) ∨ (s.ph p).fltDone then s
    else if (s.rail (ctlRail n)).code = .unused then s.mark (F.PH_TMEAS_FLT p)
    else
      ((s.setPh p { s.ph p with fltDone := true }).mark (F.PH_TMEAS_FLT p)).protect n 0x0403 8 (some p) (s.flag (F.SC_FREACT_STAGE_FLT n)) (.tsns p)
        (F.SC_EVENT_STAGE_FLT n) (some (F.PH_EVENT_STAGE_FLT p))
  | none => s

/-- STAGE_OT (R474, R469): eight readings above SHUT. -/
def stageOt (ts : Nat) (p : Fin 24) (s : Dev) : Dev :=
  let s := s.advance ts
  match s.ctlOf p with
  | some n =>
    if s.live ∧ s.mainAlive ∧ (s.ph p).shutUp = 8 ∧ ¬ s.flag (F.PH_STATUS_OT p) then
      (s.mark (F.PH_STATUS_OT p)).protect n 0x0404 8 (some p) (s.flag (F.SC_FREACT_STAGE_OT n)) (.tsns p)
        (F.SC_EVENT_STAGE_OT n) (some (F.PH_EVENT_STAGE_OT p))
    else s
  | none => s

/-- STAGE_OTW (R474, R469): eight readings above WARN. -/
def stageOtw (ts : Nat) (p : Fin 24) (s : Dev) : Dev :=
  let s := s.advance ts
  match s.ctlOf p with
  | some n =>
    if s.live ∧ s.mainAlive ∧ (s.ph p).warnUp = 8 ∧ ¬ s.flag (F.PH_STATUS_OTW p) then
      (s.mark (F.PH_STATUS_OTW p)).ctlDeclare n 0x0405 (some p) false (some (.tsns p)) (F.SC_EVENT_STAGE_OTW n)
        (some (F.PH_EVENT_STAGE_OTW p))
    else s
  | none => s

/-- R471: exclude a phase. -/
def Dev.exclude (s : Dev) (p : Fin 24) : Dev :=
  let x := s.ph p
  (s.setPh p { x with onAt := none, offAt := s.now, mid := true, openAt := none }).mark (F.PH_STATUS_EXCL p)

/-- R471, R472: PHASE_OPEN or ISNS_FAIL on a phase: it is excluded; the event is dangerous, with the rail FAULTED and its
output left to the vault, where N-1 operation is not allowed, the controller has one phase, or a phase is excluded
already; else N-1 operation begins. On an UNUSED rail nothing is declared (R130). -/
def Dev.loseP (s : Dev) (n : Fin 8) (p : Fin 24) (typ : Nat) (ev phEv : Fld) : Dev :=
  let dang := !s.flag (F.SC_MAP_N1_ALLOWED n) || s.get (F.SC_MAP_COUNT n) == 1 ||
    (s.phasesOf n).any (fun q => s.flag (F.PH_STATUS_EXCL q))
  let r := ctlRail n
  let s0 := s.exclude p
  if (s.rail r).code = .unused then s
  else if dang then
    s0.watchGood r (fun s =>
      let s1 := s.health r (fun a => { a with faults := a.faults + 1 })
      (s1.ctlDeclare n typ (some p) true (some (.isns p)) ev (some phEv)).enterFaulted r 8 .dangerous)
  else
    let s1 := s0.ctlDeclare n typ (some p) false (some (.isns p)) ev (some phEv)
    (s1.mark (F.SC_STATUS_N1 n)).ctlDeclare n 0x040A (some p) false none (F.SC_EVENT_N1 n) none

/-- PHASE_OPEN (R470): the condition has held for 100 us. -/
def phaseOpen (ts : Nat) (p : Fin 24) (s : Dev) : Dev :=
  let s := s.advance ts
  match s.ctlOf p, (s.ph p).openAt with
  | some n, some t =>
    if s.live ∧ s.mainAlive ∧ ¬ s.flag (F.PH_STATUS_EXCL p) ∧ s.elapsed t 100000 then
      s.loseP n p 0x0406 (F.SC_EVENT_PHASE_OPEN n) (F.PH_EVENT_OPEN p)
    else s
  | _, _ => s

/-- The samples of a phase since an instant. -/
def Ph.since (x : Ph) (t : Nat) : List Nat := (x.hist.filter (fun e => decide (t ≤ e.1))).map (·.2)

/-- The spread of a list of codes. -/
def spread (cs : List Nat) : Nat := cs.foldl max 0 - cs.foldl min (cs.headD 0)

/-- R470: over the phase's last 1,000 switching cycles its samples lie within 1 code of each other while those of
another active phase of the controller spread over more than 16. -/
def Dev.isnsStuck (s : Dev) (n : Fin 8) (p : Fin 24) : Bool :=
  let x := s.ph p
  let t := x.window
  decide (2 ≤ s.get (F.SC_MAP_COUNT n)) && decide (x.cycles.length = 1000) && decide (spread (x.since t) ≤ 1) &&
    (s.activePhases n).any (fun q => q != p && decide (16 < spread ((s.ph q).since t)))

/-- ISNS_FAIL (R470): out of range for 10 samples, or stuck. -/
def isnsFail (ts : Nat) (p : Fin 24) (s : Dev) : Dev :=
  let s := s.advance ts
  match s.ctlOf p with
  | some n =>
    if s.live ∧ s.mainAlive ∧ ¬ s.flag (F.PH_STATUS_EXCL p) ∧ ((s.ph p).badN = 10 ∨ s.isnsStuck n p) then
      s.loseP n p 0x0407 (F.SC_EVENT_ISNS_FAIL n) (F.PH_EVENT_ISNS_FAIL p)
    else s
  | none => s

/-- TSNS_FAIL (R475, R335): eight failed readings; the reading is substituted. -/
def tsnsFail (ts : Nat) (p : Fin 24) (s : Dev) : Dev :=
  let s := s.advance ts
  match s.ctlOf p with
  | some n =>
    if s.live ∧ s.mainAlive ∧ (s.ph p).tBad = 8 ∧ ¬ s.flag (F.PH_TMEAS_FAIL p) then
      ((s.mark (F.PH_TMEAS_FAIL p)).ctlDeclare n 0x0408 (some p) false (some (.tsns p)) (F.SC_EVENT_TSNS_FAIL n)
        (some (F.PH_EVENT_TSNS_FAIL p))).substitute (p.val + 8)
    else s
  | none => s

/-- IMBAL (R476): eight consecutive milliseconds of deviation, at most once per second per controller. -/
def imbal (ts : Nat) (n : Fin 8) (s : Dev) : Dev :=
  let s := s.advance ts
  let x := s.sc n
  if s.live ∧ s.mainAlive ∧ x.imb = 8 ∧ x.imbAt.all (fun t => s.elapsed t 1000000000) then
    (s.setSc n { x with imb := 0, imbAt := some s.now }).ctlDeclare n 0x0409 none false none (F.SC_EVENT_IMBAL n) none
  else s

end Sys2Proof.Machine
end

