-- ==== Sys2Proof/Machine/Ledger.lean ====
section
/-! DEFINITION. The ledger (14): the array and what the factory left in it, the BOOTNO copies, the first-fault folio,
the journal, the scrub, and the open health day; with the commands of these subjects. -/

namespace Sys2Proof.Machine

/-! ### The array (R500, R501, R505) -/

def ledgerSize : Nat := 0x4000000
def folioBase : Nat := 0
def calBase : Nat := 0x200000
def identBase : Nat := 0x208000
def bootnoBase : Nat := 0x208100
def journalBase : Nat := 0x210000
def healthBase : Nat := 0x1A10000
def archBase : Nat := 0x2610000
def notebookBase : Nat := 0x3E10000
def journalSlots : Nat := 786432
def archSize : Nat := 25165824

/-- One factory structure: the bytes from an address on. -/
structure Factory where
  base  : Nat
  bytes : List Byte
deriving DecidableEq, Repr

/-- What stands in the array when the device leaves the factory and is not 0: the head and CRC of the calibration set
(R658), the identity record (R670) and both BOOTNO copies holding 0 (R721). Trims and traceability numbers are the
factory's own and are taken as 0 (log entry 10). -/
def factoryList : List Factory := [
  ⟨calBase, leBytes 4 0x534C4143 ++ leBytes 2 1 ++ leBytes 2 0x4824 ++ leBytes 1 0x11⟩,
  ⟨calBase + 0x7FF0, leBytes 4 0x46A592EB⟩,
  ⟨identBase, leBytes 4 0x44494C4D ++ leBytes 2 1 ++ leBytes 2 0x4824 ++ leBytes 1 0x11⟩,
  ⟨identBase + 0x1C, leBytes 4 0x46A592EB⟩,
  ⟨identBase + 0xFC, leBytes 4 0x24F05FF1⟩,
  ⟨bootnoBase, leBytes 4 0 ++ leBytes 4 0xFFFFFFFF ++ leBytes 4 0xBB99FF8A⟩,
  ⟨bootnoBase + 16, leBytes 4 0 ++ leBytes 4 0xFFFFFFFF ++ leBytes 4 0xBB99FF8A⟩]

/-- What an address of the ledger reads as when nothing has been written there. -/
def factoryByte (a : Nat) : Byte :=
  match factoryList.find? (fun f => decide (f.base ≤ a) && decide (a < f.base + f.bytes.length)) with
  | some f => f.bytes.getD (a - f.base) 0
  | none => 0

/-- R501, R503: the checkpoint, fill and accumulator copies, whose layout is not part of the interface: address and size. -/
def copyArea (i : Fin 6) : Nat × Nat :=
  if i.val < 2 then (0x208200 + 32 * i.val, 32) else if i.val < 4 then (0x208300 + 16 * (i.val - 2), 16)
  else (0x209000 + 4096 * (i.val - 4), 4096)

/-- The opaque copy that an address lies in. -/
def opaqueCopy (a : Nat) : Option (Fin 6) :=
  (List.finRange 6).find? (fun i => decide ((copyArea i).1 ≤ a) && decide (a < (copyArea i).1 + (copyArea i).2))

/-- One byte of the array. The bytes of the opaque copies are free values, the same until the copy is written again (log
entry 9). -/
def State.ledgerByte (s : State) (a : Nat) : Byte :=
  match opaqueCopy a with
  | some i => Config.freeByte (s.core.copyVer.get i) a
  | none => sget factoryByte s.ledger a

def State.ledgerBytes (s : State) (a n : Nat) : List Byte := (List.range n).map (fun i => s.ledgerByte (a + i))

/-- A little-endian number in the array (R6). -/
def State.ledgerNat (s : State) (a n : Nat) : Nat := leNat (s.ledgerBytes a n)

/-- R505: a word written whole loses an uncorrectable error. -/
def Dev.healed (s : Dev) (a n : Nat) : Dev :=
  { s with ledgBad := s.ledgBad.filter (fun w => !(decide (a ≤ w) && decide (w + 8 ≤ a + n))) }

/-- R505: the 64-bit words of the array that `n` bytes from `a` touch. -/
def arrayWords (a n : Nat) : List Nat := (List.range ((a + n + 7) / 8 - a / 8)).map (fun i => (a / 8 + i) * 8)

/-- An address in the calibration set. -/
def inCalSet (a : Nat) : Bool := decide (calBase ≤ a) && decide (a < calBase + 0x8000)

/-- R667: the bytes that a host's word leaves in the array: ORIGIN stays as the device wrote it. -/
def hostBytes (a : Nat) (v : Word) : List Byte :=
  if a = calBase + 8 then leBytes 1 v.toNat ++ [1] ++ leBytes 2 (v.toNat / 65536) else leBytes 4 v.toNat

/-- R667: what is written before the first word of an open set: ORIGIN and UNLOCKBOOT. -/
def Dev.originBlocks (s : Dev) (a n : Nat) : List (Nat × List Byte) :=
  if (List.range n).any (fun i => inCalSet (a + 4 * i)) && !s.calDirty then
    [(calBase + 9, [1]), (calBase + 0x0C, leBytes 4 s.bootno.toNat)]
  else []

/-- The bytes of a host's words. -/
def hostBlock (a : Nat) (vs : List Word) : Nat × List Byte :=
  (a, (((List.range vs.length).map (fun i => a + 4 * i)).zip vs |>.map (fun (p : Nat × Word) => hostBytes p.1 p.2)).flatten)

/-- R506: the device begins a write of `n` bytes at `a`, behind those still in progress; what is over by now is no longer kept. -/
def Dev.begins (s : Dev) (a n : Nat) (old : List Byte) (held : Nat × Nat) : Dev :=
  let going := s.recent.filter (fun r => decide (s.now < r.doneAt) || r.stopped.isSome)
  let r : Recent := {
    since := going.foldl (fun (t : Nat) g => max t g.doneAt) s.now
    addr := a
    len := n
    old := old
    bad := s.ledgBad.filter (fun w => decide (a < w + 8) && decide (w < a + n))
    held := held
    stopped := if s.v18ok then none else some 0 }
  { s with recent := going ++ [r] }

/-- R505: bytes stand in the array, their words whole. -/
def State.ledgerPut (s : State) (a : Nat) (bs : List Byte) : State :=
  { s with ledger := ssetRun factoryByte s.ledger a bs, core := s.core.healed a bs.length }

/-- Blocks of bytes stand in the array. -/
def State.putBlocks (s : State) (bs : List (Nat × List Byte)) : State := bs.foldl (fun (t : State) b => t.ledgerPut b.1 b.2) s

/-- R505, R506: the device writes bytes. -/
def State.ledgerWrite (s : State) (a : Nat) (bs : List Byte) : State :=
  (s.lift (fun c => c.begins a bs.length (s.ledgerBytes a bs.length) (0, 0))).ledgerPut a bs

/-- R501: an opaque copy stands written. -/
def Dev.copyPut (s : Dev) (i : Fin 6) : Dev :=
  { s.healed (copyArea i).1 (copyArea i).2 with copyVer := s.copyVer.set i.val (s.copyVer.get i + 1) i.isLt }

/-- R501, R506: the device writes an opaque copy. -/
def Dev.copyWritten (s : Dev) (i : Fin 6) : Dev :=
  (s.begins (copyArea i).1 (copyArea i).2 [] (if i.val < 2 then s.jck else s.afill)).copyPut i

/-- No word of a range reads as uncorrectable (R507). -/
def Dev.readable (s : Dev) (a n : Nat) : Bool := !s.ledgBad.any (fun w => decide (a < w + 8) && decide (w < a + n))

/-- The ledger takes words: supply within its window (R697) and the device powered with its main region up. -/
def Dev.ledgerOn (s : Dev) : Bool :=
  s.v18ok && !s.vault.mainHeld && (s.dev == .boot || s.dev == .bootFail || s.dev == .run || s.dev == .holdUp)

/-! ### BOOTNO (R88, R502, R503) -/

/-- R88: the BOOTNO after `v`. -/
def nextBootno (v : Nat) : Nat := if v = 0xFFFFFFFF then 1 else v + 1

/-- R502: copy `c` is valid. -/
def State.copyValid (s : State) (c : Nat) : Bool :=
  let a := bootnoBase + 16 * c
  s.core.readable a 16 && s.ledgerNat (a + 4) 4 == 0xFFFFFFFF - s.ledgerNat a 4 &&
    s.ledgerNat (a + 8) 4 == crc32 (s.ledgerBytes a 8)

/-- R502: BOOTNO value `a` is newer than `b`. -/
def bootNewer (a b : Nat) : Bool :=
  if a = 0 then false
  else if b = 0 then true
  else
    let d := ((a - 1) + 0xFFFFFFFF - (b - 1)) % 0xFFFFFFFF
    decide (1 ≤ d) && decide (d ≤ 0x7FFFFFFF)

/-- R502: the newer valid copy: its index and value; copy 0 when both hold the same. -/
def State.newerCopy (s : State) : Option (Nat × Nat) :=
  let v0 := s.ledgerNat bootnoBase 4
  let v1 := s.ledgerNat (bootnoBase + 16) 4
  match s.copyValid 0, s.copyValid 1 with
  | true, true => if bootNewer v1 v0 then some (1, v1) else some (0, v0)
  | true, false => some (0, v0)
  | false, true => some (1, v1)
  | false, false => none

/-- R502: write a BOOTNO copy. -/
def State.writeCopy (s : State) (c v : Nat) : State :=
  let body := leBytes 4 v ++ leBytes 4 (0xFFFFFFFF - v)
  s.ledgerWrite (bootnoBase + 16 * c) (body ++ leBytes 4 (crc32 body) ++ leBytes 4 0)

/-! ### The folio (R512-R520) -/

/-- The address of this boot's folio. -/
def Dev.folioAddr (s : Dev) : Nat := folioBase + (s.bootno.toNat % 4096) * 0x100

/-- R92: the 16 bytes of a STAMP. -/
def Stamp.bytes (t : Stamp) : List Byte := leBytes 16 t.bits.toNat

/-- R519: the body of a folio, bytes 0x00-0xF7, its CRC last. -/
def Folio.body (f : Folio) : List Byte :=
  let b := f.stamp.bytes ++ leBytes 2 f.kind ++ leBytes 1 f.obj ++
    leBytes 1 ((if f.dangerous then 1 else 0) + (if f.shadow then 2 else 0)) ++
    leBytes 4 f.arg0.toNat ++ leBytes 4 f.arg1.toNat ++ [f.state, f.tally, f.levels, 0] ++
    (f.meas.map (fun w => leBytes 4 w.toNat)).flatten ++ (f.pcs.map (fun p => leBytes 2 p.toNat)).flatten ++
    leBytes 4 f.tstat.toNat
  b ++ leBytes 4 (crc32 b)

/-- R512: the folio of the present BOOTNO becomes empty, and no fault stands in it yet. -/
def State.emptyFolio (s : State) : State :=
  (s.ledgerWrite s.core.folioAddr (List.replicate 256 0)).lift
    (fun c => c.put F.LEDG_FFSLOT_SLOT (c.bootno.toNat % 4096))

/-- R520: write the verdict word of a committed folio once the verdict is known. -/
def State.writeVerdict (s : State) : State :=
  match s.core.folioVer with
  | some (v, us) =>
    if s.core.folioDone && !s.core.folioVdone && s.core.ledgerOn then
      (s.ledgerWrite (s.core.folioAddr + 0xF8)
        ([BitVec.ofNat 8 v.code, BitVec.ofNat 8 (255 - v.code), 0, 0] ++ leBytes 4 us.toNat)).lift
          (fun c => (({ c with folioVdone := true }).mark F.LEDG_STATUS_FFVERD).mark F.LEDG_EVENT_FF_VERDICT)
    else s
  | none => s

/-- A fault declared by a program (R262): KIND from 0xC000 up. -/
def isProgramKind (k : Nat) : Bool := decide (0xC000 ≤ k)

/-- R510: the first-fault commit waits for the array. -/
def Dev.folioWaits (s : Dev) : Bool := s.folio.isSome && s.bootnoOk && !s.folioDone && s.ledgerOn

/-- R510: the array serves what ranks below the first-fault commit and the journal: neither waits for it. -/
def Dev.arrayFree (s : Dev) : Bool := s.ledgerOn && !s.folioWaits && (s.jq.isEmpty || !s.flag F.LEDG_STATUS_JREADY)

/-- FIRST_FAULT_COMMIT (R515, R518): the frozen body is written and FFFULL set, once boot step 4 has emptied the
folio; the verdict follows where it is known, INCONCLUSIVE for a program-declared fault (R262). -/
def firstFaultCommit (ts : Nat) (s : State) : State :=
  let s := s.advance ts
  match s.core.folio with
  | some f =>
    if s.core.bootnoOk && !s.core.folioDone && s.core.ledgerOn then
      ((s.ledgerWrite s.core.folioAddr f.body).lift (fun c =>
        ((({ c with folioDone := true }).mark F.LEDG_STATUS_FFFULL).mark F.LEDG_EVENT_FF_COMMIT).folioVerdict
          (isProgramKind f.kind) .inconclusive)).writeVerdict
    else s
  | none => s

/-! ### The journal (R522-R529) -/

/-- R522: the 32 bytes of a record. -/
def JRec.bytes (r : JRec) (arg0 : Word) : List Byte :=
  let b := leBytes 2 r.typ ++ leBytes 1 r.obj ++
    leBytes 1 ((if r.shadow then 1 else 0) + (if r.ff then 2 else 0) + (if r.probe then 4 else 0)) ++
    r.stamp.bytes ++ leBytes 4 arg0.toNat ++ leBytes 4 r.arg1.toNat
  b ++ leBytes 4 (crc32 b)

/-- The slot of record number `k`, when record number `no` goes to slot `head`. -/
def slotOfRec (head no k : Nat) : Nat := (((head : Int) + k - no) % (journalSlots : Int)).toNat

/-- R527, R697: write both journal checkpoint copies. -/
def Dev.journalCheckpoint (s : Dev) : Dev :=
  if s.ledgerOn then
    { (s.copyWritten 0).copyWritten 1 with jck := (s.get F.LEDG_JHEAD_NEXT, s.get F.LEDG_JLAP_LAP) }
  else s

/-- R527, R529: the head after a record in slot `head`; the checkpoint copies are written at every 1,024th record. -/
def Dev.journalNext (s : Dev) (head : Nat) : Dev :=
  let s1 := if head + 1 = journalSlots then (s.put F.LEDG_JHEAD_NEXT 0).roll F.LEDG_JLAP_LAP
    else s.put F.LEDG_JHEAD_NEXT (head + 1)
  if (head + 1) % 1024 = 0 then s1.journalCheckpoint else s1

/-- JOURNAL_WRITE (R526, R527, R510): the oldest waiting record goes to the head, behind a first-fault commit that waits; the
checkpoint copies are written at every 1,024th record. -/
def journalWrite (ts : Nat) (s : State) : State :=
  let s := s.advance ts
  match s.core.jq with
  | (no, r) :: rest =>
    if s.core.flag F.LEDG_STATUS_JREADY && s.core.ledgerOn && !s.core.folioWaits then
      let head := s.core.get F.LEDG_JHEAD_NEXT
      let arg0 := match r.slotOf with
        | some k => BitVec.ofNat 32 (slotOfRec head no k)
        | none => r.arg0
      (s.ledgerWrite (journalBase + 32 * head) (r.bytes arg0)).lift (fun c => ({ c with jq := rest }).journalNext head)
    else s
  | [] => s

/-- R526, R515: what waits for the array is written before the device leaves RUN or HOLD-UP in order: the folio, then
every record. -/
def State.flush (s : State) : State :=
  (List.range s.core.jq.length).foldl (fun (a : State) _ => journalWrite a.core.now a) (firstFaultCommit s.core.now s)

/-- A slot of the ring as it stands: its 32 bytes and its STAMP's BOOTNO and USEC, where its CRC holds (R528); with an
uncorrectable word it does not (R507). -/
def State.slotStamp (s : State) (i : Nat) : Option (Nat × Nat) :=
  let b := s.ledgerBytes (journalBase + 32 * i) 32
  if s.core.readable (journalBase + 32 * i) 32 ∧ leNat (b.drop 28) = crc32 (b.take 28) ∧ leNat (b.take 2) ≠ 0 then
    some (leNat ((b.drop 16).take 4), leNat ((b.drop 10).take 6))
  else none

/-- R95 (ordering of STAMPs): BOOTNO, then USEC. -/
def stampOlder (a b : Nat × Nat) : Bool := decide (a.1 < b.1) || (a.1 == b.1 && decide (a.2 < b.2))

/-- R528: scan forward for the head, at most `fuel` slots; laps counted on the way. -/
def State.findHead (s : State) : Nat → Nat → Nat → Option (Nat × Nat) → Nat × Nat
  | 0, i, lap, _ => (i, lap)
  | fuel + 1, i, lap, prev =>
    match s.slotStamp i with
    | none => (i, lap)
    | some t =>
      if prev.any (fun p => stampOlder t p) then (i, lap)
      else if i + 1 = journalSlots then State.findHead s fuel 0 (lap + 1) (some t)
      else State.findHead s fuel (i + 1) lap (some t)

/-! ### Scrub and ECC (R506-R508) -/

/-- R547: the probe of an ECC_UNCORR by region: the memory word where the device writes it, none elsewhere. -/
def eccPath (a : Nat) : Option Path :=
  if a < 0x100000 ∨ (journalBase ≤ a ∧ a < notebookBase) then some (.lword a) else none

/-- R507: a read of the word at `a` meets `e`. -/
def Dev.eccRead (s : Dev) (a : Nat) (e : Ecc) : Dev :=
  if s.ledgBad.contains a ∨ e = .uncorrectable then
    let s1 := ((s.bump F.LEDG_ECC_UNCORR).mark F.LEDG_EVENT_ECC_UNCORR)
    let s2 := if s.ledgBad.contains a then s1 else { s1 with ledgBad := a :: s1.ledgBad }
    s2.declare 0x0A03 0 (BitVec.ofNat 32 a) 0 false (eccPath a)
  else if e = .corrected then (s.bump F.LEDG_ECC_CORR).mark F.LEDG_EVENT_ECC_CORR
  else s

/-- R505-R507: the reads of some words meet these outcomes, in order. -/
def Dev.eccReads (s : Dev) : List Nat → List Ecc → Dev
  | [], _ => s
  | a :: as, es => (s.eccRead a (es.headD .clean)).eccReads as es.tail

/-- R507: the device reads a part of the array on its own: every word of it that reads as uncorrectable, in rising order. -/
def Dev.reads (s : Dev) (within : Nat → Bool) : Dev :=
  ((s.ledgBad.filter within).insertionSort (· ≤ ·)).foldl (fun (c : Dev) w => c.eccRead w .uncorrectable) s

/-- The word at `w` holds a byte of the `n` from `a` on. -/
def touches (a n w : Nat) : Bool := decide (a < w + 8) && decide (w < a + n)

/-- A pair of opaque copies, the first of them `i`, cannot be read: R501 gives it the scheme of BOOTNO, whose count then starts afresh
(R503, log entry 13). -/
def Dev.pairLost (s : Dev) (i : Fin 5) : Bool :=
  !(s.readable (copyArea i.castSucc).1 (copyArea i.castSucc).2) && !(s.readable (copyArea i.succ).1 (copyArea i.succ).2)

/-- R528: the slots that the search for the head examines, with the one before them. -/
def headReads (from_ to_ : Nat) (w : Nat) : Bool :=
  decide (journalBase ≤ w) && decide (w < healthBase) &&
    decide (((w - journalBase) / 32 + 1 + journalSlots - from_) % journalSlots ≤ (to_ + 1 + journalSlots - from_) % journalSlots)

/-- JOURNAL_HEAD_FIND (R528, R507): at boot step 7. The slot before the checkpoint's, where it holds a record, sets the
STAMP the first slot is compared with. -/
def State.journalHeadFind (s : State) : State :=
  let ck := if s.core.pairLost 0 then (0, 0) else s.core.jck
  let before := if ck.1 = 0 then journalSlots - 1 else ck.1 - 1
  let h := s.findHead 2048 ck.1 ck.2 (s.slotStamp before)
  s.lift (fun c => (((c.reads (headReads ck.1 h.1)).put F.LEDG_JHEAD_NEXT h.1).put F.LEDG_JLAP_LAP h.2).mark F.LEDG_STATUS_JREADY)

/-! ### Health days (R493-R498, R530-R532) -/

/-- R494: bring an accumulator's running times up to now. -/
def HAcc.sync (a : HAcc) (now : Nat) : HAcc :=
  let a1 := match a.onAt with
    | some t => { a with onNs := a.onNs + (now - t), onAt := some now }
    | none => a
  match a1.margAt with
  | some t => { a1 with margNs := a1.margNs + (now - t), margAt := some now }
  | none => a1

/-- The open day brought up to now. -/
def HDay.sync (h : HDay) (now : Nat) : HDay :=
  { h with
    ns := h.ns + (match h.since with | some t => now - t | none => 0)
    since := h.since.map (fun _ => now)
    acc := h.acc.map (fun a => a.sync now) }

/-- R532, R697: write an accumulator to the older of its two copies. -/
def Dev.saveDay (s : Dev) (h : HDay) : Dev :=
  if s.ledgerOn then
    let i : Fin 2 := s.hcopy + 1
    { s.copyWritten ⟨4 + i.val, by omega⟩ with hsaved := some h, holder := s.hsaved, hcopy := i }
  else s

/-- R497: checkpoint the open day. -/
def Dev.healthCheckpoint (s : Dev) : Dev :=
  match s.hday with
  | some h => ({ s with hday := some (h.sync s.now) }).saveDay (h.sync s.now)
  | none => s

/-- R493: a day of 86,400 s, in ns. -/
def dayNs : Nat := 86400000000000

/-- R497: 60 s of operation have passed since the last checkpoint. -/
def Dev.checkpointDue (s : Dev) : Bool :=
  s.hday.any (fun (h : HDay) => decide (((s.hsaved.map (fun (c : HDay) => c.ns)).getD 0) + 60000000000 ≤ (h.sync s.now).ns))

/-- R510: a health checkpoint or the closing of a day waits for the array. -/
def Dev.healthDue (s : Dev) : Bool := s.live && (s.checkpointDue || s.hday.any (fun (h : HDay) => decide (dayNs ≤ (h.sync s.now).ns)))

/-- HEALTH_CHECKPOINT (R497, R510): every 60 s of operation. -/
def healthCheckpointCmd (ts : Nat) (s : Dev) : Dev :=
  let s := s.advance ts
  if s.live ∧ s.arrayFree ∧ s.checkpointDue then s.healthCheckpoint else s

/-- R494, R530: one rail's record of a closing day, its CRC over DAY and the record. Where no interval or no temperature
contributed, the spec gives MIN to RMSMAX or TEMPMAX no value: they are free (log entry 20). -/
def HAcc.record (a : HAcc) (day : Nat) (bootFirst bootLast : Word) (gap : Bool) (free : Nat → Word) : List Byte :=
  let empty := decide (a.nint = 0)
  let val (i v : Nat) : Nat := if empty then (free i).toNat else v
  let mean := if a.meanN = 0 then 0 else (2 * a.meanSum + a.meanN) / (2 * a.meanN)
  let temp := match a.tempMax with
    | some t => toSigned 16 t
    | none => (free 5).toNat
  let b := leBytes 4 bootFirst.toNat ++ leBytes 4 bootLast.toNat ++ leBytes 4 (a.onNs / 1000000000) ++
    leBytes 4 (val 0 a.vMin) ++ leBytes 4 (val 1 a.vMax) ++ leBytes 4 (val 2 mean) ++ leBytes 4 (val 3 a.ppMax) ++
    leBytes 4 (val 4 a.rmsMax) ++ leBytes 4 (min a.droops 0xFFFFFFFF) ++ leBytes 4 a.nint ++
    leBytes 2 (min a.uvShort 0xFFFF) ++ leBytes 2 (min a.pgShort 0xFFFF) ++ leBytes 2 (min a.uvCnt 0xFFFF) ++
    leBytes 2 (min a.ovCnt 0xFFFF) ++ leBytes 2 (min a.faults 0xFFFF) ++ leBytes 2 (min a.cycles 0xFFFF) ++
    leBytes 2 (min (a.margNs / 1000000000) 0xFFFF) ++ leBytes 2 temp ++
    leBytes 2 ((if a.clip then 1 else 0) + (if empty then 2 else 0) + (if gap then 4 else 0)) ++ leBytes 2 0
  b ++ leBytes 4 (crc32 (leBytes 4 day ++ b))

/-- A new day for a rail, its running times going on. -/
def HAcc.renew (a : HAcc) (now : Nat) : HAcc :=
  { onAt := a.onAt.map (fun _ => now), margAt := a.margAt.map (fun _ => now), margIvl := a.margIvl }

/-- R493, R498: what follows day `h` in the device: the next day opens. -/
def Dev.nextDay (s : Dev) (h : HDay) : Dev :=
  let h2 : HDay := ⟨h.day + 1, s.bootno, h.ns - dayNs, h.since, false, h.acc.map (fun a => a.renew s.now)⟩
  let s1 := ((({ s with hday := some h2, fresh := s.fresh + 288 }).saveDay h2).put F.HLTH_STATUS_DAY h2.day).mark F.HLTH_EVENT_CLOSED
  if 4096 ≤ h.day then (s1.mark F.HLTH_EVENT_WRAP).journal 0x0904 0 (BitVec.ofNat 32 (h.day - 4096)) else s1

/-- HEALTH_DAY_CLOSE (R493, R498, R510): the open day has reached 86,400 s: its 48 records are written, the next opens; a
full ring replaces its oldest day. -/
def healthDayClose (ts : Nat) (s : State) : State :=
  let s := s.advance ts
  match s.core.hday with
  | some h =>
    let h1 := h.sync s.core.now
    if s.core.live ∧ s.core.arrayFree ∧ dayNs ≤ h1.ns then
      let recs := (List.finRange 48).map (fun n => (h1.acc.get n).record h1.day h1.bootFirst s.core.bootno h1.gap
        (fun i => Config.freeWord (s.core.fresh + 6 * n.val + i)))
      (s.ledgerWrite (healthBase + 3072 * (h1.day % 4096)) recs.flatten).lift (fun c => c.nextDay h1)
    else s
  | none => s

/-- R493: operation ends by leaving RUN or HOLD-UP in order: the open day is kept as it stands (log entry 13). -/
def Dev.healthStop (s : Dev) : Dev :=
  let s1 := s.healthCheckpoint
  if s.hday.isSome then { s1 with hday := none, hClean := true } else s1

/-- R532: the copy that boot step 8 resumes from: the newer valid one. -/
def Dev.validDay (s : Dev) : Option HDay :=
  let at_ (i : Fin 2) : Bool := s.readable (0x209000 + 4096 * i.val) 4096
  match s.hsaved, s.holder with
  | some h, old => if at_ s.hcopy then some h else if at_ (s.hcopy + 1) then old else none
  | none, _ => none

/-- R493, R497, R532: at boot step 8 the device reads both copies (R507), and the open day resumes from the newer valid one, with HEALTH_GAP where the last
operation ended abruptly or the newer copy is lost, or day 0 opens. -/
def Dev.healthResume (s0 : Dev) : Dev :=
  let s := s0.reads (touches (copyArea 4).1 8192)
  match s.validDay with
  | some h =>
    let whole := s.hClean && s.readable (0x209000 + 4096 * s.hcopy.val) 4096
    let h1 : HDay := { h with
      since := some s.now
      gap := h.gap || !whole
      acc := h.acc.map (fun a => { a with onAt := none, margAt := none, margIvl := false }) }
    let s1 := if s.readable (0x209000 + 4096 * s.hcopy.val) 4096 then s
      else { s with hsaved := some h, holder := none, hcopy := s.hcopy + 1 }
    let s2 := ({ s1 with hday := some h1, hClean := false }).put F.HLTH_STATUS_DAY h1.day
    if whole then s2 else (s2.mark F.HLTH_EVENT_GAP).journal 0x0903 0 (BitVec.ofNat 32 h1.day)
  | none =>
    let h1 : HDay := ⟨0, s.bootno, 0, some s.now, false, Vector.replicate 48 {}⟩
    ((({ s with hday := some h1, hClean := false }).saveDay h1).put F.HLTH_STATUS_DAY 0)

/-- SCRUB_READ (R508, R507, R510): the background scrub reads its next word, where no other writer waits; it pauses in
WATCH. -/
def scrubRead (ts : Nat) (e : Ecc) (s : Dev) : Dev :=
  let s := s.advance ts
  if s.live ∧ s.eff ≠ .watch ∧ s.arrayFree ∧ ¬ s.healthDue ∧ s.arch.isNone ∧ (List.finRange 4).all (fun (d : Fin 4) => (s.ports.get d).wwin.isNone) then
    let s1 := s.eccRead s.scrubAt e
    if s.scrubAt + 8 = ledgerSize then (({ s1 with scrubAt := 0 }).roll F.LEDG_SCRUB_PASSES).put F.LEDG_SCRUB_PROGRESS 0
    else ({ s1 with scrubAt := s.scrubAt + 8 }).put F.LEDG_SCRUB_PROGRESS ((s.scrubAt + 8) * 100 / ledgerSize)
  else s

end Sys2Proof.Machine
end

