-- ==== Sys2Proof/Machine/Vault.lean ====
section
/-! DEFINITION. The shutdown table and the shared fault line (09), and the transitions of the device state that the end
of a run makes (R22). -/

namespace Sys2Proof.Machine

/-- Enter BOOT at boot step 1 (R22, R651, R365): everything but the ledger starts afresh; USEC has not started. -/
def Dev.enterBoot (s : Dev) : Dev :=
  ((s.healthStop).wiped .boot).put F.SYS_STATE_BOOTSTEP 1

/-- Enter POWER-HOLD (R22). -/
def Dev.enterPowerHold (s : Dev) : Dev := (s.healthStop).wiped .powerHold

/-- R343: the fallback table. -/
def fallbackSteps : List TStep := [
  ⟨0, .rsto, 0xFF, false, 0, 0⟩,
  ⟨BitVec.allOnes 48, .foff, 0, true, 0, 100⟩,
  ⟨0, .finish, 0, false, 0, 0⟩]

/-- The table in use (R343). -/
def Vault.table (v : Vault) : List TStep := if v.fallback then fallbackSteps else v.steps

/-- The first step of an entry (R339, R343). -/
def Vault.first (v : Vault) (e : Entry) : Nat := if v.fallback then 0 else v.entries.getD e.code 0

/-- An END step, for an index outside the table. -/
def endStep : TStep := ⟨0, .finish, 0, false, 0, 0⟩

/-- The step in progress. -/
def Vault.stepOf (v : Vault) (i : Nat) : TStep := v.table.getD i endStep

/-- R353, R137, R315: at the start of a run every ARMED rail returns to OFF, its coins credited back. -/
def Dev.disarmAll (s : Dev) : Dev :=
  allRails.foldl (fun (a : Dev) (n : Fin 48) =>
    if (a.rail n).code = .armed then
      let b := a.off n false
      { b with vaultRails := b.vaultRails ||| railOne n }
    else a) s

/-- R491, R19: the vault turns every margin DAC off and its pin to high impedance; every margin field becomes 0, by an
action that the next close ranks above postings and tellers. -/
def Dev.marginsOff (s : Dev) : Dev :=
  let s1 := (List.range 16).foldl (fun a m =>
    (((a.put (F.MD_CODE_TARGET m) 0).put (F.MD_CODE_PRESENT m) 0).put (F.MD_CODE_STOPPED m) 0).mark (F.MD_CODE_VAULT m)) s
  let s2 := (List.finRange 8).foldl (fun (a : Dev) (n : Fin 8) =>
    a.retarget n (fun t => t.put (F.SC_MRGN_OFS n) 0)) s1
  let s3 := allRails.foldl (fun (a : Dev) (n : Fin 48) => a.healthMargin n) s2
  { s3 with vaultMargins := true }

/-- R364, R562: the vault pulls FLT_N low; an earlier cause stands. A vault that is lost keeps it released. -/
def Dev.driveFlt (s : Dev) (c : FltCause) : Dev :=
  if s.vault.drive.isSome ∨ s.flag F.SAFE_STATUS_VAULTLOST then s else { s with vault := { s.vault with drive := some c } }

/-- TABLE_RUN_START (R369, R353, R359, R361, R364, R491, R497, R527, R668): the first step of the accepted entry
begins; a lower run in progress is abandoned. What the start of a run does, the jump to a higher entry does not repeat. -/
def tableRunStart (ts : Nat) (s : Dev) : Dev :=
  let s := s.advance ts
  match s.vault.pend with
  | none => s
  | some p =>
    let jump := s.vault.run.isSome
    let run : TRunning := ⟨p.entry, p.d, s.vault.first p.entry, none, 0⟩
    let s1 := { s with vault := { s.vault with
      pend := none, run := some run, lastRun := p.entry, lastStep := run.step } }
    let s0 := if p.jump then s1.mark F.SHUT_EVENT_JUMPED else s1
    let s2 := if jump then s0 else (((s0.disarmAll).marginsOff).healthCheckpoint).journalCheckpoint
    let s4 := match p.entry with
      | .dangerous => s2.driveFlt .dangerous
      | .vinLoss => if s2.flag F.SHUT_CFG_FLTVIN then s2.driveFlt .vinLoss else s2
      | _ => s2
    let s5 := ((s4.cascEval false).setBit F.SHUT_EVENT_RAN p.entry.code).causeAll cFault
    s5.tableStartRec p.entry p.cause

/-- R345: the table's OFF of a FAULTED rail whose last result lies below VOFF takes it to OFF, whatever its output. R133
names FALLING where the output is on; R345 states what the table's steps do (log entry 37). -/
def Dev.tableOffFaulted (s : Dev) (n : Fin 48) (fast : Bool) : Dev :=
  let t := (((if (s.rail n).out = .on then s.turnOff n fast else if fast then s.ctlStop n true else s)).railToOff n).fastBy n fast
  { t with vaultRails := t.vaultRails ||| railOne n }

/-- R345: an OFF or FOFF of the table on every USED rail of a mask. -/
def Dev.tableOff (s : Dev) (m : RailSet) (fast : Bool) : Dev :=
  (railsOf m).foldl (fun (a : Dev) (n : Fin 48) =>
    if !a.flag (F.RAIL_CFG_USED n) then a
    else if (a.rail n).code = .faulted ∧ a.belowVoff n then a.tableOffFaulted n fast
    else a.vaultOff n fast) s

/-- R347, R163: assert the named reset outputs whose CLAIM is 1; the vault holds them until BOOT. -/
def Dev.tableRsto (s : Dev) (set : BitVec 8) : Dev :=
  (List.finRange 8).foldl (fun (a : Dev) (k : Fin 8) =>
    if set.toNat.testBit k && a.flag (F.RSTO_CFG_CLAIM k) then
      let b := { a with vault := { a.vault with rsto := a.vault.rsto ||| (1#8 <<< k.val) } }
      ((b.setBit F.RSTO_STATUS_VAULT k).setBit F.RSTO_STATUS_ASSERTED k).clrBit F.RSTO_STATUS_STRETCHING k
    else a) s

/-- R22, R25: the state that follows the end of a run, if it is not RUN; after a thermal shutdown THERMAL-OFF follows
(R26). `vin28` says that VIN lies above 28.0 V. -/
def Dev.afterTable (s : Dev) (vin28 : Bool) : Option DevState :=
  if s.vault.thermal.isSome then none
  else if s.dev = .holdUp then some (if vin28 then .boot else .powerHold)
  else if s.vault.reboot && s.dev == .run then some .boot
  else none

/-- R74, R73: the end of HOLD-UP ends what held the sag governor at level 1. -/
def Dev.sagLeave (s : Dev) : Dev :=
  if s.dev = .holdUp ∧ s.sag ≠ 0 then (s.setSag 0).journal 0x0106 0 0 4 else s

/-- R465: the vault's fast offs end with its run; a controller still in the discharge state goes to mid-level. -/
def Dev.fastsEnd (s : Dev) : Dev :=
  let t := (List.finRange 8).foldl (fun (a : Dev) (c : Fin 8) =>
    if railIn s.vault.fasts ⟨c.val, by omega⟩ && a.scOp c == scDischarge then a.setOp c scIdle else a) s
  { t with vault := { t.vault with fasts := 0 } }

/-- R360: the run is complete: TABLE_END. Where the device stays in RUN, the margin DACs' pins and SEQ_OUT are its own
again (R491, R166). -/
def Dev.tableEnd (s : Dev) (r : TRunning) (stays : Bool) : Dev :=
  let us := (s.now - r.d) / 1000
  let s0 := s.fastsEnd
  let s1 := { s0 with vault := { s0.vault with run := none, lastStep := r.step } }
  let s2 := (((s1.put F.SHUT_LAST_ENTRY r.entry.code).put F.SHUT_LAST_STUCKN (min 63 r.stuck)).put F.SHUT_LAST_TIME
    (min 0xFFFFFF us)).journal 0x0702 r.entry.code (BitVec.ofNat 32 us) (BitVec.ofNat 32 r.stuck)
  if stays then
    ((List.range 16).foldl (fun (a : Dev) m => a.put (F.MD_CODE_VAULT m) 0) s2).cascEval false
  else s2.sagLeave

/-- R344-R347: the action of a step of the table. -/
def Dev.tableAct (s : Dev) (st : TStep) : Dev :=
  match st.act with
  | .off => s.tableOff st.mask false
  | .foff => s.tableOff st.mask true
  | .rsto => s.tableRsto st.rstoSet
  | .finish => s

/-- The volatile memories without supply: nothing is listed (log entry 11). -/
def State.dark (s : State) : State := { s with iram := [], dram := [], bufs := Vector.replicate 6 [] }

/-- R22: leave RUN or HOLD-UP in order: what waits for the ledger is written first (R515, R526). -/
def State.leaveRun (s : State) (d : DevState) : State :=
  let t := s.flush
  if d = .boot then t.lift Dev.enterBoot else (t.lift Dev.enterPowerHold).dark

/-- TABLE_STEP (R344-R347, R360): the vault performs the action of the step in progress and begins its wait; an END
step completes the run. -/
def tableStep (ts : Nat) (vin28 : Bool) (s : State) : State :=
  let s := s.advance ts
  match s.core.vault.run with
  | some r =>
    if r.acted.isNone ∧ s.core.vault.pend.isNone then
      let st := s.core.vault.stepOf r.step
      if st.act = .finish then
        let next := s.core.afterTable vin28
        let t := s.lift (fun c => c.tableEnd r (next.isNone && c.vault.thermal.isNone))
        match next with
        | some d => t.leaveRun d
        | none => t
      else s.lift (fun c =>
        let b := c.tableAct st
        { b with vault := { b.vault with run := some { r with acted := some b.now }, lastStep := r.step } })
    else s
  | none => s

/-- R351: the main region publishes no results. -/
def Dev.blind (s : Dev) : Bool := !s.mainAlive || s.flag F.SAFE_STATUS_CLKFAIL

/-- R348: a rail is below VOFF for a step: its published result lies below VOFF, or it is OFF or UNUSED. -/
def Dev.fallen (s : Dev) (n : Fin 48) : Bool :=
  s.belowVoff n || (s.rail n).code == .off || (s.rail n).code == .unused

/-- The USED rails of a mask that have not fallen. -/
def Dev.standing (s : Dev) (m : RailSet) : List (Fin 48) :=
  (railsOf m).filter (fun n => s.flag (F.RAIL_CFG_USED n) && !s.fallen n)

/-- R350: the vault's own oscillator, within 2 % of its nominal rate, has counted `d` ns since `t0`: the command that ends the
wait may come once a fast oscillator has (log entry 36). -/
def Dev.vaultElapsed (s : Dev) (t0 d : Nat) : Bool := s.elapsed t0 (d * 98 / 100)

/-- R348, R350, R351: the wait of a step is met. -/
def Dev.waitMet (s : Dev) (st : TStep) (t0 : Nat) : Bool :=
  if st.voff then !s.blind && (s.standing st.mask).isEmpty else s.vaultElapsed t0 (st.time * 1000)

/-- Begin the next step. -/
def Dev.nextStep (s : Dev) (r : TRunning) (stuck : Nat) : Dev :=
  { s with vault := { s.vault with
    run := some { r with step := r.step + 1, acted := none, stuck := r.stuck + stuck }, lastStep := r.step + 1 } }

/-- TABLE_STEP_WAIT_MET (R344, R348). -/
def tableStepWaitMet (ts : Nat) (s : Dev) : Dev :=
  let s := s.advance ts
  match s.vault.run with
  | some r =>
    match r.acted with
    | some t0 => if s.vault.pend.isNone ∧ s.waitMet (s.vault.stepOf r.step) t0 then s.nextStep r 0 else s
    | none => s
  | none => s

/-- The rails of a list as a set. -/
def railSetOf (l : List (Fin 48)) : RailSet := l.foldl (fun m n => m ||| railOne n) 0

/-- TABLE_STUCK (R349, R350, R351): LIMIT has elapsed with the wait unmet; TABLE_STUCK, or BLIND, and the next step. -/
def tableStuck (ts : Nat) (s : Dev) : Dev :=
  let s := s.advance ts
  match s.vault.run with
  | some r =>
    match r.acted with
    | some t0 =>
      let st := s.vault.stepOf r.step
      if s.vault.pend.isNone ∧ s.vaultElapsed t0 (st.limit * 1000000) ∧ ¬ s.waitMet st t0 then
        let m := (railSetOf (s.standing st.mask))
        let b := s.blind && st.voff
        let s1 := s.journal (if b then 0x0704 else 0x0703) r.step (m.truncate 32) ((m >>> 32).truncate 32)
        (if b then s1.mark F.SHUT_EVENT_BLIND else s1.mark F.SHUT_EVENT_STUCK).nextStep r 1
      else s
    | none => s
  | none => s

/-- TABLE_CRC_CHECK (R343, R608): the 10 ms check finds the copy intact, or `bad`: the fallback table replaces it, TABLE_CRC
is declared, and a run in progress restarts as the fallback run under its entry. DESIGN CHOICE (log entry 43): its count of stuck steps
goes on from the run it replaces and it sets neither SHUT.EVENT.RAN nor JUMPED; an entry accepted and not yet begun starts on
the fallback table without a further TABLE_START. -/
def tableCrcCheck (ts : Nat) (bad : Bool) (s : Dev) : Dev :=
  let s := s.advance ts
  if bad ∧ s.vault.loaded ∧ ¬ s.vault.fallback then
    let s1 := ({ s with vault := { s.vault with fallback := true } }).mark F.SHUT_EVENT_TABLE_CRC
    let s2 := s1.declare 0x0707 0 0 0 false (some .table)
    match s2.vault.run with
    | some r =>
      (({ s2 with vault := { s2.vault with run := some { r with step := 0, acted := none }, lastStep := 0 } }).causeAll
        cFault).tableStartRec r.entry 0x0707
    | none => s2
  else s

/-- EXTERNAL_ASSERTION (R366-R368): another device has held FLT_N low for 1.0 us (`low`), or lets it go again. While the
vault does not pull the line itself it accepts the assertion, once: it is recorded and with EXTEN = 1 requests the table at
EXTERNAL. -/
def externalAssertion (ts : Nat) (low : Bool) (s : Dev) : Dev :=
  let s := s.advance ts
  let sees := low && (s.vault.lineSeen || (s.dev != .unpowered && s.dev != .powerHold && s.vault.drive.isNone))
  let s1 := { s with vault := { s.vault with lineLow := low, lineSeen := sees } }
  if sees ∧ ¬ s.vault.lineSeen then
    let s2 := (s1.mark F.SHUT_FLT_EXT).journal 0x0705 0
    if s.flag F.SHUT_CFG_EXTEN then s2.requestEntry .external 0x0705 else s2
  else s1

/-- R365, R366: RELEASE_FLT with the table idle: the vault lets go of FLT_N; where it pulled the line, one that another
device still holds low is to be judged anew. Once the main region has stopped the line stays low (R683). -/
def Dev.releaseFlt (s : Dev) : Dev :=
  if s.regionStops then s
  else { s with vault := { s.vault with drive := none, lineSeen := s.vault.lineSeen && s.vault.drive.isNone } }

end Sys2Proof.Machine
end

