-- ==== Sys2Proof/Machine/Regs.lean ====
section
/-! DEFINITION. Reading registers (R8-R10, R646-R657): a register's word is that of its stored fields, with the fields
that show the device's own state laid over it; and the resource a register belongs to (R290, R578, R588, R653). -/

namespace Sys2Proof.Machine

/-! ### Purses as registers show them -/

/-- The sum of the reservations that satisfy `p`, mW. -/
def Dev.heatSum (s : Dev) (p : HRes → Bool) : Nat := (s.heatRes.filter p).foldl (fun a h => a + h.amt) 0

/-- R486: TRES, the sum of the tellers' reservations. -/
def HRes.ofTeller (h : HRes) : Bool :=
  match h.who with
  | .teller _ _ => true
  | _ => false

def Dev.tres (s : Dev) : Nat := s.heatSum HRes.ofTeller

/-- R326: FRESH in mW. -/
def Dev.young (s : Dev) : Nat := s.heatSum (·.young)

/-- nJ to whole coins of 1 mJ, rounded up. -/
def coinsUp (nj : Nat) : Nat := (nj + 999999) / 1000000

/-- R318, R320, R565: AVAIL in coins: E at the last computation less the reserve of 20 and every commitment. -/
def Dev.avail (s : Dev) : Nat :=
  if s.flag F.SAFE_STATUS_MONLOST then 0 else s.holdE / 1000000 - 20 - coinsUp s.holdO

/-- R485: the rails with a margin in force. -/
def Dev.nmarg (s : Dev) : Nat := (allRails.filter s.margined).length

/-- R485: a margin campaign runs. -/
def Dev.campaign (s : Dev) : Bool :=
  allRails.any s.margined || (List.range 16).any (fun m => s.get (F.MD_CODE_PRESENT m) != 0)

/-! ### Live fields -/

def bnat (b : Bool) : Nat := if b then 1 else 0

/-- One bit per true entry, bit 0 first. -/
def bits : List Bool → Nat
  | [] => 0
  | b :: bs => bnat b + 2 * bits bs

/-- CV[n].STATUS.OP. -/
def CvOp.code : CvOp → Nat
  | .idle => 0 | .scan => 1 | .dwell .. => 2 | .own _ => 2 | .burst .. => 3 | .cal => 4 | .slow => 5

/-- TELLER[k].STATUS of 05. -/
def Teller.status (t : Teller) : Nat :=
  t.st.code + bits [t.exc, t.trapped, t.z, t.n, t.c, t.t, t.d] * 4 + t.stack.length % 32 * 2 ^ 9 +
    t.queue.length % 128 * 2 ^ 14 + bnat t.stall.isSome * 2 ^ 21

/-- R449, R461, R462, R681: PH[p].STATUS.DRIVE: what the pin does. -/
def Dev.drive (s : Dev) (p : Fin 24) : Nat :=
  match s.ctlOf p with
  | none => 0
  | some n =>
    if s.pwr.vsupLow ∨ s.scOp n = 0 then 0
    else if s.flag (F.PH_STATUS_EXCL p) ∨ s.regionStops then 1
    else s.scDrive n

/-- The fields of a register that show state held elsewhere. -/
def Dev.liveFields (s : Dev) (r : Nat) : List (Fld × Nat) :=
  let l := locate r
  match l.block with
  | .rail =>
    if h : l.idx < 48 then
      let n : Fin 48 := ⟨l.idx, h⟩
      let x := s.rail n
      match l.off with
      | 0x00 => if isCtl n then [(⟨r, 4, 4⟩, 0)] else []   -- R159: reserved
      | 0x01 =>
        let armed := x.code == .armed
        [(F.RAIL_STATE_CODE n, x.code.code), (F.RAIL_STATE_OUT n, x.out.code), (F.RAIL_STATE_INWIN n, bnat (s.live && s.goodCond n)),
          (F.RAIL_STATE_GATEOK n, bnat (s.live && s.gateOk n)), (F.RAIL_STATE_WAITVIN n, bnat (armed && x.waitVin)),
          (F.RAIL_STATE_WAITPURSE n, bnat (armed && !s.grantsOk n)),
          (F.RAIL_STATE_FAULT n, x.fault)]
      | 0x1B => [(F.RAIL_WSTATUS_UVLIVE n, bnat x.uvLive), (F.RAIL_WSTATUS_OVLIVE n, bnat x.ovLive)]
      | _ => []
    else []
  | .sc =>
    if h : l.idx < 8 then
      let n : Fin 8 := ⟨l.idx, h⟩
      match l.off with
      | 0x0A => [(F.SC_STATUS_LIMIT n, bnat (s.inLimit n)),
          (F.SC_STATUS_EXCL n, bits ((s.phasesOf n).map (fun p => s.flag (F.PH_STATUS_EXCL p)))),
          (F.SC_STATUS_FFNOM n, bnat (s.live && (s.ffSource n).isNone)), (F.SC_STATUS_DERATE n, s.derate),
          (F.SC_STATUS_OVHOLD n, bnat (s.ovHold n)), (F.SC_STATUS_STAGEHOT n, bnat (s.stageHot n))]
      | 0x0C => [(F.SC_REF_REF n, s.scRef n / 1000)]
      | 0x0E => [(F.SC_TON_ITLIM n, s.totalLimit n / (8000 * max 1 (s.get (F.SC_MAP_COUNT n))))]
      | _ => []
    else []
  | .ph =>
    if h : l.idx < 24 then
      let p : Fin 24 := ⟨l.idx, h⟩
      match l.off with
      | 0x05 => [(F.PH_STATUS_SC p, ((s.ctlOf p).map (·.val)).getD 0), (F.PH_STATUS_MAPPED p, bnat (s.ctlOf p).isSome),
          (F.PH_STATUS_DRIVE p, s.drive p), (F.PH_STATUS_INLIM p, bnat (decide (s.now < (s.ph p).limEnd)))]
      | _ => []
    else []
  | .cv =>
    if h : l.idx < 6 then
      let c : Fin 6 := ⟨l.idx, h⟩
      let x := s.cv c
      match l.off with
      | 0x01 =>
        let t := s.scanned c
        [(F.CV_CHSEL_CH c, t.get (F.CV_CHSEL_CH c)), (F.CV_CHSEL_INJ c, t.get (F.CV_CHSEL_INJ c))]   -- R371, R374
      | 0x02 => [(F.CV_STATUS_OP c, x.op.code), (F.CV_STATUS_PENDING c, bnat x.pend.isSome),
          (F.CV_STATUS_PSRC c, (x.pend.map (·.src.psrc)).getD 0), (F.CV_STATUS_CALPEND c, bnat x.calPend),
          (F.CV_STATUS_OWBUSY c, bnat x.wire.isSome), (F.CV_STATUS_RATE c, bnat x.fast)]
      | 0x07 => [(F.CV_CALSTAT_AGE c, match x.calOkAt with | some t => min 65535 ((s.now - t) / 1000000000) | none => 0)]
      | _ => []
    else []
  | .cap =>
    if h : l.idx < 6 then
      match l.off with
      | 0x02 => [(F.CAP_STATUS_CONT l.idx, bnat (s.continuous ⟨l.idx, h⟩))]
      | _ => []
    else []
  | .teller =>
    if h : l.idx < 8 then
      let k : Fin 8 := ⟨l.idx, h⟩
      let t := s.teller k
      match l.off with
      | 0x02 => [(⟨r, 0, 32⟩, { t with st := s.shownState k }.status)]   -- R200
      | 0x03 => [(F.TELLER_PC_PC k, t.pc.toNat)]
      | 0x04 => [(F.TELLER_ENTRY_ENTRY k, t.entry.toNat)]
      | 0x05 => [(F.TELLER_TRAP_TRAP k, t.trap.toNat)]
      | 0x06 => [(F.TELLER_EXCINFO_CAUSE k, t.cause), (F.TELLER_EXCINFO_EPC k, t.epc.toNat)]
      | 0x07 => [(F.TELLER_LASTREF_REASON k, t.refWhy), (F.TELLER_LASTREF_RPC k, t.refPc.toNat)]
      | o => if 0x10 ≤ o ∧ o < 0x20 then [(⟨r, 0, 32⟩, (t.xr (Fin.ofNat 16 o)).toNat)] else []
    else []
  | .door =>
    if h : l.idx < 4 then
      let d : Fin 4 := ⟨l.idx, h⟩
      let x := s.door d
      match l.off with
      | 0x00 => [(F.DOOR_STATUS_HOLD d, bnat x.hold), (F.DOOR_STATUS_SREQ d, bnat x.sreq.isSome),
          (F.DOOR_STATUS_SREADY d, bnat x.sready),
          (F.DOOR_STATUS_PPEND d, bnat (x.queue.any (fun q => q.2 == DoorItem.post))), (F.DOOR_STATUS_POVF d, bnat x.povf),
          (F.DOOR_STATUS_PCOUNT d, x.entries.length), (F.DOOR_STATUS_DQ d,
            (x.queue.filter (fun q => q.2 != DoorItem.post)).length)]
      | o =>
        if 0x18 ≤ o ∧ o < 0x20 then
          [(⟨r, 0, 32⟩, bits ((List.range 32).map (fun j =>
            s.owner (BitVec.ofNat 8 (32 * (o - 0x18) + j)) == Owner.door d)))]
        else []
    else []
  | .fixed =>
    match r with
    | 0x0000 => [(F.ID_REV, 0x11)]   -- R672
    | 0x00D2 => [(F.DPROT_STRAP_ADDR, 0x58 + s.get F.DPROT_STRAP_S)]
    | 0x0004 => [(F.SYS_STATE_CODE, s.dev.code), (F.SYS_STATE_TABLE, bnat s.tableRuns)]
    | 0x0102 => [(F.PWR_STATUS_STARTOK, bnat (decide (s.get F.PWR_START_VSTART * 1000 ≤ s.get F.PWR_VIN_V)))]
    | 0x0200 => [(F.TIME_USECL_USECL, s.usec.toNat % 2 ^ 32)]
    | 0x0201 => [(F.TIME_USECH_USECH, s.usec.toNat / 2 ^ 32)]
    | 0x0202 => [(F.TIME_BOOTNO_BOOTNO, s.bootno.toNat)]
    | 0x020B => [(F.TALLY_REV_REV, s.rev.toNat)]
    | 0x020C => [(F.TALLY_POS_ANGLE, s.ang.toNat), (F.TALLY_POS_SYNTH, bnat s.synthOn)]
    | 0x020D => [(F.TALLY_SANGLE_SANGLE, s.sangle)]
    | 0x1A00 => [(F.PURSE_INRUSH_BAL, s.inrushUj / 1000),
        (F.PURSE_INRUSH_WAIT, (s.preqs.filter (fun q => q.budget == .inrush)).length)]
    | 0x1A02 => [(F.PURSE_HOLD_AVAIL, min 65535 s.avail), (F.PURSE_HOLD_OUT, min 65535 (coinsUp s.holdO))]
    | 0x1A04 => [(F.PURSE_HEAT_FRESH, min 65535 s.young)]
    | 0x1A05 => [(F.PURSE_HEATHELD_HELD, min 65535 (s.heatSum (fun _ => true))),
        (F.PURSE_HEATHELD_TELLERS, (s.heatRes.filter HRes.ofTeller).length),
        (F.PURSE_HEATHELD_AUDIT, bnat (s.heatRes.any (fun h => h.who == HWho.audit)))]
    | 0x1B00 => [(F.SHUT_STATUS_RUNNING, bnat s.tableRuns), (F.SHUT_STATUS_ENTRY, s.vault.lastRun.code),
        (F.SHUT_STATUS_STEP, s.vault.lastStep % 64), (F.SHUT_STATUS_FALLBACK, bnat s.vault.fallback),
        (F.SHUT_STATUS_BLIND, bnat (s.tableRuns && s.blind))]
    | 0x1B05 => [(F.SHUT_FLT_LINE, bnat (!s.fltLow)), (F.SHUT_FLT_DRIVEN, bnat s.pulls),
        (F.SHUT_FLT_CAUSE, (s.vault.drive.map (·.code)).getD 0)]
    | 0x1C21 => [(F.MG_STATUS_NMARG, s.nmarg), (F.MG_STATUS_ACTIVE, bnat s.campaign), (F.MG_STATUS_TRES, min 65535 s.tres)]
    | 0x1C31 => [(F.HLTH_OPEN_SEC, ((s.hday.map (fun h => (h.sync s.now).ns)).getD 0) / 1000000000)]   -- R493
    | 0x1D00 => [(F.LEDG_STATUS_JQUEUE, s.jq.length), (F.LEDG_STATUS_ARCHBUSY, bnat s.arch.isSome)]
    | 0x1D06 => if s.bootnoOk then [(F.LEDG_ARCHFILL_FILL, s.afill.1)] else []   -- R651
    | 0x1D07 => if s.bootnoOk then [(F.LEDG_ARCHSTAT_ENTRIES, s.afill.2 % 256)] else []
    | 0x1E10 => [(F.VLT_STATUS_VCOREOK, bnat (s.usecOn && !s.vault.mainHeld && !s.flag F.SAFE_STATUS_VAULTLOST)),
        (F.VLT_STATUS_VVLTOK, bnat (s.usecOn && !s.flag F.SAFE_STATUS_VAULTLOST)),
        (F.VLT_STATUS_MAINOK, bnat (s.live && s.mainAlive && !s.flag F.SAFE_STATUS_VAULTLOST))]   -- R559, R560
    | 0x1E00 => [(F.SAFE_STATUS_PROBING, bnat (!s.probing.isEmpty)), (F.SAFE_STATUS_PQUEUE, s.waitingProbes)]
    | _ =>
      if 0x0080 ≤ r ∧ r < 0x00C0 then
        (List.range 4).map (fun j => ((⟨r, 8 * j, 3⟩ : Fld), (s.owner (BitVec.ofNat 8 (4 * (r - 0x80) + j))).code))
      else []
  | _ => []

/-- Lay a field's value over a word. -/
def layField (w : Nat) (f : Fld × Nat) : Nat :=
  let m := 2 ^ f.1.w
  w - w / 2 ^ f.1.lo % m * 2 ^ f.1.lo + f.2 % m * 2 ^ f.1.lo

/-- R8-R10: the live value of a register: 0 in WO and reserved bits and at undefined numbers. -/
def Dev.readReg (s : Dev) (r : Nat) : Word :=
  BitVec.ofNat 32 ((s.liveFields r).foldl layField (s.stored r).toNat)

/-! ### Resources (R290, R653) -/

/-- The resource a register belongs to; none for one that belongs to none (R588), the door blocks and OWN. -/
def Dev.resource (s : Dev) (r : Nat) : Option (BitVec 8) :=
  let l := locate r
  let res (b i : Nat) : Option (BitVec 8) := some (BitVec.ofNat 8 (b + i))
  match l.block with
  | .rail => res 0x00 l.idx
  | .sc => res 0x30 l.idx
  | .ph => if h : l.idx < 24 then (s.ctlOf ⟨l.idx, h⟩).map (fun n => BitVec.ofNat 8 (0x30 + n.val)) else none
  | .teller => res 0x38 l.idx
  | .cv => res 0x40 l.idx
  | .cap => res 0x40 l.idx
  | .md => res 0x50 l.idx
  | .sh => res 0x60 l.idx
  | .rsto => res 0x70 l.idx
  | .ag => res 0x7D 0
  | .mask => res 0x7E 0
  | .door => none
  | .fixed =>
    match r with
    | 0x0005 | 0x0006 | 0x0007 | 0x0008 => res 0x7B 0
    | 0x0040 | 0x0041 | 0x0042 | 0x0043 => res 0x7F 0
    | 0x00D0 | 0x00D1 => res 0x7B 0
    | 0x0103 | 0x0104 | 0x0105 | 0x0106 | 0x0107 => res 0x7C 0
    | 0x0208 | 0x0209 | 0x020A | 0x0210 | 0x0228 | 0x0229 | 0x0251 => res 0x7D 0
    | 0x1A01 => res 0x78 0
    | 0x1A03 => res 0x79 0
    | 0x1A06 => res 0x7A 0
    | 0x1A07 => res 0x7A 0
    | 0x1B01 | 0x1B02 | 0x1B03 | 0x1B05 => res 0x7B 0
    | 0x1C20 | 0x1C22 => res 0x7A 0
    | 0x1C32 => res 0x7B 0
    | 0x1D05 | 0x1D0A => res 0x7B 0
    | 0x1E01 | 0x1E02 => res 0x7B 0
    | 0x21F0 => res 0x7B 0
    | 0x2201 | 0x2202 | 0x2203 | 0x2204 => res 0x7A 0
    | _ => none

end Sys2Proof.Machine
end

