-- ==== Sys2Proof/Machine/Windows.lean ====
section
/-! DEFINITION. Window comparators (11): thresholds, live outputs, latches and routes, the samples of WATCH, the window
test and the restoring of the test DAC; angle gates, which trigger captures as the routes do. -/

namespace Sys2Proof.Machine

/-! ### Thresholds (R413-R415) -/

/-- R414: the UV code of a threshold on a span. -/
def uvCode (th span : Nat) : Nat := min 1023 ((th * 1024 + span - 1) / span)

/-- R414: the OV code. -/
def ovCode (th span : Nat) : Nat := min 1023 (th * 1024 / span)

/-- R414, R415: convert a rail's thresholds anew. -/
def Dev.recode (s : Dev) (n : Fin 48) : Dev :=
  let span := spanOf (s.get (F.RAIL_CFG_RANGE n))
  (s.put (F.RAIL_WSTATUS_UVCODE n) (uvCode (s.get (F.RAIL_UVTH_UVTH n)) span)).put (F.RAIL_WSTATUS_OVCODE n)
    (ovCode (s.get (F.RAIL_OVTH_OVTH n)) span)

/-- R660, R662: an input of a comparator as its trims let it compare: with the factory set as it stands. -/
def Dev.trimmed (s : Dev) (n : Fin 48) (ov : Bool) (input : Int) : Int :=
  if s.trims.isEmpty then input else Config.trimmed s.trims n.val ov input

/-- R413, R414, R416: what a comparator shows at an input of `input` uV, having shown `was`: it sets beyond code x SPAN / 1024
and releases only HYS codes on the other side of it. -/
def Dev.compares (s : Dev) (n : Fin 48) (ov was : Bool) (input : Int) : Bool :=
  let level := s.trimmed n ov input
  let code : Int := s.get (if ov then F.RAIL_WSTATUS_OVCODE n else F.RAIL_WSTATUS_UVCODE n)
  let step : Int := spanOf (s.get (F.RAIL_CFG_RANGE n)) * 100
  let hys : Int := s.get (F.RAIL_WCFG_HYS n)
  if ov then (if was then decide ((code - hys) * step ≤ level * 1024) else decide (code * step < level * 1024))
  else (if was then decide (level * 1024 ≤ (code + hys) * step) else decide (level * 1024 < code * step))

/-! ### Latches and routes (R419-R423) -/

/-- One comparator's fields. -/
def latchFld (n : Fin 48) (ov : Bool) : Fld := if ov then F.RAIL_WSTATUS_OVLATCH n else F.RAIL_WSTATUS_UVLATCH n
def countFld (n : Fin 48) (ov : Bool) : Fld := if ov then F.RAIL_WCOUNT_OVCNT n else F.RAIL_WCOUNT_UVCNT n
def routeCap (n : Fin 48) (ov : Bool) : Fld := if ov then F.RAIL_WCFG_OVCAP n else F.RAIL_WCFG_UVCAP n
def routeStamp (n : Fin 48) (ov : Bool) : Fld := if ov then F.RAIL_WCFG_OVSTAMP n else F.RAIL_WCFG_UVSTAMP n
def routeWake (n : Fin 48) (ov : Bool) : Fld := if ov then F.RAIL_WCFG_OVWAKE n else F.RAIL_WCFG_UVWAKE n
def routeAlert (n : Fin 48) (ov : Bool) : Fld := if ov then F.RAIL_WCFG_OVALERT n else F.RAIL_WCFG_UVALERT n

/-- R422: take the STAMP of a routed latch, where none is held. -/
def Dev.takeStamp (s : Dev) (n : Fin 48) (ov : Bool) : Dev :=
  if s.flag (F.RAIL_WSTATUS_STAMPV n) then s
  else
    let t := s.stamp
    ((List.range 4).foldl (fun (a : Dev) j => a.put (F.RAIL_WSTAMP n j) (t.word j).toNat) s).mark
      (F.RAIL_WSTATUS_STAMPV n) |>.putB (F.RAIL_WSTATUS_STAMPSRC n) ov

/-- R422: the routes of a latch that rises. -/
def Dev.routes (s : Dev) (n : Fin 48) (ov : Bool) : Dev :=
  let s1 := if s.flag (routeCap n ov) then s.captureTrigger (.window n ov) n else s
  let s2 := if s1.flag (routeStamp n ov) then s1.takeStamp n ov else s1
  let s3 := if s2.flag (routeWake n ov) then s2.wake 1 else s2
  (List.finRange 4).foldl (fun (a : Dev) (d : Fin 4) =>
    if (a.get (routeAlert n ov)).testBit d then a.cause d cWindow else a) s3

/-- R572: a latent window test is paused in WATCH, where the comparators supervise, until the first tick after an error
has joined it (R554). -/
def Dev.testPaused (s : Dev) (w : WTest) : Bool :=
  s.eff == .watch && !w.probe &&
    !s.probing.any (fun p => !p.latent && s.ticked p && (p.path == .window w.rail || p.path == .windowPg w.rail))

/-- A comparator is under test: its live output is held (R428). -/
def Dev.underTest (s : Dev) (n : Fin 48) (ov : Bool) : Bool :=
  (s.cv (cvOf n)).wtest.any (fun w => w.rail == n && w.ov == ov && !s.testPaused w)

/-- R419: the latch may be set: OV in every state except UNUSED, UV while GOOD; not of a comparator under test (R428). -/
def Dev.mayLatch (s : Dev) (n : Fin 48) (ov : Bool) : Bool :=
  (if ov then (s.rail n).code != .unused else (s.rail n).code == .good) &&
    !s.underTest n ov

/-- The live output of a comparator. -/
def Rail.shows (r : Rail) (ov : Bool) : Bool := if ov then r.ovLive else r.uvLive

/-- R419, R422: set the latch where its live output shows the condition and it is 0. -/
def Dev.latch (s : Dev) (n : Fin 48) (ov : Bool) : Dev :=
  if (s.rail n).shows ov && s.mayLatch n ov && !s.flag (latchFld n ov) then (s.mark (latchFld n ov)).routes n ov else s

/-- R419, R425: the latches of a rail set at once where their live outputs show; in WATCH at samples only. -/
def Dev.latchNow (s : Dev) (n : Fin 48) : Dev := if s.eff = .watch then s else (s.latch n false).latch n true

/-- R419: the same of every rail: the device has left WATCH. -/
def Dev.latchAll (s : Dev) : Dev := allRails.foldl (fun (a : Dev) (n : Fin 48) => a.latchNow n) s

/-- R419, R496: count a rise of the live output. -/
def Dev.countRise (s : Dev) (n : Fin 48) (ov : Bool) : Dev :=
  if s.mayLatch n ov then
    s.countUp n (countFld n ov) (fun a => if ov then { a with ovCnt := a.ovCnt + 1 } else { a with uvCnt := a.uvCnt + 1 })
  else s

/-! ### Live outputs (R416, R418, R150) -/

/-- R150: a UV excursion of a GOOD rail that ends before UVFILT is counted. -/
def Dev.uvEnds (s : Dev) (n : Fin 48) : Dev :=
  let r := s.rail n
  let short := r.uvAt.any (fun t => decide (s.now < t + s.get (F.RAIL_FILT_UVFILT n) * 100))
  let s1 := s.setRail n { r with uvLive := false, uvAt := none }
  let s2 := if short && r.code == .good then
      s1.countUp n (F.RAIL_COUNT_UVSHORT n) (fun a => { a with uvShort := a.uvShort + 1 })
    else s1
  s2.checkPresent n

/-- A comparator's live output changes to `shows` (R418); the filters of R147 count from here. On the way out of WATCH a latch that
the output it leaves has yet to set is set first (R419; log entry 18). -/
def Dev.liveTo (s00 : Dev) (n : Fin 48) (ov shows : Bool) : Dev :=
  let s0 := if s00.watchExit then s00.latchNow n else s00
  let s := s0.aroundGood n (fun a => a.setRail n (if ov then { a.rail n with ovLive := shows } else { a.rail n with uvLive := shows }))
  let r := s.rail n
  match ov, shows with
  | true, true => (((s.setRail n { r with ovLive := true, ovAt := some s.now }).ovStops n).countRise n true).latch n true
  | true, false => s.setRail n { r with ovLive := false, ovAt := none }
  | false, true => ((s.setRail n { r with uvLive := true, uvAt := some s.now }).countRise n false).latch n false
  | false, false => s.uvEnds n

/-- COMPARATOR_CROSSING (R413-R418, R428): the input of a comparator stands at `level` uV, and its live output follows. In WATCH
the samples decide instead (R424). -/
def comparatorCrossing (ts : Nat) (n : Fin 48) (ov : Bool) (level : Int) (s : Dev) : Dev :=
  let s := s.advance ts
  let was := (s.rail n).shows ov
  let shows := s.compares n ov was level
  if s.live ∧ s.eff ≠ .watch ∧ was ≠ shows ∧ ¬ s.underTest n ov then s.liveTo n ov shows else s

/-- R424, R425, R428: one rail's sample: OV at the first sample that shows it, UV at the second of two in a row. A comparator
under test keeps its live output and decides nothing. -/
def Dev.sampleRail (s : Dev) (n : Fin 48) (level : Int) : Dev :=
  let r := s.rail n
  let uvHeld := s.underTest n false
  let ovHeld := s.underTest n true
  let uv := if uvHeld then r.uvLive else s.compares n false r.uvLive level
  let ov := if ovHeld then r.ovLive else s.compares n true r.ovLive level
  let rises (o shows : Bool) (a : Dev) : Dev :=
    if shows && !(r.shows o) then a.countRise n o else a
  let s1 := s.aroundGood n (fun a => a.setRail n { a.rail n with
    uvLive := uv
    ovLive := ov
    uvSeen := if uvHeld then r.uvSeen else uv
    uvAt := none
    ovAt := if ovHeld then r.ovAt else none })
  let s2 := ((rises false uv s1).latch n false)
  let s3 := ((rises true ov (if ov && !r.ovLive then s2.ovStops n else s2)).latch n true).checkPresent n
  let s4 := if ov && !ovHeld && (!r.ovLive || r.ovAt.isSome) then s3.ov n (.window n) else s3
  if uv && !uvHeld && r.uvSeen && (s4.rail n).code == .good then
    s4.railFault n 0x0302 2 (s4.get (F.RAIL_REACT_UV n)) (F.RAIL_EVENT_UV n) (.window n)
  else s4

/-- WINDOW_SAMPLE (R424, R425): in WATCH, 2.0 us after a close, every comparator's output is taken once; `levels` are the inputs
of L00 to L47 in uV. -/
def windowSample (ts : Nat) (levels : List Int) (s : Dev) : Dev :=
  let s := s.advance ts
  if s.live ∧ s.mainAlive ∧ s.eff = .watch ∧ ¬ s.sampled ∧ s.elapsed s.closeAt 2000 then
    allRails.foldl (fun (a : Dev) (n : Fin 48) => a.sampleRail n (levels.getD n.val 0)) { s with sampled := true }
  else s

/-! ### The window test (R426-R430) -/

/-- The threshold code of a comparator. -/
def Dev.thCode (s : Dev) (n : Fin 48) (ov : Bool) : Nat :=
  s.get (if ov then F.RAIL_WSTATUS_OVCODE n else F.RAIL_WSTATUS_UVCODE n)

/-- R427: step 1 is skipped: the last result lies within 8 codes of the threshold, or is not VALID. -/
def Dev.swapSkipped (s : Dev) (n : Fin 48) (ov : Bool) : Bool :=
  let span : Int := spanOf (s.get (F.RAIL_CFG_RANGE n))
  let v : Int := s.get (F.RAIL_MEAS_V n)
  let c : Int := s.thCode n ov
  !s.flag (F.RAIL_MEAS_VALID n) || decide ((v * 1024 - c * span).natAbs ≤ (8 * span).toNat)

/-- R427: whether a step is skipped; step 2 needs a code above the threshold, step 3 one below. -/
def Dev.stepSkipped (s : Dev) (n : Fin 48) (ov : Bool) (step : Nat) : Bool :=
  match step with
  | 1 => s.swapSkipped n ov
  | 2 => decide (1023 ≤ s.thCode n ov)
  | 3 => decide (s.thCode n ov = 0)
  | _ => false

/-- The first step at or after `step` that is not skipped (step 4 never is). -/
def Dev.stepFrom (s : Dev) (n : Fin 48) (ov : Bool) (step : Nat) : Nat :=
  if step ≤ 1 && !s.stepSkipped n ov 1 then 1
  else if step ≤ 2 && !s.stepSkipped n ov 2 then 2
  else if step ≤ 3 && !s.stepSkipped n ov 3 then 3
  else 4

/-- R427: begin the test of a comparator of a rail. -/
def Dev.testComparator (s : Dev) (n : Fin 48) (ov : Bool) (w : WTest) : Dev :=
  let c := cvOf n
  let s1 := if s.swapSkipped n ov then s.mark (F.RAIL_WSTATUS_SWAPSKIP n) else s
  s1.setCv c { s1.cv c with wtest := some { w with ov := ov, step := s1.stepFrom n ov 1, since := s1.now } }

/-- R426, R429: begin a window test of a rail. -/
def Dev.beginWindowTest (s : Dev) (n : Fin 48) (probe : Bool) : Dev :=
  ((s.put (F.RAIL_WSTATUS_SWAPSKIP n) 0).mark (F.RAIL_WSTATUS_TESTING n)).testComparator n false
    ⟨n, false, 1, s.now, false, false, probe⟩

/-- The length of a step in ns (R426). -/
def stepNs (step : Nat) : Nat := if step = 1 then 1000 else 4000

/-- Declare an error whose own probe runs afterwards, even where a test of the same path is under way (R570). -/
def Dev.declareApart (s : Dev) (typ obj : Nat) (arg0 arg1 : Word) (path : Path) : Dev :=
  let t := ({ s with probing := [] }).declare typ obj arg0 arg1 false (some path)
  { t with probing := s.probing ++ t.probing }

/-- R430: the test is over: a window that passed it on both comparators is no longer bad; the test DAC is restored and settles
(R429). -/
def Dev.endWindowTest (s : Dev) (c : Fin 6) (w : WTest) : Dev :=
  let s1 := s.put (F.RAIL_WSTATUS_TESTING w.rail) 0
  let s2 := if w.badUv || w.badOv then s1 else (s1.put (F.RAIL_WSTATUS_BADUV w.rail) 0).put (F.RAIL_WSTATUS_BADOV w.rail) 0
  s2.setCv c { s2.cv c with wtest := none, restore := some s2.now, wdone := some ⟨w.rail, w.badUv, w.badOv⟩ }

/-- R426: what the comparator under test must show at the end of a step: with its inputs exchanged the inverse of its held live
output; 8 codes above the threshold OV and not UV; 8 codes below it, and at ground, UV and not OV. -/
def Dev.mustShow (s : Dev) (w : WTest) : Bool :=
  match w.step with
  | 1 => !(s.rail w.rail).shows w.ov
  | 2 => w.ov
  | _ => !w.ov

/-- The path of the probe that tests the rail's window, which a WIN_TEST of that test joins (R550). -/
def Dev.windowPath (s : Dev) (n : Fin 48) : Path :=
  ((s.probing.map (·.path)).find? (fun p => s.serves p (.window n))).getD (.window n)

/-- R430: the error WIN_TEST of a failed step. In a latent test its own probe follows; in a probe it shares the verdict. DESIGN
CHOICE (log entry 41): it is no rail fault of R147, so it is declared for an UNUSED rail too (R130). -/
def Dev.winTest (s : Dev) (w : WTest) : Dev :=
  let n := w.rail
  let arg0 := BitVec.ofNat 32 ((if w.ov then 1 else 0) + 16 * w.step)
  let arg1 := s.readReg (0x41B + 0x40 * n.val)
  if w.probe then s.declare 0x0504 n arg0 arg1 false (some (s.windowPath n))
  else s.declareApart 0x0504 n arg0 arg1 (.window n)

/-- WINDOW_TEST_STEP (R426, R419, R430): the step of the window test that runs on the rail ends; `shows`: what the comparator under
test shows. A failed step is the error WIN_TEST. A comparator whose test is over may latch at once. -/
def windowTestStep (ts : Nat) (n : Fin 48) (shows : Bool) (s : Dev) : Dev :=
  let s := s.advance ts
  let c := cvOf n
  match (s.cv c).wtest with
  | some w =>
    if w.rail = n ∧ s.mainAlive ∧ ¬ s.testPaused w ∧ s.elapsed w.since (stepNs w.step) then
      let ok := shows == s.mustShow w
      let w1 := { w with badUv := w.badUv || (!ok && !w.ov), badOv := w.badOv || (!ok && w.ov) }
      let s1 := s.setCv c { s.cv c with wtest := some w1 }
      let s2 := if ok then s1 else s1.winTest w
      if w.step < 4 then
        s2.setCv c { s2.cv c with wtest := some { w1 with step := s2.stepFrom n w.ov (w.step + 1), since := s2.now } }
      else if w.ov then (s2.endWindowTest c w1).latchNow n
      else (s2.testComparator n true w1).latchNow n
    else s
  | none => s

/-- TDAC_RESTORE_SETTLED (R429, R403): 5 us after the code is restored the test DAC is free. -/
def tdacRestoreSettled (ts : Nat) (c : Fin 6) (s : Dev) : Dev :=
  let s := s.advance ts
  match (s.cv c).restore with
  | some t => if s.elapsed t 5000 then s.setCv c { s.cv c with restore := none } else s
  | none => s

/-! ### Angle gates (R112-R117) -/

/-- R253: the waits for this gate end at their tellers' next slots. -/
def Dev.gateWaits (s : Dev) (g : Fin 16) : Dev :=
  (List.finRange 8).foldl (fun (a : Dev) (k : Fin 8) =>
    match (a.teller k).wait with
    | some (.wang g' _ dl) => if g' = g then a.setTeller k { a.teller k with wait := some (.wang g' true dl) } else a
    | _ => a) s

/-- R113, R116: a gate fires: FIRED, or OVR over a FIRED that stands; ONCE disables it; `rail` is the rail whose capture
it starts. -/
def Dev.fireGate (s : Dev) (g : Fin 16) (rail : Option (Fin 48)) : Dev :=
  if s.flag (F.AG_EN g) then
    let s1 := if (s.get F.AG_FIRED_FIRED).testBit g then s.setBit F.AG_OVR_OVR g else s.setBit F.AG_FIRED_FIRED g
    let s2 := if s1.flag (F.AG_ONCE g) then s1.put (F.AG_EN g) 0 else s1
    let s3 := s2.gateWaits g
    match rail with
    | some n => s3.captureTrigger (.gate g) n
    | none => s3
  else s

/-- ANGLE_GATE_FIRE (R113-R117): the comparison of this TCLK cycle, and every gate whose target was crossed since the last
fires. `routes` names the gates routed to a capture, with the rail: the spec names no register that holds this route
(log entry 22). -/
def angleGateFire (ts : Nat) (routes : List (Fin 16 × Fin 48)) (s : Dev) : Dev :=
  let s := (s.advance ts).gateSettle
  if s.live ∧ s.mainAlive ∧ s.eff ≠ .watch then
    s.tal.gateDue.foldl (fun (a : Dev) (g : Fin 16) =>
      a.fireGate g ((routes.find? (fun r => r.1 == g)).map (·.2))) { s with tal := { s.tal with gateDue := [] } }
  else s

end Sys2Proof.Machine
end

