-- ==== Sys2Proof/Machine/Probes.lean ====
section
/-! DEFINITION. Errors, probes and verdicts (15): the start and end of probes, the consequences of a LASTING verdict, the
latent tests, and the checks between the regions. -/

namespace Sys2Proof.Machine

/-! ### Boot failure and loss of the main region -/

/-- R80, R364, R24: enter BOOT-FAIL with its cause: FLT_N is held low, no probe runs on. -/
def Dev.enterBootFail (s : Dev) (cause : Nat) : Dev :=
  let s1 := ((s.setDev .bootFail).put F.SYS_STATE_FAILCAUSE cause).driveFlt .bootFail
  { s1 with
    owners := Vector.replicate 256 .none
    probes := []
    probing := [] }

/-- R462: where the main region cannot act, every controller's phases go to mid-level. -/
def Dev.controllersIdle (s : Dev) : Dev :=
  (List.finRange 8).foldl (fun (a : Dev) (n : Fin 8) => if a.scOp n = 0 then a else a.setOp n scIdle) s

/-! ### Starting probes (R549-R554) -/

/-- The converter whose test DAC a path's probe takes (R551). -/
def dacOf : Path → Option (Fin 6)
  | .window n => some (cvOf n)
  | .windowPg n => some (cvOf n)
  | .conv c => some c
  | .selftest 0 n => some (cvOf (Fin.ofNat 48 n))
  | .selftest 1 c => some (Fin.ofNat 6 c)
  | _ => none

/-- The rail whose windows a path's probe tests. -/
def windowOf : Path → Option (Fin 48)
  | .window n => some n
  | .windowPg n => some n
  | .selftest 0 n => some (Fin.ofNat 48 n)
  | _ => none

/-- The converter that a path's probe tests. -/
def convOf : Path → Option (Fin 6)
  | .conv c => some c
  | .selftest 1 c => some (Fin.ofNat 6 c)
  | _ => none

/-- A probe of the converter itself runs on it. -/
def Dev.convProbed (s : Dev) (c : Fin 6) : Bool := s.probing.any (fun p => convOf p.path == some c)

/-- R551: the test DAC of a converter is free. -/
def Dev.dacFree (s : Dev) (c : Fin 6) : Bool :=
  (s.cv c).wtest.isNone && (s.cv c).restore.isNone && !s.convProbed c

/-- SAFE.PROBE: the kind and object of a path. Die sensors and NTCs, which the field map does not name, show as kind 7,
object 0; a memory word's object is 0 (log entry 23). -/
def probeKind : Path → Nat × Nat
  | .sense n => (0, n.val)
  | .window n => (1, n.val)
  | .windowPg n => (1, n.val)
  | .selftest 0 n => (1, n)
  | .conv c => (2, c.val)
  | .selftest 1 c => (2, c)
  | .isns p => (3, p.val)
  | .sc n => (3, n.val)
  | .tsns p => (4, p.val)
  | .iword _ => (5, 0)
  | .dword _ => (5, 0)
  | .lword _ => (5, 0)
  | .tally => (6, 0)
  | .pin code => (7, code)
  | _ => (7, 0)

/-- The region that runs a probe is up, the vault for its own and the main region for the others, and so is the main region's
supply, since that region writes the verdict (R547, R561). -/
def Dev.probeAlive (s : Dev) : Path → Bool
  | .clock | .reference | .table | .pin 0x49 | .monitor 0x0A12 => !s.vault.mainHeld && !s.flag F.SAFE_STATUS_VAULTLOST
  | .monitor _ => !s.vault.mainHeld
  | _ => s.mainAlive

/-- R553: probes run from boot step 6 until the device leaves HOLD-UP. -/
def Dev.probesRun (s : Dev) : Bool := s.live || (s.dev == .boot && decide (6 ≤ s.get F.SYS_STATE_BOOTSTEP))

/-- R547, R478, R554: the probe of this path gives INCONCLUSIVE without running. -/
def Dev.cannotProbe (s : Dev) : Path → Bool
  | .sense n =>
    let v := (s.rail n).result.getD 0
    s.eff == .watch || (decide (5000 ≤ v) && (s.rail n).out != .on) ||
      (decide (v < s.get (F.RAIL_VOFF_VOFF n)) && (s.rail n).out == .on)
  | .isns p => s.drive p != 1
  | .sc n => (s.phasesOf n).any (fun p => s.drive p != 1)
  | .tally => s.tst != tLost
  | _ => false

/-- R551, R554: a waiting probe may start: its path carries none, its test DAC is free and no earlier error waits for
that DAC; in WATCH a tick has passed since its decision. -/
def Dev.mayProbe (s : Dev) (p : Probe) : Bool :=
  let free := match dacOf p.path with
    | some c => s.dacFree c && ((s.probes.find? (fun q => dacOf q.path == some c)).map (·.path)) == some p.path
    | none => true
  let wire := match p.path with
    | .sense n => (s.cv (cvOf n)).wire.isNone || s.eff == .watch
    | _ => true
  free && wire && s.ticked p && !s.probing.any (fun q => s.shares q.path p.path)

/-- R547: what the start of a probe does to the device. -/
def Dev.beginProbe (s : Dev) (p : Path) : Dev :=
  match windowOf p, convOf p with
  | some n, _ =>
    let c := cvOf n
    (s.setCv c { s.cv c with wdone := none }).beginWindowTest n true
  | none, some c =>
    let x := s.cv c
    s.setCv c { x with pstep := 0, pbad := 0, pAt := s.now, own := x.own ++ [.probe 8] }
  | none, none =>
    match p with
    | .sense n => s.wireStart (cvOf n) (chOf n) true
    | .dieSensors => (List.finRange 6).foldl (fun (a : Dev) (c : Fin 6) =>
        a.setCv c { a.cv c with dieT := none, own := (a.cv c).own ++ [.probe 11] }) s
    | _ => s

/-- The entry of the path that waits longest. -/
def Dev.waiting (s : Dev) (path : Path) : Option Probe := s.probes.find? (fun p => p.path == path)

/-! ### Verdicts (R544, R548, R550, R265, R266) -/

/-- R265: the verdict reaches the PROBE instruction that waits for it. -/
def Dev.tellVerdict (s : Dev) (k : Fin 8) (path : Path) (v : Verdict) : Dev :=
  let t := s.teller k
  match t.wait with
  | some (.probe rd q) =>
    if q = path then s.setTeller k ({ (t.xw rd (BitVec.ofNat 32 v.code)) with z := v == Verdict.transient }.endWait s.now) else s
  | _ => s

/-- The verdict of one error or PROBE. A PROBE that joined an error's probe has no record of its own (R265); a latent test has
none. -/
def Dev.giveVerdict (s : Dev) (v : Verdict) (p : Probe) : Dev :=
  if p.latent then s
  else
    let s1 := if p.joined then s else s.verdictRec p.typ p.obj p.recNo p.cls v
    let s2 := s1.folioVerdict p.folio v
    match p.teller with
    | some k => s2.tellVerdict k p.path v
    | none => s2

/-- The verdict of every entry of a list. -/
def Dev.giveAll (s : Dev) (ps : List Probe) (v : Verdict) : Dev := ps.foldl (fun a p => a.giveVerdict v p) s

/-- SAFE.PROBE as the probe of a path begins. -/
def Dev.probeShown (s : Dev) (path : Path) : Dev :=
  ((s.put F.SAFE_PROBE_KIND (probeKind path).1).put F.SAFE_PROBE_OBJ (probeKind path).2).mark F.SAFE_PROBE_RUNNING

/-- R547-R554: the waiting probe of a path starts, and every error that waits on the path joins it; or its verdict is INCONCLUSIVE
at once, also where the region that would run it does not work (R548). -/
def Dev.probeBegins (s : Dev) (path : Path) : Dev :=
  match s.waiting path with
  | some p =>
    let mine := s.probes.filter (fun q => q.path == path)
    let s1 := { s with probes := s.probes.filter (fun q => q.path != path) }
    if s.probesRun ∧ ¬ s.probeAlive path then s1.giveAll mine .inconclusive
    else if s.probesRun ∧ s.mayProbe p then
      if s.cannotProbe path then s1.giveAll mine .inconclusive
      else ({ s1 with probing := s1.probing ++ mine }.probeShown path).beginProbe path
    else s
  | none => s

/-- PROBE_START (R547-R554); an INCONCLUSIVE verdict of the folio's fault is written (R520). -/
def probeStart (ts : Nat) (path : Path) (s : State) : State :=
  ((s.advance ts).lift (fun c => c.probeBegins path)).writeVerdict

/-! ### Consequences of a LASTING verdict (R555, R556, R565) -/

/-- R555: a rail whose supervision has been lost: LOSS_REACT, and, where its output is on or it is ARMED, the code as the DROP
column. The record is written for an UNUSED rail too: R130 speaks of faults and events, and the example names all eight rails
of a converter (log entry 23). -/
def Dev.lossReact (s : Dev) (loss code : Nat) (n : Fin 48) : Dev :=
  let r := s.rail n
  let a := if r.out = .on ∨ r.code = .armed then React.of true code else .note
  let arg0 := BitVec.ofNat 32 loss
  let arg1 := BitVec.ofNat 32 code
  let dang := a == .dangerous
  let takes := dang && s.folioTakes 0x0A19 n true
  s.watchGood n (fun s =>
    let s1 := if dang then s.intoFolio 0x0A19 n true arg0 arg1 else s
    let s2 := s1.journal 0x0A19 n arg0 arg1 takes false
    let s3 := if dang then (s2.dangerous 0x0A19).folioVerdict takes .inconclusive else s2
    if a = .note then s3 else s3.enterFaulted n 9 a)

/-- R556: a rail in use has neither OV path (R130). -/
def Dev.noOvPath (s : Dev) (n : Fin 48) : Bool :=
  s.flag (F.RAIL_WSTATUS_BADOV n) && s.invalid (cvOf n) && (s.rail n).code != .unused

/-- R556: LOST_OV on every rail whose pair a LASTING verdict completes; `was` is the device before the verdict. The refusal of
ONs stands until BOOT; a pair that was broken since and is completed anew is declared anew. -/
def Dev.lostOvAll (s was : Dev) : Dev :=
  allRails.foldl (fun (a : Dev) (n : Fin 48) =>
    if a.noOvPath n && (!(a.rail n).lostOv || !was.noOvPath n) then
      ((a.setRail n { a.rail n with lostOv := true }).mark F.SAFE_EVENT_LOST_OV).declare 0x0A18 n
        (a.readReg (0x41B + 0x40 * n.val)) (a.readReg (0x1502 + 0x80 * (cvOf n).val)) true none
    else a) s

/-- R555, R430: the marks of a window that fails its probe. -/
def Dev.windowLost (s : Dev) (n : Fin 48) (w : WDone) : Dev :=
  let s1 := if w.badUv then s.mark (F.RAIL_WSTATUS_BADUV n) else s
  if w.badOv then s1.mark (F.RAIL_WSTATUS_BADOV n) else s1

/-- The window is marked lost. -/
def Dev.windowBad (s : Dev) (n : Fin 48) : Bool := s.flag (F.RAIL_WSTATUS_BADUV n) || s.flag (F.RAIL_WSTATUS_BADOV n)

/-- R378: the words of a converter's channels, of every register, that the device no longer stands behind. -/
def Dev.disown (s : Dev) (c : Fin 6) : Dev :=
  let s1 := (List.finRange 8).foldl (fun (a : Dev) (k : Fin 8) => a.put (F.RAIL_MEAS_VALID (railOf c k)) 0) s
  ((List.range 5).foldl (fun (a : Dev) i => a.clrBit (F.CV_DIAGRES c i) 31) s1).clrBit (F.CV_INJRES_WORD c) 31

/-- R555, R402: the marks of a converter that fails its probe. -/
def Dev.convLost (s : Dev) (c : Fin 6) : Dev := (s.mark (F.CV_STATUS_INVALID c)).disown c

/-- R555: the mark of a sense path that fails its probe. -/
def Dev.senseLoses (s : Dev) (n : Fin 48) : Dev := s.setRail n { s.rail n with senseLost := true }

/-- R564, R334: the die sensors that fail their probe are taken as failed; `bad` is their mask. -/
def Dev.dieFailed (s : Dev) (bad : Nat) : Dev :=
  (List.range 4).foldl (fun (a : Dev) i => if bad.testBit i then (a.mark (F.THERM_SENSOR_FAIL i)).substitute i else a) s

/-- R565: the power-entry monitor is lost: MONLOST, and the sag governor holds level 1 or higher. -/
def Dev.monLoses (s : Dev) : Dev :=
  let s1 := s.mark F.SAFE_STATUS_MONLOST
  if s1.sag = 0 then (((s1.setSag 1).mark F.PWR_EVENT_SAG1).journal 0x0106 0 1 4).chgRun else s1

/-- R555: what a LASTING verdict of a path marks. -/
def Dev.lostMarks (s : Dev) (path : Path) (bad : Nat) : Dev :=
  match path with
  | .sense n => s.senseLoses n
  | .dieSensors => s.dieFailed bad
  | .monLevel => s.monLoses
  | _ =>
    match windowOf path, convOf path with
    | some n, _ => (match (s.cv (cvOf n)).wdone with | some w => s.windowLost n w | none => s)
    | none, some c => s.convLost c
    | none, none => s

/-- R555: the codes that a LASTING verdict applies where it is the first to mark its path; `was` is the device before it. -/
def Dev.lostReacts (s was : Dev) (path : Path) : Dev :=
  match windowOf path, convOf path with
  | some n, _ => if !was.windowBad n && s.windowBad n then s.lossReact 0 (s.get F.SAFE_CFG_WINLOST) n else s
  | none, some c =>
    if was.invalid c then s
    else (List.finRange 8).foldl (fun (a : Dev) (k : Fin 8) => a.lossReact 1 (a.get F.SAFE_CFG_CONVLOST) (railOf c k)) s
  | none, none =>
    match path with
    | .sense n => if (was.rail n).senseLost then s else s.lossReact 2 (s.get F.SAFE_CFG_SENSELOST) n
    | _ => s

/-- R555, R556: what a LASTING verdict of a path does; of one verdict LOST_OV, the lower KIND, is declared before LOSS_REACT
(R513). -/
def Dev.lasting (s : Dev) (path : Path) (bad : Nat) : Dev := ((s.lostMarks path bad).lostOvAll s).lostReacts s path

/-- R565: a CONV_PLAUS of channel 12 that was TRANSIENT: the power-entry monitor is in doubt. -/
def Dev.monPlaus (s : Dev) (c : Fin 6) : Dev :=
  let vin := decide (c.val = 5)
  (s.mark F.SAFE_EVENT_MON_PLAUS).declare 0x0A16 (if vin then 0 else 1)
    (s.stored (if vin then 0x100 else 0x101)) (BitVec.ofNat 32 (s.get (F.CV_DIAGRES c 4)))
    false (some .monLevel)

/-! ### Latent tests (R570-R572) -/

/-- The time between two tests of a kind, ns (R570). -/
def Dev.latEvery (s : Dev) : LatKind → Nat
  | .window => s.get F.SAFE_CFG_LATWIN * 60000000000 / 48
  | .converter => s.get F.SAFE_CFG_LATCONV * 60000000000 / 6
  | .phase => s.get F.SAFE_CFG_LATCONV * 60000000000 / 24
  | .flt => s.get F.SAFE_CFG_LATFLT * 60000000000

/-- A latent test of a kind is over: the next becomes due, and the round moves on. -/
def Dev.latentDone (s : Dev) (k : LatKind) : Dev :=
  let l := s.lat
  let i := k.idx
  let s1 := { s with lat := { l with
    going := l.going.set i.val false i.isLt
    late := l.late.set i.val false i.isLt
    due := l.due.set i.val (l.due.get i + s.latEvery k) i.isLt } }
  let s2 := s1.putB F.SAFE_STATUS_LATE (s1.lat.late.toList.any id)
  match k with
  | .window =>
    let n := s2.get F.SAFE_LATSTAT_NEXTRAIL
    if n = 47 then (s2.put F.SAFE_LATSTAT_NEXTRAIL 0).roll F.SAFE_LATSTAT_WROUNDS else s2.put F.SAFE_LATSTAT_NEXTRAIL (n + 1)
  | .converter =>
    let s3 := { s2 with lat := { s2.lat with nextConv := s2.lat.nextConv + 1 } }
    if s2.lat.nextConv.val = 5 then s3.roll F.SAFE_LATSTAT_CROUNDS else s3
  | .phase => { s2 with lat := { s2.lat with nextPhase := s2.lat.nextPhase + 1 } }
  | .flt => s2

/-- PIN_TEST (R570): a pin path fails its latent test (`kind` 0) or the FLT_N pulse (1). -/
def Dev.pinTest (s : Dev) (code kind : Nat) : Dev :=
  (s.mark F.SAFE_EVENT_PIN_TEST).declareApart 0x0A1D code (BitVec.ofNat 32 kind) 0 (.pin code)

/-- R570: what a failed latent test declares. `bad` bit 0: the EN pin path of a window test, or the phase's report; bit
1: its PG input. A window's own failed steps were declared as they ended. -/
def Dev.latentResult (s : Dev) (path : Path) (bad : Nat) : Dev :=
  match path with
  | .window n => if bad.testBit 0 && !isCtl n then s.pinTest n 0 else s
  | .windowPg n =>
    let s1 := if bad.testBit 0 && !isCtl n then s.pinTest n 0 else s
    if bad.testBit 1 then s1.pinTest (0x80 + n.val) 0 else s1
  | .conv c =>
    let i := (s.cv c).pbad
    if i = 0 then s
    else
      let ch := partChannel i
      (s.mark (F.CV_EVENT_PLAUS c)).declareApart 0x0502 c (BitVec.ofNat 32 ch)
        (BitVec.ofNat 32 (s.get (F.CV_DIAGRES c (ch - 8)))) (.conv c)
  | .tsns p =>
    match s.ctlOf p with
    | some n =>
      if bad = 0 ∨ s.flag (F.PH_TMEAS_FAIL p) then s
      else
        ((s.mark (F.PH_TMEAS_FAIL p)).ctlDeclare n 0x0408 (some p) false (some (.tsns p)) (F.SC_EVENT_TSNS_FAIL n)
          (some (F.PH_EVENT_TSNS_FAIL p))).substitute (p.val + 8)
    | none => s
  | .isns p =>
    match s.ctlOf p with
    | some n =>
      if bad = 0 ∨ s.flag (F.PH_STATUS_EXCL p) then s
      else s.loseP n p 0x0407 (F.SC_EVENT_ISNS_FAIL n) (F.PH_EVENT_ISNS_FAIL p)
    | none => s
  | _ => s

/-- The kind of latent test that a path's test belongs to. -/
def latKindOf : Path → LatKind
  | .conv _ => .converter
  | .tsns _ => .phase
  | .isns _ => .phase
  | _ => .window

/-! ### Ending probes -/

/-- The probe's own parts are over, the restoring of the test DAC included (R429). -/
def Dev.probeOver (s : Dev) (path : Path) : Bool :=
  match windowOf path, convOf path with
  | some n, _ =>
    let x := s.cv (cvOf n)
    x.restore.isNone && x.wdone.any (fun w => w.rail == n)
  | none, some c => decide (5 ≤ (s.cv c).pstep) && (s.cv c).restore.isNone
  | none, none =>
    match path with
    | .sense n => (s.cv (cvOf n)).wire.isNone
    | .dieSensors => (List.finRange 6).all (fun c => (s.cv c).dieT.isSome)
    | _ => true

/-- How many readings the end of a path's probe brings (R547, R478). -/
def Dev.foundLen (s : Dev) : Path → Nat
  | .isns _ | .ntc _ => 1
  | .tsns _ => 2
  | .sc n => (s.phasesOf n).length
  | .clock => 10
  | .reference | .monLevel => 8
  | _ => 0

/-- R478: the current report of a phase moves by 50 uA x RIS within 25 %; `uv` is by how much, in uV. RIS counts 10 ohms. -/
def Dev.isnsMoves (s : Dev) (p : Fin 24) (uv : Int) : Bool :=
  let want : Int := 500 * s.get (F.PH_ICFG_RIS p)
  decide ((uv - want).natAbs * 4 ≤ want.natAbs)

/-- R547, R478: the readings of a probe lie within its limits: the movement of a current report or of each of a controller's, the
movement (uV) and the reading (0.1 C) of a TSNS input, the NTC's reading, the clock's counts, the comparisons with a reference or
the monitor's check level (0.01 %). -/
def Dev.foundOk (s : Dev) (path : Path) (found : List Int) : Bool :=
  match path with
  | .isns p => found.all (s.isnsMoves p)
  | .sc n => ((s.phasesOf n).zip found).all (fun q => s.isnsMoves q.1 q.2)
  | .tsns _ => decide ((found.getD 0 0).natAbs < 20000) && decide (-550 ≤ found.getD 1 0) && decide (found.getD 1 0 ≤ 2000)
  | .ntc _ => found.all (fun t => decide ((t - 250).natAbs ≤ 20))
  | .clock => found.all (fun n => decide (243 ≤ n) && decide (n ≤ 257))
  | .reference => found.all (fun d => decide (d.natAbs ≤ 150))
  | .monLevel => found.all (fun d => decide (d.natAbs ≤ 100))
  | _ => true

/-- R547: the mask of the valid die sensors that lie beyond 15.0 C of the mean of the six channel 11 results of their probe. -/
def Dev.dieBad (s : Dev) : Nat :=
  let sum := (List.finRange 6).foldl (fun (a : Int) (c : Fin 6) => a + (s.cv c).dieT.getD 0) 0
  bits ((List.range 4).map (fun i =>
    !s.flag (F.THERM_SENSOR_FAIL i) && !s.flag (F.THERM_SENSOR_SUBST i) &&
      decide (900 < (6 * signed 16 (s.get (F.THERM_SENSOR_T i)) - sum).natAbs)))

/-- The failed parts of a probe. Its readings alone decide where the rules give limits for them; `bad` names the failed parts of what
the model does not judge, such as a read-back, a PG input's levels or the feedback monitor, for whose agreement R478 states no
limit (log entry 23). -/
def Dev.probeBad (s : Dev) (path : Path) (bad : Nat) (found : List Int) : Nat :=
  match path with
  | .dieSensors => s.dieBad
  | .sc _ => if s.foundOk path found then bad else bad ||| 1
  | _ => if s.foundLen path = 0 then bad else if s.foundOk path found then 0 else 1

/-- R547, R548: the verdict of a probe that ran; `bad` names its failed parts. -/
def Dev.verdictOf (s : Dev) (path : Path) (bad : Nat) : Verdict :=
  let pass : Bool := match windowOf path, convOf path with
    | some n, _ => decide (bad = 0) && (s.cv (cvOf n)).wdone.all (fun w => !w.badUv && !w.badOv)
    | none, some c => decide (bad = 0) && decide ((s.cv c).pbad = 0)
    | none, none =>
      match path with
      | .sense n => !s.flag (F.CV_OWRES_OPEN_P (cvOf n)) && !s.flag (F.CV_OWRES_OPEN_N (cvOf n))
      | _ => decide (bad = 0)
  match path with
  | .sense n => if s.flag (F.CV_OWRES_ABORTED (cvOf n)) then .inconclusive else if pass then .transient else .lasting
  | _ => if pass then .transient else .lasting

/-- R80: an error of boot steps 6 and 7. -/
def bootError (p : Probe) : Bool := p.typ == 0x0501 || p.typ == 0x0A1C

/-- What follows the verdicts of a path: the loss reactions, the doubt of R565, the latent test, a failed boot. A latent test that no
error joined has no verdict: it declares its error, whose own probe decides (R570, R555). -/
def Dev.afterVerdict (s : Dev) (path : Path) (mine : List Probe) (v : Verdict) (bad : Nat) : Dev :=
  let s1 : Dev := if v = Verdict.lasting ∧ ¬ mine.all (·.latent) then s.lasting path bad else s
  let s2 := match path with
    | .conv c =>
      let x := s1.cv c
      let s' := s1.setCv c { x with plaus12 := false }
      if x.plaus12 && v == Verdict.transient && mine.any (fun p => p.typ == 0x0502) then s'.monPlaus c else s'
    | _ => s1
  let s3 := if mine.any (·.latent) then
      let a := s2.latentResult path bad
      if a.probing.any (fun p => p.latent && latKindOf p.path == latKindOf path) then a else a.latentDone (latKindOf path)
    else s2
  if v = Verdict.lasting ∧ s3.dev = DevState.boot ∧ mine.any bootError then s3.enterBootFail 3 else s3

/-- PROBE_END (R544, R548, R550, R555, R556, R565, R570): the running probe of a path ends, every joined error receives
the verdict, and its consequences follow. A path to the word under test is left as its procedure leaves it. -/
def Dev.probeEnd (s : Dev) (path : Path) (bad : Nat) : Dev :=
  let mine := s.probing.filter (fun q => q.path == path)
  let v := s.verdictOf path bad
  let s1 := { s with probing := s.probing.filter (fun q => q.path != path) }
  let s2 := ((s1.put F.SAFE_PROBE_VERDICT v.code).roll F.SAFE_PROBE_SEQ).putB F.SAFE_PROBE_RUNNING (!s1.probing.isEmpty)
  (s2.giveAll mine v).afterVerdict path mine v bad

/-- R547: the word a memory probe writes: set to 0, or for instruction RAM rewritten from the loaded bank, which it
equals (R297); a word that passes is sound again, as is one that the repeat of the scrub reads without error (R557). -/
def State.probedWord (s : State) (path : Path) (pass : Bool) : State :=
  match path with
  | .selftest 3 a => if pass then s.lift (fun c => { c with ledgBad := c.ledgBad.filter (fun w => w != a / 8 * 8) }) else s
  | .iword a => if pass then s.lift (fun c => { c with iramBad := c.iramBad.filter (fun w => w != a) }) else s
  | .dword a =>
    let t := { s with dram := ssetRun (fun _ => 0) s.dram (4 * a) [0, 0, 0, 0] }
    if pass then t.lift (fun c => { c with dramBad := c.dramBad.filter (fun w => w != a) }) else t
  | .lword a =>
    if s.core.ledgerOn then
      let t := s.ledgerWrite a (List.replicate 8 0)
      if pass then t else t.lift (fun c => { c with ledgBad := s.core.ledgBad })
    else s
  | _ => s

/-- R548: the region that ran the probe of a path works no more: what waits for its verdict receives INCONCLUSIVE. -/
def Dev.probeCut (s : Dev) (path : Path) : Dev :=
  let mine := s.probing.filter (fun q => q.path == path)
  let s1 := { s with probing := s.probing.filter (fun q => q.path != path) }
  (((s1.put F.SAFE_PROBE_VERDICT Verdict.inconclusive.code).roll F.SAFE_PROBE_SEQ).putB F.SAFE_PROBE_RUNNING
    (!s1.probing.isEmpty)).giveAll mine .inconclusive

/-- R572, R554: the test of a path is a latent one, paused in WATCH, where no error's tick has come. -/
def Dev.latentPaused (s : Dev) (path : Path) : Bool :=
  s.eff == .watch && (s.probing.filter (fun q => q.path == path)).all (fun q => q.latent || !s.ticked q)

/-- PROBE_END (R547, R548, R520). `bad` is 0 where every part that the model does not judge passes; `found` are the readings of
R547 and R478. -/
def probeEnd (ts : Nat) (path : Path) (bad : Nat) (found : List Int) (s : State) : State :=
  let s := s.advance ts
  if ¬ s.core.probing.any (fun q => q.path == path) ∨ ¬ s.core.probesRun then s
  else if ¬ s.core.probeAlive path then (s.lift (fun c => c.probeCut path)).writeVerdict
  else if s.core.probeOver path ∧ ¬ s.core.latentPaused path ∧ found.length = s.core.foundLen path then
    let b := s.core.probeBad path bad found
    ((s.probedWord path (decide (b = 0))).lift (fun c => c.probeEnd path b)).writeVerdict
  else s

/-! ### Starting latent tests -/

/-- An entry of a latent test. -/
def latentProbe (path : Path) (now : Nat) : Probe := ⟨path, 0, 0, none, false, 0, none, true, now, false⟩

/-- R551: no error waits for the test DAC of a converter. -/
def Dev.dacIdle (s : Dev) (c : Fin 6) : Bool := s.dacFree c && !s.probes.any (fun p => dacOf p.path == some c)

/-- R570: begin the next latent test of a kind. -/
def Dev.latentBegin (s : Dev) (k : LatKind) : Dev :=
  let go (s : Dev) (ps : List Path) : Dev :=
    { (ps.take 1).foldl (fun (a : Dev) p => a.probeShown p) s with
      probing := s.probing ++ ps.map (fun p => latentProbe p s.now)
      lat := { s.lat with going := s.lat.going.set k.idx.val true k.idx.isLt } }
  match k with
  | .window =>
    let n := Fin.ofNat 48 (s.get F.SAFE_LATSTAT_NEXTRAIL)
    let path := if s.flag (F.RAIL_CFG_PGUSE n) then Path.windowPg n else Path.window n
    if s.dacIdle (cvOf n) then
      ((go s [path]).setCv (cvOf n) { s.cv (cvOf n) with wdone := none }).beginWindowTest n false
    else s
  | .converter => if s.dacIdle s.lat.nextConv then (go s [.conv s.lat.nextConv]).beginProbe (.conv s.lat.nextConv) else s
  | .phase =>
    let p := s.lat.nextPhase
    if (s.ctlOf p).isNone then s.latentDone .phase
    else if s.probing.any (fun q => q.path == .tsns p || s.shares q.path (.isns p)) then s
    else go s ([.tsns p] ++ (if s.drive p = 1 then [.isns p] else []))
  | .flt => s

/-- LATENT_TEST_START (R570, R572): a latent test's interval has passed. -/
def latentTestStart (ts : Nat) (k : LatKind) (s : Dev) : Dev :=
  let s := (s.advance ts).latSync
  if s.latCounts ∧ s.mainAlive ∧ s.lat.due.get k.idx ≤ s.lat.ns ∧ ¬ s.lat.going.get k.idx then s.latentBegin k else s

/-- LATENT_FLT_PULSE (R570): the vault pulses FLT_N and finds the pin low within 0.4 us, or not. -/
def latentFltPulse (ts : Nat) (low : Bool) (s : Dev) : Dev :=
  let s := (s.advance ts).latSync
  if s.latCounts ∧ ¬ s.flag F.SAFE_STATUS_VAULTLOST ∧ s.get F.SAFE_CFG_LATFLT ≠ 0 ∧ s.lat.due.get 3 ≤ s.lat.ns ∧ ¬ s.fltLow then
    let s1 := (s.latentDone .flt).roll F.SAFE_LATSTAT_FTESTS
    if low then s1 else s1.pinTest 0x49 1
  else s

/-- LATENT_LATE (R572): a test has not completed within twice its interval. -/
def latentLate (ts : Nat) (k : LatKind) (s : Dev) : Dev :=
  let s := (s.advance ts).latSync
  let d := s.lat.due.get k.idx
  let e := s.latEvery k
  if s.live ∧ e ≠ 0 ∧ d + e ≤ s.lat.ns ∧ ¬ s.lat.late.get k.idx then
    (({ s with lat := { s.lat with late := s.lat.late.set k.idx.val true k.idx.isLt } }.mark F.SAFE_STATUS_LATE).mark
      F.SAFE_EVENT_LATENT_LATE).journal 0x0A1B k.idx (BitVec.ofNat 32 ((s.lat.ns - d - e) / 1000000000))
  else s

/-! ### Checks between the regions (R558-R566) -/

/-- The vault runs: it has supply and the device is past POWER-HOLD. -/
def Dev.vaultUp (s : Dev) : Bool :=
  (s.dev == .boot || s.dev == .bootFail || s.dev == .run || s.dev == .holdUp) && !s.flag F.SAFE_STATUS_VAULTLOST

/-- VAULT_CLOCK_WINDOW (R558): a window of 400 vault cycles ends with `count` REFCLK edges. -/
def vaultClockWindow (ts count : Nat) (s : Dev) : Dev :=
  let s := s.advance ts
  if s.vaultUp ∧ s.usecOn then
    let ok := decide (243 ≤ count) && decide (count ≤ 257)
    let s1 := { s with checks := { s.checks with clkPrev := s.get F.VLT_CLK_COUNT } }
    ((s1.put F.VLT_CLK_COUNT (min 511 count)).put F.VLT_CLK_BAD (if ok then 0 else min 2 (s.get F.VLT_CLK_BAD + 1))).putB
      F.VLT_STATUS_CLKOK ok
  else s

/-- The vault stamps with its shadow count from here on (R85). -/
def Dev.toShadow (s : Dev) : Dev := { s with vault := { s.vault with shadow := true } }

/-- CLOCK_XCHK (R558, R85, R351, R462): two consecutive windows lie outside the limit. -/
def clockXchk (ts : Nat) (s : Dev) : Dev :=
  let s := s.advance ts
  if s.vaultUp ∧ s.get F.VLT_CLK_BAD = 2 ∧ ¬ s.flag F.SAFE_STATUS_CLKFAIL then
    ((((s.toShadow.mark F.SAFE_STATUS_CLKFAIL).mark F.SAFE_EVENT_CLOCK_XCHK)).controllersIdle).declare 0x0A10 0
      (BitVec.ofNat 32 (s.get F.VLT_CLK_COUNT)) (BitVec.ofNat 32 s.checks.clkPrev) true (some .clock)
  else s

/-- R30-R33: the time between two closes, ns: 10.24 us, or 51.2 us in WATCH. -/
def Dev.closeNs (s : Dev) : Nat := if s.eff = .watch then 51200 else 10240

/-- MAIN_STOP (R559, R351, R462): the PLL reports loss of lock (`unlock`), or no close has come for 3 close periods. -/
def mainStop (ts : Nat) (unlock : Bool) (s : Dev) : Dev :=
  let s := s.advance ts
  if s.vaultUp ∧ s.usecOn ∧ s.mainAlive ∧ (unlock ∨ (s.live ∧ s.elapsed s.closeAt (3 * s.closeNs))) then
    let s1 := { s.toShadow with vault := { s.toShadow.vault with mainDead := true } }
    ((s1.mark F.SAFE_EVENT_MAIN_STOP).controllersIdle).declare 0x0A11 0 (if unlock then 1 else 0) 0
      true none
  else s

/-- R562: every claimed reset output is asserted, and stays so. -/
def Dev.assertAll (s : Dev) : Dev := s.tableRsto 0xFF

/-- VVLT_FAIL (R560, R562): VVLT has been outside its window for 2 us: the vault is lost with its table and its pull on
FLT_N; the main region switches every USED rail fast off and asserts every claimed RSTO. It monitors VVLT wherever it runs. -/
def vvltFail (ts : Nat) (above : Bool) (s : Dev) : Dev :=
  let s := s.advance ts
  if (s.live ∨ s.dev = .boot ∨ s.dev = .bootFail) ∧ s.usecOn ∧ s.mainAlive ∧ ¬ s.flag F.SAFE_STATUS_VAULTLOST then
    let s1 := (s.mark F.SAFE_STATUS_VAULTLOST).mark F.SAFE_EVENT_VVLT_FAIL
    let s2 := { s1 with vault := { s1.vault with run := none, pend := none, drive := none } }
    s2.declareBy 0x0A13 0 (if above then 1 else 0) 0 true (fun t => (t.fastOffAll.assertAll).dangerous 0x0A13)
      (some (.monitor 0x0A13))
  else s

/-- REF_COMPARE (R563): the millisecond's comparison finds `dev`, 0.01 % per LSB. -/
def refCompare (ts : Nat) (dev : Int) (s : Dev) : Dev :=
  let s := s.advance ts
  if s.vaultUp ∧ s.usecOn then
    let ok := decide (dev.natAbs ≤ 150)
    let n := if ok then 0 else if s.checks.refBad = 3 then 3 else min 2 (s.checks.refBad + 1)
    ({ s with checks := { s.checks with refBad := n } }.put F.VLT_REF_DEV (toSigned 16 dev)).putB F.VLT_STATUS_REFOK ok
  else s

/-- REF_XCHK (R563): two consecutive comparisons lie beyond 1.5 %. -/
def refXchk (ts : Nat) (s : Dev) : Dev :=
  let s := s.advance ts
  if s.vaultUp ∧ s.checks.refBad = 2 then
    (({ s with checks := { s.checks with refBad := 3 } }).mark F.SAFE_EVENT_REF_XCHK).declare 0x0A14 0
      (s.readReg 0x1E12) 0 true (some .reference)
  else s

/-- R566: the commanded level of a claimed output, none for a pin the device does not drive to a level it compares: an
open-drain output is compared only when low. -/
def Dev.commanded (s : Dev) (code : Nat) : Option Bool :=
  if s.pwr.vsupLow then none else   -- R58
  let drain (low : Bool) : Option Bool := if low then some false else none
  if h : 8 ≤ code ∧ code < 48 then
    let n : Fin 48 := ⟨code, h.2⟩
    if s.flag (F.RAIL_CFG_CLAIM n) && s.live then
      let level := ((s.rail n).out == .on) == s.flag (F.RAIL_CFG_ENPOL n)
      if s.flag (F.RAIL_CFG_ENMODE n) then drain (!level) else some level
    else none
  else if code < 0x48 ∧ 0x40 ≤ code then
    if s.flag (F.RSTO_CFG_CLAIM (code - 0x40)) && s.live then
      let low := (s.get F.RSTO_STATUS_ASSERTED).testBit (code - 0x40)
      if s.flag (F.RSTO_CFG_DRIVE (code - 0x40)) then some (!low) else drain low
    else none
  else if code = 0x48 then if s.flag F.CASC_CFG_CLAIM && s.live then drain (!s.flag F.CASC_STATUS_SEQOUT) else none
  else if code = 0x49 then drain s.pulls
  else if h : 0x50 ≤ code ∧ code < 0x68 then
    let p : Fin 24 := ⟨code - 0x50, by omega⟩
    let x := s.ph p
    match s.drive p with
    | 2 => if x.onAt.isNone && x.mid then none else some x.onAt.isSome
    | 3 => if x.dmid then none else some false
    | _ => none
  else none

/-- OUT_MISMATCH (R566): a pin has differed from its commanded level for 10 us. -/
def outMismatch (ts code : Nat) (s : Dev) : Dev :=
  let s := s.advance ts
  match s.commanded code with
  | some l =>
    if s.probesRun ∧ (code = 0x49 ∨ s.mainAlive) then
      (s.mark F.SAFE_EVENT_OUT_MISMATCH).declare 0x0A17 code (if l then 1 else 0) (if l then 0 else 1) false (some (.pin code))
    else s
  | none => s

/-- R179, R570: a word of a teller RAM that the scrub finds uncorrectable. No teller fetched or read it, and the spec
names neither OBJ nor ARG of its record: they are free (log entry 20). -/
def Dev.ramBad (s : Dev) (path : Path) : Dev :=
  let t := s.bump F.SAFE_RAMECC_UNCORR
  (t.spent.spent.spent).declare 0x0801 (t.free.toNat % 256) t.spent.free t.spent.spent.free false (some path)

/-- RAM_SCRUB (R570, R572, R179): the scrub of each counted second corrects `corrected` words and finds the named words
uncorrectable. -/
def ramScrub (ts corrected : Nat) (ibad dbad : List Nat) (s : Dev) : Dev :=
  let s := (s.advance ts).latSync
  if s.latCounts ∧ s.mainAlive ∧ s.lat.ramAt + 1000000000 ≤ s.lat.ns then
    let s1 := { s.bump F.SAFE_RAMECC_CORR corrected with
      lat := { s.lat with ramAt := s.lat.ns }
      iramBad := ibad ++ s.iramBad.filter (fun a => !ibad.contains a)
      dramBad := dbad ++ s.dramBad.filter (fun a => !dbad.contains a) }
    let s2 := ibad.foldl (fun (a : Dev) w => a.ramBad (.iword w)) s1
    dbad.foldl (fun (a : Dev) w => a.ramBad (.dword w)) s2
  else s

/-! ### Device thermal shutdown (R26, R27) -/

/-- THERMAL_SHUTDOWN (R26): a die sensor has read above 165 C eight times in a row. -/
def thermalShutdown (ts : Nat) (s : Dev) : Dev :=
  let s := s.advance ts
  match (List.finRange 4).find? (fun i => s.checks.sd.get i == 8) with
  | some i =>
    if s.vaultUp ∧ s.vault.thermal.isNone then
      let m := bits ((List.finRange 4).map (fun j => decide (0 < s.checks.sd.get j)))
      let s1 := s.driveFlt .dangerous
      let s2 := { s1 with vault := { s1.vault with thermal := some s1.now } }
      s2.declare 0x0A1E i (BitVec.ofInt 32 (s.checks.sdT.get i)) (BitVec.ofNat 32 m) true (some .dieSensors)
    else s
  | none => s

/-- THERMAL_OFF_ENTRY (R26, R27, R364): the table has completed, or 50 ms have passed, or the vault held no table: the
main region is off, and FLT_N stays low, but for a vault that is lost (R562). The first-fault record and the journal are written before. -/
def thermalOffEntry (ts : Nat) (s : State) : State :=
  let s0 := s.advance ts
  match s0.core.vault.thermal with
  | some t =>
    if (¬ s0.core.vault.loaded) ∨ (¬ s0.core.tableRuns) ∨ s0.core.elapsed t 50000000 then
      (s0.flush.lift (fun c =>
        let w := c.healthStop.wiped .thermalOff
        if c.flag F.SAFE_STATUS_VAULTLOST then w else w.driveFlt .thermalOff)).dark
    else s0
  | none => s0

end Sys2Proof.Machine
end

