-- ==== Sys2Proof/Machine/Purses.lean ====
section
/-! DEFINITION. Purses (08): requests and their rank, the scheduler's run, the ends of purse waits, the HOLD purse, and
the power entry's waiting for VSTART (R53, R54). -/

namespace Sys2Proof.Machine

/-! ### Requests (R302-R306) -/

/-- R304: request `a` ranks above `b`. -/
def PReq.before (a b : PReq) : Bool :=
  let who (q : PReq) : Nat := match q.who with
    | .rail n => n.val
    | .teller k => 48 + k.val
  decide (a.rank < b.rank) || (decide (a.rank = b.rank) &&
    (decide (a.usec < b.usec) || (decide (a.usec = b.usec) && decide (who a < who b))))

/-- The highest-ranked request of a budget (R305). -/
def Dev.topReq (s : Dev) (b : Budget) : Option PReq :=
  (s.preqs.filter (fun q => q.budget == b)).foldl (fun (a : Option PReq) q =>
    match a with
    | some p => if q.before p then some q else some p
    | none => some q) none

/-- Make a request; it enters its queue at the next scheduler run (R303, R309). -/
def Dev.enterReq (s : Dev) (b : Budget) (who : PWho) (amt rank : Nat) : Dev :=
  { s with preqs := s.preqs ++ [⟨b, who, amt, rank, s.usec.toNat, true⟩] }

/-- R182, R304: the rank class of a teller: by its PRIO, then the lower number. -/
def Dev.tellerRank (s : Dev) (k : Fin 8) : Nat := 4 + (7 - s.get (F.TELLER_CFG_PRIO k)) * 8 + k.val

/-- R304: the rank class of a rail's requests by the writer of its ON. -/
def Dev.writerRank (s : Dev) : Writer → Nat
  | .door d => d.val
  | .teller k => s.tellerRank k

/-- R141, R306, R311: a rail in ARMED makes the request its conditions allow: INRUSH once its interlock is met, HEAT after
the INRUSH grant; a request for nothing is granted at once. -/
def Dev.railAsks (s : Dev) (n : Fin 48) : Dev :=
  let r := s.rail n
  if r.code ≠ .armed then s
  else
    let first (x : Rail) : Rail := { x with reqAt := some (x.reqAt.getD s.now) }
    if r.inrush = .none then
      let amt := s.get (F.RAIL_BUDGET_INRUSH n)
      if !s.gateOk n then s
      else if amt = 0 then s.setRail n { r with inrush := .granted, inrushAmt := 0 }
      else (s.setRail n (first { r with inrush := .waiting })).enterReq .inrush (.rail n) amt (s.writerRank r.onBy)
    else if r.inrush = .granted ∧ r.heat = .none then
      let amt := s.get (F.RAIL_BUDGET_HEAT n)
      if amt = 0 then s.setRail n { r with heat := .granted }
      else (s.setRail n (first { r with heat := .waiting })).enterReq .heat (.rail n) amt (s.writerRank r.onBy)
    else s

/-- R304: the rank of a request is fixed at the run in which it enters its queue, with that run's microsecond. -/
def Dev.ranked (s : Dev) : Dev :=
  { s with preqs := s.preqs.map (fun q => if q.isNew then { q with
      usec := s.usec.toNat
      rank := match q.who with
        | .rail n => s.writerRank (s.rail n).onBy
        | .teller k => s.tellerRank k } else q) }

/-! ### What the purses cover (R309, R314, R318, R320, R326) -/

/-- R318, R565: the HOLD purse with no commitments. -/
def Dev.holdBare (s : Dev) : Nat := if s.flag F.SAFE_STATUS_MONLOST then 0 else s.holdE / 1000000 - 20

/-- The number of teller reservations held. -/
def Dev.tellersHold (s : Dev) : Nat := (s.heatRes.filter HRes.ofTeller).length

/-- R309: a request is refused outright when it enters; the cause as PURSE_REFUSED names it. -/
def Dev.outright (s : Dev) (q : PReq) : Option Nat :=
  match q.budget with
  | .inrush => if s.get F.PURSE_INCFG_CAP < q.amt then some 0 else none
  | .hold => if s.dev ≠ .holdUp ∨ s.holdBare < q.amt then some 0 else none
  | .heat =>
    if 1 ≤ s.level then some 2
    else if s.headMw < q.amt then some 3
    else match q.who with
      | .teller _ => if 255 ≤ s.tellersHold then some 0 else none
      | .rail _ => none

/-- R314, R320, R326: a request can be granted now. -/
def Dev.covers (s : Dev) (b : Budget) (amt : Nat) : Bool :=
  match b with
  | .inrush => decide (amt * 1000 ≤ s.inrushUj)
  | .hold => decide (amt ≤ s.avail)
  | .heat => decide (amt + s.young ≤ s.headMw)

/-- Remove a request from the queue. -/
def Dev.dropReq (s : Dev) (q : PReq) : Dev := { s with preqs := s.preqs.filter (fun p => !(p.budget == q.budget && p.who == q.who)) }

/-! ### Refusals (R311, R312) -/

/-- The event bit of a refusal. -/
def refusedFld : Budget → Fld
  | .inrush => F.PURSE_EVENT_IN_REFUSED
  | .hold => F.PURSE_EVENT_HOLD_REFUSED
  | .heat => F.PURSE_EVENT_HEAT_REFUSED

/-- R312, R256, R257: refuse a waiting request: a rail's PURSE_REFUSED record, the end of a teller's wait. The rail itself stays
ARMED until its wait ends at PTO (R311, R133). -/
def Dev.refuseReq (s : Dev) (q : PReq) (cause : Nat) : Dev :=
  let s1 := (s.dropReq q).mark (refusedFld q.budget)
  match q.who with
  | .rail n => s1.journal 0x0601 n (BitVec.ofNat 32 q.budget.code) (BitVec.ofNat 32 cause)
  | .teller k => s1.setTeller k ((s1.teller k).purseRefused s1.now)

/-! ### Grants (R305, R314, R320, R326, R257) -/

/-- R257: the lowest reservation number that no reservation holds. -/
def Dev.freeNumber (s : Dev) : Nat :=
  ((List.range 255).map (· + 1)).find? (fun i =>
    !s.heatRes.any (fun h => match h.who with | .teller _ j => j == i | _ => false)) |>.getD 0

/-- A granted SPEND or RESERVE ends its wait (R256, R257). -/
def Dev.purseGranted (s : Dev) (k : Fin 8) (num : Nat) : Dev :=
  let t := s.teller k
  match t.wait with
  | some (.reserve rd _) => s.setTeller k ((t.xw rd (BitVec.ofNat 32 num)).endWait s.now)
  | _ => s.setTeller k (t.endWait s.now)

/-- Take the amount of a grant from its budget; the reservation number where it is a teller's. -/
def Dev.charge (s : Dev) (q : PReq) : Dev × Nat :=
  match q.budget with
  | .inrush => ({ s with inrushUj := s.inrushUj - q.amt * 1000 }, 0)
  | .hold => ({ s with holdO := s.holdO + q.amt * 1000000 }, 0)
  | .heat =>
    match q.who with
    | .rail n => ({ s with heatRes := s.heatRes ++ [⟨.rail n, q.amt, s.now, true⟩] }, 0)
    | .teller k =>
      let i := s.freeNumber
      ({ s with heatRes := s.heatRes ++ [⟨.teller k i, q.amt, s.now, true⟩] }, i)

/-- Grant a request. -/
def Dev.grantReq (s : Dev) (q : PReq) : Dev :=
  let c := (s.dropReq q).charge q
  match q.who with
  | .rail n =>
    let r := c.1.rail n
    c.1.setRail n (if q.budget = .inrush then { r with inrush := .granted, inrushAmt := q.amt } else { r with heat := .granted })
  | .teller k => c.1.purseGranted k c.2

/-- R257: a reservation number is free for the request, where it needs one. -/
def Dev.numberFree (s : Dev) (q : PReq) : Bool :=
  match q.budget, q.who with
  | .heat, .teller _ => decide (s.tellersHold < 255)
  | _, _ => true

/-- R305: grant one budget's requests in strict rank order; `fuel` bounds their number. A new RESERVE that finds the last
number taken in this run is refused (R309). -/
def Dev.grantAll (b : Budget) : Nat → Dev → Dev
  | 0, s => s
  | fuel + 1, s =>
    match s.topReq b with
    | some q =>
      if s.numberFree q then (if s.covers b q.amt then Dev.grantAll b fuel (s.grantReq q) else s)
      else if q.isNew then Dev.grantAll b fuel (s.refuseReq q 0)
      else s
    | none => s

/-- R309, R310, R305: answer the queue of one budget. -/
def Dev.answer (s : Dev) (b : Budget) : Dev :=
  let mine := s.preqs.filter (fun q => q.budget == b)
  let s1 := mine.foldl (fun (a : Dev) q =>
    if q.isNew then
      match a.outright q with
      | some cause => a.refuseReq q cause
      | none => a
    else a) s
  let s2 := if b = .heat ∧ 1 ≤ s1.level then
      (s1.preqs.filter (fun q => q.budget == b)).foldl (fun (a : Dev) q => a.refuseReq q 2) s1
    else s1
  let s3 := Dev.grantAll b s2.preqs.length s2
  { s3 with preqs := s3.preqs.map (fun q => if q.budget == b then { q with isNew := false } else q) }

/-! ### Waiting for VSTART (R53, R54) -/

/-- VIN_LOW_WAIT (R54): a further record at each whole second while a rail waits. -/
def vinLowWait (ts : Nat) (s : Dev) : Dev :=
  let s := s.advance ts
  match s.pwr.lowAt with
  | some t =>
    if s.live ∧ s.mainAlive ∧ s.elapsed t (s.pwr.lowN * 1000000000) ∧ allRails.any (fun n => (s.rail n).waitVin) then
      { (s.pwrRec 0x0105) with pwr := { s.pwr with lowN := s.pwr.lowN + 1 } }
    else s
  | none => s

/-! ### The commands -/

/-- R326: which reservations were granted less than SETTLE seconds ago. -/
def Dev.freshen (s : Dev) : Dev :=
  { s with heatRes := s.heatRes.map (fun h => { h with young := !s.elapsed h.since (s.get F.THERM_CFG_SETTLE * 1000000000) }) }

/-- SCHEDULER_RUN (R303, R333): the microsecond's run, once in each: the INRUSH refill, a changed throttling level, then
each budget's queue in rank order. -/
def schedulerRun (ts : Nat) (s : Dev) : Dev :=
  let s := s.advance ts
  if s.live ∧ s.mainAlive ∧ s.newPeriod s.schedAt 1000 then
    let s1 := { s.levelTakes.freshen with
      schedAt := some s.now
      inrushUj := min (s.get F.PURSE_INCFG_CAP * 1000) (s.inrushUj + s.get F.PURSE_INCFG_RATE) }
    let s2 := (allRails.foldl (fun (a : Dev) (n : Fin 48) => (a.railAsks n).railAsks n) s1).ranked
    let s3 := (((s2.answer .inrush).answer .hold).answer .heat)
    (allRails.foldl (fun (a : Dev) (n : Fin 48) =>
      if (a.rail n).inrush = .granted ∧ a.get (F.RAIL_BUDGET_HEAT n) = 0 then a.railAsks n else a) s3).vinWaits
  else s

/-- PURSE_TIMEOUT (R311, R312, R133): a rail's purse wait reaches PTO without every grant held: the outstanding request is
refused, and the rail returns to OFF. -/
def purseTimeout (ts : Nat) (n : Fin 48) (s : Dev) : Dev :=
  let s := s.advance ts
  match (s.rail n).reqAt with
  | some t =>
    if s.live ∧ s.mainAlive ∧ (s.rail n).code = .armed ∧ ¬ s.grantsOk n ∧
        s.elapsed t (s.get (F.RAIL_BUDGET_PTO n) * 10000000) then
      let s1 := if (s.rail n).inrush = .granted then s else s.mark F.PURSE_EVENT_IN_TIMEOUT
      let s2 := match s1.preqs.find? (fun q => q.who == .rail n) with
        | some q => s1.refuseReq q 1
        | none => s1
      (s2.withdrawRail n true).railToOff n
    else s
  | none => s

/-- R318: E in nJ from PWR.HOLDV (100 uV), CAP (10 uF) and VFLOOR (100 mV): half of CAP x (V^2 - F^2). -/
def Dev.holdEnergy (s : Dev) : Nat :=
  let v := s.get F.PWR_HOLDV_V
  let f := s.get F.PWR_HOLDCFG_VFLOOR * 1000
  s.get F.PWR_HOLDCFG_CAP * (v * v - f * f) / 20000

/-- R318, R321, R324: compute E, the commitments outstanding, and HOLD_SHORT. -/
def Dev.holdUpdate (s : Dev) : Dev :=
  let e := s.holdEnergy
  let d := (s.holdE - e) - s.get F.PURSE_HOLDCFG_BASE * (s.now - s.holdAt) / 1000
  let s1 := { s with
    holdE := e
    holdAt := s.now
    holdO := if s.dev = .holdUp then s.holdO - d else s.holdO }
  if s1.dev = .holdUp ∧ s1.avail = 0 ∧ 0 < s1.holdO ∧ ¬ s1.holdShort then
    (({ s1 with holdShort := true }).mark F.PURSE_EVENT_HOLD_SHORT).journal 0x0602 0 (BitVec.ofNat 32 (e / 1000000))
      (BitVec.ofNat 32 (coinsUp s1.holdO))
  else s1

/-- HOLD_PURSE_UPDATE (R318, R321): the millisecond's computation, once in each. -/
def holdPurseUpdate (ts : Nat) (s : Dev) : Dev :=
  let s := s.advance ts
  if s.live ∧ s.mainAlive ∧ s.newPeriod (some s.holdAt) 1000000 then s.holdUpdate else s

/-- FRESH_EXPIRE (R326): a reservation granted SETTLE seconds ago leaves FRESH. -/
def freshExpire (ts : Nat) (s : Dev) : Dev := (s.advance ts).freshen

/-! ### The device's own requests (R307, R328, R329) -/

/-- R307: nobody waits in a budget's queue. -/
def Dev.noneWaits (s : Dev) (b : Budget) : Bool := !s.preqs.any (fun q => q.budget == b)

/-- R307, R309: a HEAT request of the device itself is granted now. DESIGN CHOICE (log entry 41): one of 0 mW always is, as R306
has it of a rail's request for nothing. -/
def Dev.heatNow (s : Dev) (amt : Nat) : Bool :=
  decide (amt = 0) || (decide (s.level = 0) && s.noneWaits .heat && s.covers .heat amt)

/-- Hold a HEAT reservation of the device. DESIGN CHOICE (log entry 43): one of 0 mW is not held, so PURSE.HEATHELD.AUDIT reads 0 in
AUDIT with PURSE.HEATCFG.AUDIT = 0. -/
def Dev.holdHeat (s : Dev) (w : HWho) (amt : Nat) : Dev :=
  if amt = 0 then s else { s with heatRes := s.heatRes ++ [⟨w, amt, s.now, true⟩] }

/-- Release the device's reservation. -/
def Dev.freeHeat (s : Dev) (w : HWho) : Dev := { s with heatRes := s.heatRes.filter (fun h => h.who != w) }

end Sys2Proof.Machine
end

