-- ==== Sys2Proof/Machine/Archive.lean ====
section
/-! DEFINITION. Archive commits (14: R533-R537, R271, R323, R329, R440) and the wrap of USEC (03: R89, R90). -/

namespace Sys2Proof.Machine

/-! ### Starting a commit -/

/-- The converters of a buffer mask. -/
def buffersOf (m : BitVec 6) : List (Fin 6) := (List.finRange 6).filter (fun c => m.getLsbD c.val)

/-- R533: LEN of an entry. -/
def entryLen (m : BitVec 6) : Nat := 1024 + 131072 * (buffersOf m).length

/-- R323: the cost of a commit in HOLD-UP, coins. -/
def Dev.archCost (s : Dev) (m : BitVec 6) : Nat := (s.get F.PURSE_HOLDCFG_ARCHCOST * (buffersOf m).length + 9) / 10

/-- R323, R329, R332: the budget of a commit is available. -/
def Dev.archBudget (s : Dev) (m : BitVec 6) : Bool :=
  if s.dev = .holdUp then
    decide (s.archCost m = 0) || (s.noneWaits .hold && s.covers .hold (s.archCost m))
  else decide (s.level < 4) && s.heatNow (s.get F.PURSE_HEATCFG_ARCH)

/-- R271, R537: why a commit of these buffers is refused now. DESIGN CHOICE (log entry 43): where several reasons hold, the first of
the rule's list is reported. -/
def Dev.archRefusal (s : Dev) (m : BitVec 6) : Option Reason :=
  if archSize - s.afill.1 < entryLen m then some .archiveFull
  else if s.arch.isSome then some .busy
  else if s.sag = 2 then some .suspended
  else if !s.archBudget m then some .budget
  else none

/-- LEDG.ARCHSTAT.LASTREF and LEDG.EVENT.ARCH_REFUSED of a refused commit. -/
def Dev.archRefused (s : Dev) (r : Reason) : Dev := (s.put F.LEDG_ARCHSTAT_LASTREF r.code).mark F.LEDG_EVENT_ARCH_REFUSED

/-- R440: a buffer named in a commit: ARMED becomes FROZEN for its copy; CAPTURING completes first. -/
def Dev.archHold (s : Dev) (c : Fin 6) : Dev :=
  let st := s.capState c
  let s1 := s.mark (F.CAP_STATUS_ARCH c)
  if st = capArmed then
    (((s1.setCap c { s1.cap c with back := some capArmed, gap := true }).put (F.CAP_STATUS_STATE c) capFrozen).capDropPending c).capSync c
  else if st = capCapturing then s1.setCap c { s1.cap c with back := some capArmed }
  else s1

/-- R271, R440, R323, R329: start a commit that nothing refuses. -/
def Dev.archStart (s : Dev) (m : BitVec 6) (door : Bool) (num : Nat) : Dev :=
  let s1 := if s.dev = .holdUp then { s with holdO := s.holdO + s.archCost m * 1000000 }
    else s.holdHeat .arch (s.get F.PURSE_HEATCFG_ARCH)
  let s2 := { s1 with arch := some ⟨m, door, num, s1.stamp⟩ }
  (buffersOf m).foldl (fun (a : Dev) c => if (a.archHold c).capState c = capCapturing then a.archHold c else (a.archHold c).capSnap c) s2

/-! ### The end of a commit -/

/-- The image of a capture buffer: its 65,536 words, word 0 first. -/
def bufImage (b : List (Nat × BitVec 16)) : List Byte := ((List.range 65536).map (fun i => leBytes 2 (sget (fun _ => 0) b i).toNat)).flatten

/-- R533: the block of one converter in an entry's header; `n` is the converter, `crc` that of its image. -/
def Dev.archBlock (s : Dev) (c : Fin 6) (crc : Nat) : List Byte :=
  let base := 0x2100 + 40 * c.val
  let ranges := (List.finRange 8).foldl (fun (a : Nat) (k : Fin 8) => a + s.get (F.RAIL_CFG_RANGE (railOf c k)) * 4 ^ k.val) 0
  leBytes 4 (s.cap c).snap.toNat ++ leBytes 4 (s.readReg base).toNat ++ leBytes 4 (s.readReg (base + 6)).toNat ++
    leBytes 4 crc ++ leBytes 2 ranges ++ List.replicate 14 0 ++
    ((List.range 32).map (fun i => leBytes 4 (s.readReg (base + 8 + i)).toNat)).flatten

/-- R533: the 1,024 bytes of an entry's header; `crcs` are the images' CRCs by converter. -/
def Dev.archHeader (s : Dev) (a : Arch) (crcs : Fin 6 → Nat) : List Byte :=
  let h1 := leBytes 4 0x48435241 ++ leBytes 2 1 ++ leBytes 1 a.mask.toNat ++
    leBytes 1 ((if a.door then 1 else 0) + 2 * a.num) ++ leBytes 4 (entryLen a.mask) ++ leBytes 4 s.afill.2 ++
    a.stamp0.bytes ++ s.stamp.bytes ++ [s.stateByte, s.tallyByte] ++ List.replicate 10 0
  let blocks := ((List.finRange 6).map (fun c =>
    if a.mask.getLsbD c.val then s.archBlock c (crcs c) else List.replicate 160 0)).flatten
  h1 ++ leBytes 4 (crc32 (h1 ++ leBytes 4 0 ++ blocks)) ++ blocks

/-- R440: a buffer's copy ends: it returns to its previous state. -/
def Dev.archRelease (s : Dev) (c : Fin 6) : Dev :=
  let s1 := s.put (F.CAP_STATUS_ARCH c) 0
  match (s1.cap c).back with
  | some st => ((s1.setCap c { s1.cap c with back := none }).put (F.CAP_STATUS_STATE c) st).capSync c
  | none => s1

/-- R534, R523: the commit is over in the device: the fill copies, the ARCHIVE record, the buffers and the budget. -/
def Dev.archDone (s : Dev) (a : Arch) : Dev :=
  let s1 := { (s.copyPut 2).copyPut 3 with arch := none, afill := (s.afill.1 + entryLen a.mask, s.afill.2 + 1) }
  let s2 := (buffersOf a.mask).foldl (fun (b : Dev) c => b.archRelease c) (s1.freeHeat .arch)
  (s2.mark F.LEDG_EVENT_ARCH_DONE).journal 0x0A04 0 (BitVec.ofNat 32 s.afill.1) (BitVec.ofNat 32 (a.mask.toNat + 256))

/-- R534: what a commit writes before the fill copies, in order: the buffer images, then the header. -/
def State.archBlocks (s : State) (a : Arch) : List (Nat × List Byte) :=
  let base := archBase + s.core.afill.1
  let bufs := buffersOf a.mask
  (List.range bufs.length).map (fun i => (base + 0x400 + 131072 * i, bufImage (s.bufs.get (bufs.getD i 0)))) ++
    [(base, s.core.archHeader a (fun c => crc32 (bufImage (s.bufs.get c))))]

/-- ARCHIVE_COMMIT_END (R534, R533): the buffer images, the header and the fill copies are written. A burst in progress
in a named buffer completes first (R440), and a writer of higher rank goes first (R510). -/
def archiveCommitEnd (ts : Nat) (s : State) : State :=
  let s := s.advance ts
  match s.core.arch with
  | some a =>
    if s.core.live ∧ s.core.arrayFree ∧ ¬ s.core.healthDue ∧ (buffersOf a.mask).all (fun c => s.core.capState c == capOff || s.core.capState c == capFrozen) then
      (s.putBlocks (s.archBlocks a)).lift (fun c => c.archDone a)
    else s
  | none => s

/-- R534: a commit that a falling supply ends leaves ARCHFILL as it was; the record says interrupted. -/
def Dev.archInterrupted (s : Dev) : Dev :=
  match s.arch with
  | some a =>
    let s1 := (buffersOf a.mask).foldl (fun (b : Dev) c => b.archRelease c) ({ s with arch := none }.freeHeat .arch)
    s1.journal 0x0A04 0 (BitVec.ofNat 32 s.afill.1) (BitVec.ofNat 32 a.mask.toNat)
  | none => s

/-! ### The wrap of USEC (R89, R90) -/

/-- The last value of USEC. -/
def usecMax : Nat := 2 ^ 48 - 1

/-- USEC_WRAP_COPY (R89): BOOTNO + 1 is written into the older copy, ahead of the wrap: at least 1 ms, and here at most
1 s before it. -/
def usecWrapCopy (ts : Nat) (s : State) : State :=
  let s := s.advance ts
  match s.newerCopy with
  | some (i, v) =>
    if s.core.bootnoOk ∧ s.core.ledgerOn ∧ ¬ s.core.folioWaits ∧ ¬ s.core.wrapCopy ∧ usecMax - 1000000 ≤ s.core.usec.toNat ∧
        s.core.usec.toNat + 1000 ≤ usecMax then
      (s.writeCopy (1 - i) (nextBootno v)).lift (fun c => { c with wrapCopy := true })
    else s
  | none => s

/-- R90: what the wrap does in the device: the new BOOTNO, USEC from 0, a folio that holds nothing and that no verdict of an
earlier fault reaches; the WRAP record, with USEC 0. -/
def Dev.wrap (s : Dev) : Dev :=
  let old := s.bootno
  let s1 := { s with
    bootno := BitVec.ofNat 32 (nextBootno s.bootno.toNat)
    usec0 := s.usec0 + 2 ^ 48 * 1000
    wrapCopy := false
    folio := none
    folioVer := none
    folioDone := false
    folioVdone := false
    probes := s.probes.map (fun (p : Probe) => { p with folio := false })
    probing := s.probing.map (fun (p : Probe) => { p with folio := false }) }
  let s2 := (((s1.put F.LEDG_STATUS_FFFULL 0).put F.LEDG_STATUS_FFVERD 0).put F.LEDG_FFSLOT_SLOT (s1.bootno.toNat % 4096)).mark
    F.TALLY_EVENT_WRAP
  s2.jPush { s2.jRec 0x0103 0 old 0xFFFFFFFF#32 with stamp := { s2.recStamp with usec := 0 } }

/-- USEC_WRAP (R89, R90, R512): the instant at which USEC would pass its last value. The folio is emptied where VDD1V8 is
within its window (R697). -/
def usecWrap (ts : Nat) (s : State) : State :=
  let s := firstFaultCommit ts s
  if s.core.usecOn ∧ s.core.wrapCopy ∧ s.core.usec0 + 2 ^ 48 * 1000 ≤ s.core.now then
    let t := s.lift (fun c => c.wrap)
    if t.core.ledgerOn then t.emptyFolio else t
  else s

end Sys2Proof.Machine
end

