-- ==== Sys2Proof/Machine/Writes.lean ====
section
/-! DEFINITION. What a close does with one write of a register (R599, R600): the merged value, the checks in their
order, the store, and the effect of the registers that act. Every writer shares these: postings and single writes of the
doors (R586, R596) and the tellers' queued requests (R230). -/

namespace Sys2Proof.Machine

/-! ### The working state of a close -/

/-- What a close carries from action to action: the device, the fields and rails that postings have changed (R19), those
that higher-ranked tellers have changed (R185), those of the writer at work, the transfers and claims accepted (R582),
the resources that leave the program (R190), the WC bits cleared (R591), whether a request was merged (R602, R394), who
requested WATCH at this close, with the mode requested before (R35), whether a later request of that teller was refused or
merged (R220), the stored fields as they stood before the instant of the close (R650), the tellers restarted (R488), the posting,
by its door, whose entry of this number is refused for a request for WATCH that fails (R35, R601), and the entry of the last
posting that requested it. -/
structure Closing where
  dev     : Dev
  fields  : List Nat := []
  rails   : RailSet := 0
  tfields : List Nat := []
  trails  : RailSet := 0
  mine    : List Nat := []
  mineR   : RailSet := 0
  gives   : List (BitVec 8 × Owner) := []
  leaving : List (BitVec 8) := []
  cleared : List (Nat × Nat) := []
  merged  : Bool := false
  watchBy : Option (Writer × BitVec 16 × Nat) := none
  watchLate : Bool := false
  found   : List (Nat × Nat) := []
  restarts : List (Fin 8) := []
  deny    : Option (Fin 4 × Nat) := none
  watchPost : Option Nat := none
deriving DecidableEq, Repr

/-- Act on the device alone. -/
def Closing.on (c : Closing) (f : Dev → Dev) : Closing := { c with dev := f c.dev }

/-! ### Words and fields of a write -/

/-- R8: a field that a write can reach. -/
def Access.writable : Access → Bool
  | .ro => false
  | _ => true

/-- R8: a field that keeps what is written. -/
def Access.keeps : Access → Bool
  | .rw | .rwl | .rwo => true
  | _ => false

/-- The writable fields of a register (R8); X0 of a teller has none (R194), and the EN and PG fields of a controller
rail are reserved (R159). -/
def writables (r : Nat) : List FInfo :=
  let l := locate r
  if l.block = .teller ∧ l.off = 0x10 then []
  else (fieldsOf r).filter (fun f => f.acc.writable &&
    !(l.block == .rail && l.off == 0 && decide (l.idx < 8) && decide (4 ≤ f.lo) && decide (f.lo < 8)))

/-- The value of a field in a word. -/
def Fld.of (f : Fld) (w : Nat) : Nat := w / 2 ^ f.lo % 2 ^ f.w

/-- The same, of a row of a field map. -/
def FInfo.of (f : FInfo) (w : Nat) : Nat := w / 2 ^ f.lo % 2 ^ f.w

/-- Whether a field differs between two words. -/
def Fld.differs (f : Fld) (a b : Nat) : Bool := f.of a != f.of b

/-- A write at work: writer, PC of the requesting instruction (0 for a door), register, mask, the word before, and the
word written: the merged value of kept fields, the masked bits of the others (R596). -/
structure WriteAt where
  wr   : Writer
  pc   : BitVec 16
  reg  : Nat
  mask : Nat
  old  : Nat
  new  : Nat
deriving DecidableEq, Repr

/-- R596: the value that a write gives a field. -/
def FInfo.merge (f : FInfo) (old mask val : Nat) : Nat :=
  let o := f.of old
  let m := f.of mask
  let v := f.of val
  if f.acc.keeps then o - (o &&& m) + (v &&& m) else v &&& m

/-- R596: the word that a write gives a register's writable fields. -/
def mergedWord (r old mask val : Nat) : Nat :=
  (writables r).foldl (fun a f => a + f.merge old mask val * 2 ^ f.lo) 0

/-- The write at work, on the device as earlier actions leave it. -/
def Dev.writeAt (s : Dev) (wr : Writer) (pc : BitVec 16) (w : RegWrite) : WriteAt :=
  let old := (s.readReg w.reg).toNat
  ⟨wr, pc, w.reg, w.mask.toNat, old, mergedWord w.reg old w.mask.toNat w.val.toNat⟩

/-- The writable fields that a write's mask touches. -/
def WriteAt.touched (x : WriteAt) : List FInfo := (writables x.reg).filter (fun f => f.of x.mask != 0)

/-- A kept field that the write changes. -/
def WriteAt.changes (x : WriteAt) (f : FInfo) : Bool := f.acc.keeps && f.of x.old != f.of x.new

/-- Some kept field changes. -/
def WriteAt.alters (x : WriteAt) : Bool := (writables x.reg).any x.changes

/-! ### Margins (R482-R490) -/

/-- R486: the margin coverage. -/
def Dev.coverage (s : Dev) : Nat := s.tres / s.get F.MG_CFG_COST

/-- R488: a margin stands on the rail: in force, or admitted earlier in this close. -/
def Dev.marginStands (s : Dev) (n : Fin 48) : Bool :=
  s.margined n || (!isCtl n && (List.range 16).any (fun m =>
    s.get (F.MD_CFG_RAIL m) == n.val && s.get (F.MD_CODE_TARGET m) != 0))

/-- R486: MARGIN_HEAT: the rails with a margin would exceed the coverage. -/
def Dev.marginHot (s : Dev) (n : Fin 48) : Bool :=
  decide (s.coverage < (allRails.filter (fun r => r == n || s.marginStands r)).length)

/-- R484, R414: a value in uV lies between the guard levels of a rail. -/
def Dev.insideGuard (s : Dev) (n : Fin 48) (uv : Nat) : Bool :=
  let span := spanOf (s.get (F.RAIL_CFG_RANGE n))
  let g := s.get F.MG_CFG_GUARD
  decide (s.get (F.RAIL_WSTATUS_UVCODE n) * span * 100 * (1000 + g) < uv * 1024000) &&
    decide (uv * 1024000 < s.get (F.RAIL_WSTATUS_OVCODE n) * span * 100 * (1000 - g))

/-- R453: a target in uV lies outside 300-5,500 mV at FBPn. -/
def Dev.fbOutside (s : Dev) (n : Nat) (target : Nat) : Bool :=
  let k := s.get (F.SC_CFG_DIVK n)
  decide (target < 300000 * k) || decide (5500000 * k < target)

/-- R486: why a non-zero reference offset of a controller rail is refused. -/
def Dev.offsetRefusal (s : Dev) (c : Fin 8) (ofs : Nat) : Option Reason :=
  let n := ctlRail c
  let target := ((s.get (F.SC_VOUT_VSET c) : Int) * (1000 + signed 9 ofs)).toNat
  if ofs = 0 then none
  else if !s.isGood n then some .marginOff
  else if 2 ≤ s.level then some .marginThrottle
  else if !s.insideGuard n target then some .marginWindow
  else if s.fbOutside c target then some .marginLimit
  else if s.marginHot n then some .marginHeat
  else none

/-- The margin DAC that names a rail (R482). -/
def Dev.mdOf (s : Dev) (n : Fin 48) : Option (Fin 16) :=
  if isCtl n then none else (List.finRange 16).find? (fun m => s.get (F.MD_CFG_RAIL m) == n.val)

/-- R486: why a non-zero code of a margin DAC is refused. -/
def Dev.codeRefusal (s : Dev) (m : Fin 16) (code : Nat) : Option Reason :=
  if code = 0 then none
  else if h : s.get (F.MD_CFG_RAIL m) < 48 then
    let n : Fin 48 := ⟨s.get (F.MD_CFG_RAIL m), h⟩
    if isCtl n then some .noMd
    else if !s.isGood n then some .marginOff
    else if 2 ≤ s.level then some .marginThrottle
    else if s.marginHot n then some .marginHeat
    else none
  else some .noMd

/-- The reasons of R486 that MG.EVENT.REFUSED reports. -/
def Reason.ofMargin : Reason → Bool
  | .noMd | .marginOff | .marginThrottle | .marginWindow | .marginLimit | .marginHeat => true
  | _ => false

/-! ### Check 4: the conditions of each register (R599) -/

/-- The rail is OFF or UNUSED. -/
def Dev.railIdle (s : Dev) (n : Fin 48) : Bool := (s.rail n).code == .off || (s.rail n).code == .unused

/-- R135, R169: a VOFF above the span of the rail's RANGE. -/
def Dev.overSpan (s : Dev) (x : WriteAt) (n : Fin 48) : Bool :=
  decide (spanOf (s.get (F.RAIL_CFG_RANGE n)) < (F.RAIL_VOFF_VOFF n).of x.new)

/-- R129-R131, R159, R338: conditions on RAIL[n]; CMD stands apart. A change of RANGE that leaves the stored VOFF above the new
span meets no condition that the spec names: the model accepts it and VOFF stands (log entry 37). -/
def Dev.railCond (s : Dev) (x : WriteAt) (n : Fin 48) (off : Nat) : Option Reason :=
  match off with
  | 0x00 =>
    let pins := (F.RAIL_CFG_ENPOL n).differs x.old x.new || (F.RAIL_CFG_ENMODE n).differs x.old x.new ||
      (F.RAIL_CFG_PGUSE n).differs x.old x.new || (F.RAIL_CFG_PGPOL n).differs x.old x.new
    if (F.RAIL_CFG_CLAIM n).of x.old = 1 ∧ (F.RAIL_CFG_CLAIM n).of x.new = 0 then some .outOfRange
    else if (F.RAIL_CFG_RANGE n).of x.new = 3 ∧ n.val < 40 then some .outOfRange
    else if s.railIdle n then none
    else if (F.RAIL_CFG_USED n).differs x.old x.new || (F.RAIL_CFG_RANGE n).differs x.old x.new || (!isCtl n && pins) then
      some .railActive
    else none
  | 0x07 => if s.overSpan x n then some .outOfRange else none
  | 0x0A => if s.railIdle n then none else some .railActive
  | _ => none

/-- R447, R458: COUNT x FSW exceeds 8 MHz. -/
def tooFast (count fsw : Nat) : Bool := decide (800 < count * fsw)

/-- R451: a VSET or DIVK that R451 refuses. -/
def badVset (vset k : Nat) : Bool := decide (24000 < vset) || decide (vset < 300 * k) || decide (5500 * k < vset)

/-- R447, R451, R458, R473, R486: conditions on SC[n]. -/
def Dev.scCond (s : Dev) (x : WriteAt) (c : Fin 8) (off : Nat) : Option Reason :=
  let idle := s.railIdle (ctlRail c)
  match off with
  | 0x00 =>
    if !idle then some .railActive
    else if tooFast ((F.SC_MAP_COUNT c).of x.new) (s.get (F.SC_MOD_FSW c)) then some .outOfRange
    else none
  | 0x01 =>
    if !idle && x.alters then some .railActive
    else if (F.SC_CFG_DIVK c).differs x.old x.new && badVset (s.get (F.SC_VOUT_VSET c)) ((F.SC_CFG_DIVK c).of x.new) then
      some .outOfRange
    else none
  | 0x02 => if badVset ((F.SC_VOUT_VSET c).of x.new) (s.get (F.SC_CFG_DIVK c)) then some .outOfRange else none
  | 0x04 =>
    if !idle && x.alters then some .railActive
    else if tooFast (s.get (F.SC_MAP_COUNT c)) ((F.SC_MOD_FSW c).of x.new) then some .outOfRange
    else none
  | 0x09 => if (F.SC_CTL_CMD c).of x.new = 1 ∧ ¬ idle then some .railActive else none
  | 0x10 => s.offsetRefusal c ((F.SC_MRGN_OFS c).of x.new)
  | _ => none

/-- R480: changes of a phase's ICFG and TCFG. -/
def Dev.phCond (s : Dev) (x : WriteAt) (p : Fin 24) (off : Nat) : Option Reason :=
  match s.ctlOf p with
  | some c => if off < 2 ∧ x.alters ∧ ¬ s.railIdle (ctlRail c) then some .railActive else none
  | none => none

/-- R482, R483, R486: conditions on MD[m]; a code needs the writer to own the DAC, which check 1 has found. -/
def Dev.mdCond (s : Dev) (x : WriteAt) (m : Fin 16) (off : Nat) : Option Reason :=
  match off with
  | 0x00 =>
    let r := (F.MD_CFG_RAIL m).of x.new
    if r ≠ 0 ∧ (List.finRange 16).any (fun j => j != m && s.get (F.MD_CFG_RAIL j) == r) then some .mdBusy
    else if (F.MD_CFG_RAIL m).differs x.old x.new ∧ s.get (F.MD_CODE_PRESENT m) ≠ 0 then some .outOfRange
    else if (F.MD_CFG_CLAIM m).of x.old = 1 ∧ (F.MD_CFG_CLAIM m).of x.new = 0 then some .outOfRange
    else none
  | 0x01 => s.codeRefusal m ((F.MD_CODE_TARGET m).of x.new)
  | _ => none

/-- The trigger that a write of INJCTL presents (R392). -/
def Dev.injTrig (s : Dev) (x : WriteAt) (c : Fin 6) : Trig :=
  let src := match x.wr with
    | .door d => TrigSrc.door d
    | .teller k => TrigSrc.wrr k x.pc
  ⟨src, (F.CV_INJCTL_CH c).of x.new, (F.CV_INJCTL_KIND c).of x.new == 1, s.stamp, s.arrival c⟩

/-- R392, R393, R404, R411: conditions on CV[n]. A request meets ASLEEP in WATCH, and a burst a buffer that takes none
NOT_ARMED, as CAPT and INJ do. -/
def Dev.cvCond (s : Dev) (x : WriteAt) (c : Fin 6) (off : Nat) : Option Reason :=
  match off with
  | 0x03 =>
    let t := s.injTrig x c
    if t.ch = 12 ∧ c.val < 4 ∨ 13 ≤ t.ch ∨ (t.burst ∧ 8 ≤ t.ch) then some .outOfRange
    else if (F.CV_INJCTL_GO c).of x.new = 0 then none
    else if s.eff = .watch then some .asleep
    else if t.burst && !s.capTakes c then some .notArmed
    else if s.wouldDrop c t then some .trigOverrun
    else none
  | 0x06 => if (F.CV_CALCTL_START c).of x.new = 1 ∧ s.eff = .watch then some .asleep else none
  | 0x09 =>
    if (F.CV_OWCTL_START c).of x.new = 0 then none
    else if s.eff = .watch then some .asleep
    else if (s.cv c).wire.isSome then some .busy
    else none
  | _ => none

/-- R194: X1-X15 and PC accept writes while the teller is HALTED. -/
def Dev.tellerCond (s : Dev) (k : Fin 8) (off : Nat) : Option Reason :=
  if (off = 0x03 ∨ 0x10 ≤ off) ∧ (s.teller k).st ≠ .halted then some .tellerRunning else none

/-- R536, R537, R271, R272: conditions on LEDG.ARCHCTL. A MASK of 0 requests nothing. -/
def Dev.archCond (s : Dev) (x : WriteAt) : Option Reason :=
  let m := BitVec.ofNat 6 (F.LEDG_ARCHCTL_MASK.of x.new)
  match F.LEDG_ARCHCTL_CMD.of x.new with
  | 1 => if m = 0 then none else if s.eff = .watch then some .asleep else s.archRefusal m
  | 2 => if s.arch.isSome then some .busy else none
  | _ => none

/-- SHUT.CTL's keys: START_NORMAL and RELEASE_FLT of 09. -/
def keyStart : Nat := 0x3C
def keyRelease : Nat := 0xC3

/-- R644: a data bit rate must lie above the nominal one: of the codes, 1 Mbit/s data fails at 1 Mbit/s nominal. -/
def badRates (w : Nat) : Bool := F.DPROT_CAN_DBR.of w == 1 && F.DPROT_CAN_NBR.of w == 3

/-- Check 4 of R599 for every register. -/
def Dev.writeCond (s : Dev) (x : WriteAt) : Option Reason :=
  let l := locate x.reg
  match l.block with
  | .rail => if h : l.idx < 48 then s.railCond x ⟨l.idx, h⟩ l.off else none
  | .sc => if h : l.idx < 8 then s.scCond x ⟨l.idx, h⟩ l.off else none
  | .ph => if h : l.idx < 24 then s.phCond x ⟨l.idx, h⟩ l.off else none
  | .md => if h : l.idx < 16 then s.mdCond x ⟨l.idx, h⟩ l.off else none
  | .cv => if h : l.idx < 6 then s.cvCond x ⟨l.idx, h⟩ l.off else none
  | .teller => if h : l.idx < 8 then s.tellerCond ⟨l.idx, h⟩ l.off else none
  | .sh => if l.off = 0 ∧ (F.SH_WIN_START l.idx).of x.new = (F.SH_WIN_END l.idx).of x.new then some .outOfRange else none
  | .rsto => if l.off = 0 ∧ (F.RSTO_CFG_CLAIM l.idx).of x.old = 1 ∧ (F.RSTO_CFG_CLAIM l.idx).of x.new = 0 then some .outOfRange else none
  | .fixed =>
    match x.reg with
    | 0x0040 => if F.CASC_CFG_CLAIM.of x.old = 1 ∧ F.CASC_CFG_CLAIM.of x.new = 0 then some .outOfRange else none
    | 0x00D0 => if badRates x.new then some .outOfRange else none
    | 0x1B01 => if F.SHUT_CTL_CMD.of x.new = keyRelease ∧ s.tableRuns then some .tableRunning else none
    | 0x1D05 => s.archCond x
    | _ => none
  | _ => none

/-! ### Conditions that span several fields (R600) -/

/-- R154: the rails reachable from a set along interlocks, leaving out the edges of the rails of `skip`. -/
def Dev.gateReach (s : Dev) (skip : RailSet) : Nat → RailSet → RailSet
  | 0, m => m
  | fuel + 1, m =>
    let m' := (railsOf (m &&& ~~~skip)).foldl (fun (a : RailSet) (n : Fin 48) => a ||| s.gateSet n) m
    if m' = m then m else s.gateReach skip fuel m'

/-- R447: two maps overlap; one with COUNT = 0 holds no phase. -/
def Dev.mapsMeet (s : Dev) (a b : Fin 8) : Bool :=
  let fa := s.get (F.SC_MAP_FIRST a)
  let fb := s.get (F.SC_MAP_FIRST b)
  let ca := s.get (F.SC_MAP_COUNT a)
  let cb := s.get (F.SC_MAP_COUNT b)
  decide (0 < ca) && decide (0 < cb) && decide (fa < fb + cb) && decide (fb < fa + ca)

/-- Which spanning condition a register takes part in: the condition's number and the rail or controller it is of. -/
def spanGroup (r : Nat) : Option (Nat × Nat) :=
  let l := locate r
  match l.block, l.off with
  | .rail, 0x04 | .rail, 0x05 => some (0, l.idx)
  | .rail, 0x00 | .rail, 0x18 | .rail, 0x19 => some (1, l.idx)
  | .sc, 0x00 => some (2, l.idx)
  | .sc, 0x06 => some (3, l.idx)
  | .sc, 0x07 => some (4, l.idx)
  | _, _ => none

/-- R154, R415, R447, R467, R474: a spanning condition on the state the whole posting leaves. `later` are the groups
that later entries of the posting write. -/
def Dev.spanFails (s : Dev) (g : Nat × Nat) (later : List (Nat × Nat)) : Option Reason :=
  match g.1 with
  | 0 =>
    if h : g.2 < 48 then
      let n : Fin 48 := ⟨g.2, h⟩
      let skip := (allRails.filter (fun m => later.contains (0, m.val))).foldl (fun (a : RailSet) (m : Fin 48) => a ||| railOne m) 0
      if railIn (s.gateSet n) n then some .gateSelf
      else if railIn (s.gateReach skip 48 (s.gateSet n)) n then some .gateCycle
      else none
    else none
  | 1 =>
    if h : g.2 < 48 then
      let n : Fin 48 := ⟨g.2, h⟩
      let span := spanOf (s.get (F.RAIL_CFG_RANGE n))
      if ovCode (s.get (F.RAIL_OVTH_OVTH n)) span ≤ uvCode (s.get (F.RAIL_UVTH_UVTH n)) span then some .winOrder else none
    else none
  | 2 =>
    if h : g.2 < 8 then
      let c : Fin 8 := ⟨g.2, h⟩
      let meets := (List.finRange 8).any (fun b => b != c && s.mapsMeet c b && !later.contains (2, b.val))
      if 24 < s.get (F.SC_MAP_FIRST c) + s.get (F.SC_MAP_COUNT c) ∨ meets then some .outOfRange else none
    else none
  | 3 => if s.get (F.SC_PLIM_IPK g.2) ≤ s.get (F.SC_PLIM_IVAL g.2) then some .outOfRange else none
  | _ => if s.get (F.SC_TEMP_SHUT g.2) ≤ s.get (F.SC_TEMP_WARN g.2) then some .outOfRange else none

/-- The group of a write, where the write takes part in its condition: a write of RAIL.CFG only where it touches RANGE. -/
def RegWrite.group (w : RegWrite) : Option (Nat × Nat) :=
  match spanGroup w.reg with
  | some (1, n) => if (locate w.reg).off = 0 ∧ (F.RAIL_CFG_RANGE n).of w.mask.toNat = 0 then none else some (1, n)
  | g => g

/-! ### Storing -/

/-- R45: the bits of SYS.WAKE yield to a host's write alone, not to a teller's. -/
def WriteAt.clears (x : WriteAt) : Bool :=
  match x.wr with
  | .door _ => true
  | .teller _ => x.reg != 0x0006

/-- The write is of a margin field (R486). -/
def WriteAt.isMargin (x : WriteAt) : Bool :=
  let l := locate x.reg
  (l.block == .sc && l.off == 0x10) || (l.block == .md && l.off == 1)

/-- R487: a write of 0 to a margin field, which meets no check but that of ownership. -/
def WriteAt.endsMargin (x : WriteAt) : Bool := x.isMargin && x.new == 0

/-- Store the kept fields of a write and clear the WC bits written as 1 (R8, R231). The PC and X registers of a teller
are its own state. -/
def Dev.storeWrite (s : Dev) (x : WriteAt) : Dev :=
  let l := locate x.reg
  if h : l.block = .teller ∧ l.idx < 8 ∧ (l.off = 0x03 ∨ 0x10 ≤ l.off) then
    let k : Fin 8 := ⟨l.idx, h.2.1⟩
    if l.off = 0x03 then s.setTeller k { s.teller k with pc := BitVec.ofNat 16 x.new }
    else s.setTeller k ((s.teller k).xw (Fin.ofNat 16 l.off) (BitVec.ofNat 32 x.new))
  else (writables x.reg).foldl (fun (a : Dev) f =>
    let fld : Fld := ⟨x.reg, f.lo, f.w⟩
    if f.acc.keeps then a.put fld (f.of x.new)
    else if f.acc = .wc ∧ x.clears then a.put fld (a.get fld - (a.get fld &&& f.of x.new))
    else a) s

/-- The WC bits that a write clears, as they stood. -/
def Dev.clearing (s : Dev) (x : WriteAt) : List (Nat × Nat) :=
  ((writables x.reg).filter (fun f => f.acc == .wc && x.clears)).filterMap (fun f =>
    let fld : Fld := ⟨x.reg, f.lo, f.w⟩
    let b := s.get fld &&& f.of x.new
    if b = 0 then none else some (fld.key, b))

/-! ### Teller control (R192, R239) -/

/-- R193, R308: withdraw the purse requests of a teller that have not been granted. -/
def Dev.withdrawTeller (s : Dev) (k : Fin 8) : Dev :=
  { s with preqs := s.preqs.filter (fun q => q.who != PWho.teller k) }

/-- R489: TRES has fallen; a campaign that it no longer covers ends at the next close. A margin that a close has admitted counts
from its admission, as it does for R488, also while its DAC still stands at code 0 (log entry 40). -/
def Dev.coverCheck (s : Dev) : Dev :=
  if s.coverage < (allRails.filter s.marginStands).length then { s with mgEnd := s.mgEnd ||| 2 } else s

/-- R257, R327: release the HEAT reservations of a teller. -/
def Dev.dropTellerHeat (s : Dev) (k : Fin 8) : Dev :=
  { s with heatRes := s.heatRes.filter (fun h => match h.who with | .teller j _ => j != k | _ => true) }.coverCheck

/-- R192, R193: halt a teller after its current instruction: a stalled one once that instruction completes, a waiting one in
its wait (log entry 38). -/
def Dev.tellerHalt (s : Dev) (k : Fin 8) : Dev :=
  let t := s.teller k
  if t.st = .halted then s
  else if t.stall.isSome then s.setTeller k { t with step := true, again := false }
  else
    let ns := if t.st = .running then s.wdogNow k else t.wdogNs
    (s.setTeller k { t with st := .halted, wait := none, step := false, wdogNs := ns }).withdrawTeller k

/-- Set a halted teller going; in WATCH one that is not the watch teller is suspended until WATCH ends (R37, R201). -/
def Dev.tellerGo (s : Dev) (k : Fin 8) (t : Teller) : Dev :=
  if s.eff = .watch ∧ ¬ s.isWatchTeller k then s.setTeller k { t with st := .suspended, held := .running }
  else s.setTeller k { t with st := .running, runAt := s.now }

/-- R176, R192: start a teller from its entry point. The watchdog's count returns to 0 and EXC and TRAPPED are cleared: the
spec says neither, and the model takes the teller's start to be a start of both (log entry 38). -/
def Dev.tellerRestart (s : Dev) (k : Fin 8) : Dev :=
  let t := s.teller k
  (((s.withdrawTeller k).dropTellerHeat k).tellerGo k { t with
    exc := false
    trapped := false
    z := false
    n := false
    c := false
    t := false
    d := false
    pc := t.entry
    stack := []
    queue := []
    stall := none
    wait := none
    x := Vector.replicate 16 0
    wdogNs := 0
    step := false
    again := false })

/-- R192, R37, R239: a command of TELLER[k].CTL; `own` where the teller itself requested it: its RESTART then waits for the
instruction that is stalled. -/
def Dev.tellerCtl (s : Dev) (k : Fin 8) (cmd : Nat) (own : Bool) : Dev :=
  let t := s.teller k
  match cmd with
  | 1 => s.tellerHalt k
  | 2 => if t.st = .halted then s.tellerGo k { t with exc := false } else s
  | 3 => if own && t.stall.isSome then s.setTeller k { t with again := true, step := false } else s.tellerRestart k
  | 4 => if t.st = .halted ∧ s.eff ≠ .watch then s.tellerGo k { t with exc := false, step := true } else s
  | _ => s

/-! ### Effects -/

/-- R147: an OV that shows while the rail was UNUSED is declared once the rail is in use. -/
def Dev.rewatchOv (s : Dev) (n : Fin 48) : Dev :=
  let r := s.rail n
  if r.ovLive ∧ r.ovAt.isNone then s.setRail n { r with ovAt := some s.now } else s

/-- R130, R131, R147, R378, R414: what a change of RAIL[n].CFG does. -/
def Dev.railCfgDone (s : Dev) (x : WriteAt) (n : Fin 48) : Dev :=
  let s1 := if (F.RAIL_CFG_USED n).differs x.old x.new then
      (if (F.RAIL_CFG_USED n).of x.new = 1 then (s.railToOff n).rewatchOv n else s.setCode n .unused)
    else s
  let s2 := if (F.RAIL_CFG_CLAIM n).differs x.old x.new then s1.ctlIdle n else s1
  if (F.RAIL_CFG_RANGE n).differs x.old x.new then
    let s3 := (s2.recode n).put (F.RAIL_MEAS_VALID n) 0
    let s4 := if (s3.cv (cvOf n)).injCh = some (chOf n) then s3.clrBit (F.CV_INJRES_WORD (cvOf n)) 31 else s3
    s4.setRail n { s4.rail n with rangeAt := some s.now }
  else s2

/-- R473: REINSTATE. -/
def Dev.reinstate (s : Dev) (c : Fin 8) : Dev :=
  ((s.phasesOf c).foldl (fun (a : Dev) (p : Fin 24) => a.put (F.PH_STATUS_EXCL p) 0) s).put (F.SC_STATUS_N1 c) 0

/-- R484: a new TARGET: the first step follows MDSTEP later, where the present code stood at its target. -/
def Dev.mdAim (s : Dev) (x : WriteAt) (m : Fin 16) : Dev :=
  let s1 := s.put (F.MD_CODE_STOPPED m) 0
  if (F.MD_CODE_TARGET m).of x.old = s.get (F.MD_CODE_PRESENT m) then { s1 with mdAt := s1.mdAt.set m.val s1.now m.isLt }
  else s1

/-- R432, R440: CAP[n].CTL's commands: ARM acts from OFF and FROZEN and begins FILL anew, and a buffer that a commit copies
then stays FROZEN until its copy ends; under DISARM a burst in progress first completes. -/
def Dev.capCommand (s : Dev) (c : Fin 6) (cmd : Nat) : Dev :=
  let st := s.capState c
  let x := s.cap c
  match cmd with
  | 1 =>
    if st = capCapturing ∨ x.back = some capArmed ∨ st = capArmed then s
    else
      let held := s.flag (F.CAP_STATUS_ARCH c)
      (((s.setCap c { x with back := if held then some capArmed else none }).put (F.CAP_STATUS_STATE c)
        (if held then capFrozen else capArmed)).put (F.CAP_FILL_FILL c) 0).capSync c
  | 2 =>
    if st = capCapturing then s.setCap c { x with disarm := true }
    else if x.back.isSome then s.setCap c { x with back := some capOff }
    else ((s.put (F.CAP_STATUS_STATE c) capOff).capDropPending c).capSync c
  | _ => s

/-- R392, R394, R404: what a write of CV[n] requests. -/
def Dev.cvDone (s : Dev) (x : WriteAt) (c : Fin 6) (off : Nat) : Dev :=
  match off with
  | 0x03 =>
    if (F.CV_INJCTL_GO c).of x.new = 1 then
      let t := s.injTrig x c
      (if t.burst then s
        else (s.setCv c { s.cv c with injReady := (s.cv c).injReady || (s.get (F.CV_INJRES_WORD c)).testBit 30 }).clrBit (F.CV_INJRES_WORD c) 30).present c t
    else s
  | 0x06 => if (F.CV_CALCTL_START c).of x.new = 1 ∧ ¬ s.calibrating c then s.calRequest c else s
  | 0x09 => if (F.CV_OWCTL_START c).of x.new = 1 then s.wireStart c ((F.CV_OWCTL_CH c).of x.new) false else s
  | _ => s

/-- R316: a change of INCFG: the balance falls to CAP, and waiting requests above it are refused outright. -/
def Dev.inrushCap (s : Dev) : Dev :=
  let cap := s.get F.PURSE_INCFG_CAP
  let s1 := { s with inrushUj := min (cap * 1000) s.inrushUj }
  (s1.preqs.filter (fun q => q.budget == .inrush && decide (cap < q.amt))).foldl (fun (a : Dev) q => a.refuseReq q 4) s1

/-- R73: EN = 0 ends the sag governor's action, except in HOLD-UP and while the monitor is lost. -/
def Dev.sagEnable (s : Dev) : Dev :=
  if s.flag F.PWR_SAG_EN ∨ s.dev = .holdUp ∨ s.flag F.SAFE_STATUS_MONLOST ∨ s.sag = 0 then s
  else ((s.setSag 0).journal 0x0106 0 0 3).chgRun

/-- R25, R28: a reboot request. The spec does not say what becomes of one that meets a run of higher rank: the entry is merged
and changes nothing (R359), and in the model the request itself stands, so that the device boots when that run ends in RUN
(log entry 37). -/
def Dev.rebootRequest (s : Dev) : Dev :=
  match s.dev with
  | .bootFail => s.enterBoot
  | .run => { s with vault := { s.vault with reboot := true } }.requestEntry .normal 0
  | _ => s

/-- R536, R537: LEDG.ARCHCTL. -/
def Dev.archDoor (s : Dev) (x : WriteAt) : Dev :=
  let m := BitVec.ofNat 6 (F.LEDG_ARCHCTL_MASK.of x.new)
  match F.LEDG_ARCHCTL_CMD.of x.new with
  | 1 =>
    if m = 0 then s
    else match x.wr with
      | .door d => s.archStart m true d.val
      | .teller k => s.archStart m false k.val
  | 2 => { (s.copyWritten 2).copyWritten 3 with afill := (0, 0) }   -- R697: its words wait for VDD1V8
  | _ => s

/-- R37, R195: suspend a RUNNING or WAITING teller. -/
def Teller.suspend (t : Teller) (now : Nat) : Teller :=
  match t.st with
  | .running => { t with st := .suspended, held := .running, wdogNs := t.wdogNs + (now - t.runAt) }
  | .waiting => { t with st := .suspended, held := .waiting }
  | _ => t

/-- R37, R200: WTELLER names another teller in WATCH: `was`, the old one, is suspended as the others were, and the new one, if it
is suspended, stands as WATCH found it and runs after the next wake event. -/
def Dev.watchPass (s : Dev) (was : Nat) : Dev :=
  let s1 := (List.finRange 8).foldl (fun (a : Dev) (k : Fin 8) =>
    let t := a.teller k
    if k.val = was then a.setTeller k (if s.awake || t.st != .running then t.suspend a.now else { t with st := .suspended, held := .running })
    else if a.isWatchTeller k && t.st == .suspended then a.setTeller k { t with st := t.held, runAt := a.now }
    else a) s
  { s1 with awake := false }

/-- The effect of a stored write on a fixed register. -/
def Dev.fixedDone (s : Dev) (x : WriteAt) : Dev :=
  match x.reg with
  | 0x0005 => if s.eff = .watch ∧ F.SYS_MODE_WTELLER.differs x.old x.new then s.watchPass (F.SYS_MODE_WTELLER.of x.old) else s
  | 0x0007 => if F.SYS_RESET_KEY.of x.new = 0xA5 then s.rebootRequest else s
  | 0x0008 => if F.SYS_LOCK_KEY.of x.new = 0x5A then s.mark F.SYS_LOCK_LOCKED else s
  | 0x0040 =>
    if F.CASC_CFG_OUTDLY.differs x.old x.new then s.cascEval true
    else if F.CASC_CFG_CLAIM.differs x.old x.new then s.cascClaim
    else s.cascEval false
  | 0x0041 | 0x0042 => s.cascEval x.alters
  | 0x00D0 => if x.alters then { s with can := { s.can with integ := false } } else s
  | 0x0105 => s.chgRestart
  | 0x0107 => s.sagEnable
  | 0x0208 => s.tallySource (F.TALLY_CFG_SRC.of x.old)
  | 0x1A01 => s.inrushCap
  | 0x1B01 =>
    if F.SHUT_CTL_CMD.of x.new = keyStart then s.requestEntry .normal 0
    else if F.SHUT_CTL_CMD.of x.new = keyRelease then s.releaseFlt
    else s
  | 0x1D05 => s.archDoor x
  | _ => s

/-- The effect of a stored write on the registers that act. -/
def Dev.writeDone (s : Dev) (x : WriteAt) : Dev :=
  let l := locate x.reg
  match l.block with
  | .rail =>
    if h : l.idx < 48 then
      let n : Fin 48 := ⟨l.idx, h⟩
      match l.off with
      | 0x00 => s.railCfgDone x n
      | 0x18 | 0x19 => s.recode n
      | _ => s
    else s
  | .sc =>
    if h : l.idx < 8 then
      let c : Fin 8 := ⟨l.idx, h⟩
      match l.off with
      | 0x03 => if s.scOp c = scStop ∧ s.get (F.SC_SOFT_STOP c) = 0 then s.setOp c scIdle else s   -- R464
      | 0x09 => if (F.SC_CTL_CMD c).of x.new = 1 then s.reinstate c else s
      | 0x10 => s.healthMargin (ctlRail c)
      | _ => s
    else s
  | .md => if h : l.idx < 16 then (if l.off = 1 then s.mdAim x ⟨l.idx, h⟩ else s) else s
  | .rsto =>
    if h : l.idx < 8 ∧ ¬ s.regionStops then   -- R683
      s.rstoEval ⟨l.idx, h.1⟩ (
        if l.off ≠ 0 then (if x.alters then .judge else .keep)
        else if (F.RSTO_CFG_CLAIM l.idx).differs x.old x.new || (F.RSTO_CFG_MODE l.idx).differs x.old x.new then .judge
        else if (F.RSTO_CFG_STRETCH l.idx).differs x.old x.new then .restart
        else .keep)
    else s
  | .teller =>
    if h : l.idx < 8 then
      if l.off = 1 then s.tellerCtl ⟨l.idx, h⟩ ((F.TELLER_CTL_CMD l.idx).of x.new) (x.wr == .teller ⟨l.idx, h⟩) else s
    else s
  | .cv => if h : l.idx < 6 then s.cvDone x ⟨l.idx, h⟩ l.off else s
  | .cap => if h : l.idx < 6 then (if l.off = 1 then s.capCommand ⟨l.idx, h⟩ ((F.CAP_CTL_CMD l.idx).of x.new) else s) else s
  | .fixed => s.fixedDone x
  | _ => s

/-- R125: a change, stored by `f`, ends the blanking of every shutter that `p` selects. The source must enter the window anew
(log entry 18): where it stands inside the new one it must leave it first. -/
def Dev.endBlanks (s : Dev) (p : Fin 16 → Bool) (f : Dev → Dev) : Dev :=
  let each (g : Dev → Fin 16 → Dev) (t : Dev) : Dev :=
    (List.finRange 16).foldl (fun (a : Dev) (n : Fin 16) => if p n then g a n else a) t
  (each (fun a n => a.setShutter n { a.shutter n with spent := a.inShutter n })
    (f (each (fun a n => if a.blanks n then a.endBlank n true else a) s))).reblank

/-- Store a write where other state must move with the store: references (R454), the scan up to a change of its S and N (R375), ANGLE (R96), SANGLE (R111, R112), what the
gates have compared (R113), blankings (R125), FRESH (R326) and the latched substitutions (R337). -/
def Dev.applyWrite (s : Dev) (x : WriteAt) : Dev :=
  let l := locate x.reg
  let stored : Dev :=
    match l.block with
    | .sc =>
      if h : l.idx < 8 then
        (if l.off = 0x02 ∨ l.off = 0x03 ∨ l.off = 0x10 then s.retarget ⟨l.idx, h⟩ (fun t => t.storeWrite x) else s.storeWrite x)
      else s
    | .sh => s.endBlanks (fun n => x.alters && n.val == l.idx) (fun t => t.storeWrite x)
    | .mask => s.endBlanks (fun n => x.alters && s.get (F.SH_CTL_MASK n) == l.idx) (fun t => t.storeWrite x)
    | .ag => (s.gateSettle.storeWrite x).gateJump
    | .cv => if h : l.idx < 6 then (if l.off = 0 then ((s.scanned ⟨l.idx, h⟩).storeWrite x).cfgTaken ⟨l.idx, h⟩ else s.storeWrite x) else s
    | .fixed =>
      match x.reg with
      | 0x0208 =>
        let t := s.gateSettle
        ({ t with angle := t.ang }.storeWrite x).gateJump
      | 0x020A =>
        let t := s.gateSettle
        (((t.synthFrom t.sangle).storeWrite x).gateJump).rewindow
      | 0x2204 => s.endSubst x.new
      | 0x2201 | 0x2203 => (s.storeWrite x).freshen
      | _ => s.storeWrite x
    | _ => s.storeWrite x
  stored.writeDone x

/-! ### Checks 1-3 and 5 (R599) -/

/-- R599 check 1, R582, R190, R537: the writer may write the register. A command of ARCHCTL names its own owners; in
BOOT-FAIL any door may request a reboot (R28). -/
def Closing.mayWrite (c : Closing) (x : WriteAt) : Bool :=
  let own (r : BitVec 8) : Bool := c.dev.owner r == x.wr.owner &&
    (match x.wr with | .teller _ => !c.leaving.contains r | .door _ => true)
  if x.reg = 0x1D05 then
    match F.LEDG_ARCHCTL_CMD.of x.new with
    | 1 => (List.finRange 6).all (fun v => !(F.LEDG_ARCHCTL_MASK.of x.new).testBit v || own (BitVec.ofNat 8 (0x40 + v.val)))
    | 2 => (c.dev.resource x.reg).any own
    | _ => true
  else if x.reg = 0x0007 ∧ c.dev.dev = .bootFail then true
  else (c.dev.resource x.reg).any own

/-- R599 check 2: the write would change an RWL field after LOCK. -/
def WriteAt.breaksLock (s : Dev) (x : WriteAt) : Bool :=
  s.locked && (writables x.reg).any (fun f => f.acc == .rwl && x.changes f)

/-- R599 check 3: every writable field lies within its stated range. -/
def WriteAt.inRange (x : WriteAt) : Bool :=
  (writables x.reg).all (fun f => f.acc == .wc || f.rng.ok f.w (f.of x.new))

/-- The margin fields, which the vault alone of all fields changes beside postings and tellers (R491). -/
def isMarginKey (k : Nat) : Bool :=
  (List.range 16).any (fun m => k == (F.MD_CODE_TARGET m).key) || (List.range 8).any (fun n => k == (F.SC_MRGN_OFS n).key)

/-- R18, R19, R185: a higher-ranked action of this close, or the vault since the last one, has changed one of these
fields. -/
def Closing.fieldTaken (c : Closing) (wr : Writer) (keys : List Nat) : Option Reason :=
  if c.dev.vaultMargins && keys.any isMarginKey then some .precedence
  else match wr with
  | .door _ => none
  | .teller _ =>
    if keys.any (fun k => c.fields.contains k) then some .precedence
    else if keys.any (fun k => c.tfields.contains k) then some .tellerRank
    else none

/-- R18, R19, R185: a higher-ranked action of this close has changed the rail's state. -/
def Closing.railTaken (c : Closing) (wr : Writer) (n : Fin 48) : Option Reason :=
  if railIn c.dev.vaultRails n then some .precedence
  else match wr with
    | .door _ => none
    | .teller _ =>
      if railIn c.rails n then some .precedence else if railIn c.trails n then some .tellerRank else none

/-- The writer has changed the rail's state. -/
def Closing.touchRail (c : Closing) (n : Fin 48) : Closing := { c with mineR := c.mineR ||| railOne n }

/-! ### ON, OFF and FOFF (R136-R139, R241, R242, R589) -/

/-- R136, R138: an ON of a rail, its conditions in their order. A rail that a higher-ranked action of this close has put into
ARMED is no merge but condition 11: the example of the teller chapter. -/
def Closing.railOn (c : Closing) (wr : Writer) (n : Fin 48) : Option Reason × Closing :=
  match c.dev.onCheck n c.dev.calOpen.isSome with
  | .refused r => (some r, c)
  | .merged => (some ((c.railTaken wr n).getD .merged), c)
  | .nothing => (none, c)
  | .arm =>
    match c.railTaken wr n with
    | some r => (some r, c)
    | none => (none, (c.on (fun s => s.arm n wr)).touchRail n)

/-- R136, R139, R242: an OFF or FOFF; only a higher-ranked change of the same rail refuses it (R19, R185), whatever state that
change has left. Where the main region counts as stopped only a table step switches an output (R683). -/
def Closing.railOff (c : Closing) (wr : Writer) (n : Fin 48) (fast : Bool) : Option Reason × Closing :=
  match c.railTaken wr n, (if c.dev.regionStops then RailCode.off else (c.dev.rail n).code) with
  | some r, _ => (some r, c)
  | none, .unused | none, .off => (none, c)
  | none, .falling => (none, c.on (fun s => s.off n fast))
  | none, _ => (none, (c.on (fun s => s.off n fast)).touchRail n)

/-- A request on one rail. `merged` is the reason of a merged ON (R136). -/
def Closing.railAct (c : Closing) (wr : Writer) (n : Fin 48) : RailOp → Option Reason × Closing
  | .on => c.railOn wr n
  | .off => c.railOff wr n false
  | .foff => c.railOff wr n true

/-- RAIL[n].CMD's codes. -/
def railOpOf : Nat → Option RailOp
  | 1 => some .on
  | 2 => some .off
  | 3 => some .foff
  | _ => none

/-! ### Ownership (R581-R583) -/

/-- A resource number that the ownership table does not define (R290). -/
def reservedRes (r : BitVec 8) : Bool := decide (0x46 ≤ r.toNat ∧ r.toNat < 0x50) || decide (0x81 ≤ r.toNat)

/-- R581, R583: judge a write of OWN.GIVE; an accepted one waits for step 4 of R604. -/
def Closing.give (c : Closing) (wr : Writer) (v : Nat) : Option Reason × Closing :=
  let res := BitVec.ofNat 8 v
  match Owner.ofCode (v / 256 % 8) with
  | none => (some .outOfRange, c)
  | some taker =>
    let cur := c.dev.owner res
    if reservedRes res then (some .outOfRange, c)
    else if !(cur == wr.owner || (cur == .none && taker == wr.owner)) then (some .owned, c)
    else if c.gives.any (fun g => g.1 == res) then (some .owned, c)
    else (none, { c with gives := c.gives ++ [(res, taker)] })

/-! ### A door's own block (R585, R590, R596-R598) -/

/-- R590, R593: SCMD. -/
def Dev.scmd (s : Dev) (d : Fin 4) (cmd : Nat) : Dev :=
  let x := s.door d
  match cmd with
  | 1 => if x.sreq.isSome then s else s.setDoor d { x with sreq := some s.now, sready := false }
  | 2 => s.setDoor d { x with hold := false }
  | _ => s

/-- R596, R597: append an entry to the posting buffer. -/
def Dev.padd (s : Dev) (d : Fin 4) (reg : Nat) : Dev :=
  let x := s.door d
  if 256 ≤ x.entries.length then s.setDoor d { x with povf := true }
  else s.setDoor d { x with
    entries := x.entries ++ [⟨reg, BitVec.ofNat 32 (s.get (F.DOOR_PMASK_MASK d)), BitVec.ofNat 32 (s.get (F.DOOR_PVAL_VALUE d))⟩] }

/-- R597, R598: PCMD. -/
def Dev.pcmd (s : Dev) (d : Fin 4) (cmd : Nat) : Dev :=
  let x := s.door d
  match cmd with
  | 1 => (s.setDoor d { x with queue := x.queue ++ [(s.now, .post)] }).put (F.DOOR_PRES_READY d) 0
  | 2 => s.setDoor d { x with entries := [], povf := false }
  | _ => s

/-- R650: a clearing write takes only a WC bit that was 1 before this instant, as the fields `found` have it. -/
def WriteAt.spare (x : WriteAt) (s : Dev) (found : List (Nat × Nat)) : WriteAt :=
  { x with new := ((writables x.reg).filter (fun f => f.acc == .wc)).foldl (fun (a : Nat) f =>
      let fld : Fld := ⟨x.reg, f.lo, f.w⟩
      let b := f.of a
      a - (b - (b &&& ({ s with regs := found } : Dev).get fld)) * 2 ^ f.lo) x.new }

/-- R585, R650: a write of a register of the door's own block acts at once. -/
def Dev.ownWrite (s : Dev) (d : Fin 4) (off : Nat) (mask val : Word) : Dev :=
  match off with
  | 0x01 => s.scmd d (val &&& mask &&& 3).toNat
  | 0x0A => s.padd d (val &&& mask &&& 0xFFFF).toNat
  | 0x0B => s.pcmd d (val &&& mask &&& 3).toNat
  | _ => s.storeWrite ((s.writeAt (.door d) 0 ⟨0x1F00 + 0x40 * d.val + off, mask, val⟩).spare s s.before)

/-- The door whose block holds a register, when the writer is that door (R585, R588). -/
def ownBlock (wr : Writer) (reg : Nat) : Option (Fin 4) :=
  let l := locate reg
  match wr with
  | .door d => if l.block = .door ∧ l.idx = d.val then some d else none
  | .teller _ => none

/-! ### One entry -/

/-- R394, R270: a teller asks for the calibration of a converter that calibrates or will: MERGED. -/
def Dev.calMerged (s : Dev) (x : WriteAt) : Bool :=
  let l := locate x.reg
  match x.wr with
  | .door _ => false
  | .teller _ =>
    if h : l.block = .cv ∧ l.off = 0x06 ∧ l.idx < 6 then
      (F.CV_CALCTL_START l.idx).of x.new == 1 && s.calibrating ⟨l.idx, h.2.2⟩
    else false

/-- What an entry came to: refused with the order of its check and its reason, or not. -/
abbrev EntryOutcome := Option (Nat × Reason)


/-- The tellers that a write restarts. -/
def restartsOf (ws : List RegWrite) : List (Fin 8) :=
  (List.finRange 8).filter (fun k => ws.any (fun w =>
    w.reg == (F.TELLER_CTL_CMD k).reg && (F.TELLER_CTL_CMD k).of (w.val &&& w.mask).toNat == 3))

/-- R597: a write of PADD, or of POST or DISCARD to PCMD, by its offset in the door's block. -/
def RegWrite.stages (w : RegWrite) (off : Nat) : Bool :=
  off == 0x0A || (off == 0x0B && ((w.val &&& w.mask).toNat % 4 == 1 || (w.val &&& w.mask).toNat % 4 == 2))

/-- R597: a POST of the door is pending. -/
def Dev.postPends (s : Dev) (d : Fin 4) : Bool := (s.door d).queue.any (fun q => q.2 == DoorItem.post)

/-- R599, R588, R597: check one entry and, where nothing refuses it, apply it. -/
def Closing.entry (c : Closing) (wr : Writer) (pc : BitVec 16) (w : RegWrite) : EntryOutcome × Closing :=
  if w.reg = 0x00C0 then
    match c.give wr (w.val &&& w.mask).toNat with
    | (some r, _) => (some (4, r), c)
    | (none, c1) => (none, c1)
  else
    let s := c.dev
    let x := s.writeAt wr pc w
    let l := locate w.reg
    if (writables w.reg).isEmpty then (none, c)
    else if h : (ownBlock wr w.reg).isSome then
      if w.stages l.off && s.postPends ((ownBlock wr w.reg).get h) then (some (4, .busy), c)
      else (none, { (c.on (fun s => s.ownWrite ((ownBlock wr w.reg).get h) l.off w.mask w.val)) with cleared := c.cleared ++ s.clearing x })
    else if !c.mayWrite x then (some (1, .notOwner), c)
    else if x.breaksLock s then (some (2, .locked), c)
    else if !x.inRange then (some (3, .outOfRange), c)
    else
      match s.writeCond x with
      | some r => (some (4, r), c)
      | none =>
        if h : l.block = .rail ∧ l.off = 0x0B ∧ l.idx < 48 then
          match railOpOf ((F.RAIL_CMD_CMD l.idx).of x.new) with
          | none => (none, c)
          | some op =>
            match c.railAct wr ⟨l.idx, h.2.2⟩ op with
            | (some .merged, _) => (none, { c with merged := true })
            | (some .precedence, _) => (some (5, .precedence), c)
            | (some .tellerRank, _) => (some (5, .tellerRank), c)
            | (some r, _) => (some (4, r), c)
            | (none, c1) => (none, c1)
        else
          let keys := x.touched.map (fun f => (⟨w.reg, f.lo, f.w⟩ : Fld).key)
          let used := l.block == .rail && l.off == 0 && (F.RAIL_CFG_USED l.idx).differs x.old x.new
          let taken := match (if x.endsMargin then none else c.fieldTaken wr keys) with
            | some r => some r
            | none => if h : used ∧ l.idx < 48 then c.railTaken wr ⟨l.idx, h.2⟩ else none
          match taken with
          | some r => (some (5, r), c)
          | none =>
            let c1 := { c with
              dev := s.applyWrite (x.spare c.dev c.found)
              mine := c.mine ++ keys
              cleared := c.cleared ++ s.clearing (x.spare c.dev c.found)
              merged := c.merged || s.calMerged x
              restarts := c.restarts ++ restartsOf [w] }
            let c2 := if h : used ∧ l.idx < 48 then c1.touchRail ⟨l.idx, h.2⟩ else c1
            if w.reg = 0x0005 ∧ F.SYS_MODE_REQ.of x.mask ≠ 0 then
              (none, { c2 with
                watchBy := if F.SYS_MODE_REQ.of x.new = 2 then some (wr, pc, F.SYS_MODE_REQ.of x.old) else none
                watchLate := false
                watchPost := none })
            else (none, c2)

/-! ### A posting, a single write, a teller's request: whole or not at all (R601, R184) -/

/-- A refused entry: its index, the order of the check, its reason. -/
abbrev Refused := Nat × Nat × Reason

/-- The refusal that stands first: by entry, then by order of the check. -/
def firstRefusal (a : Option Refused) (b : Refused) : Option Refused :=
  match a with
  | none => some b
  | some r => if b.1 < r.1 ∨ (b.1 = r.1 ∧ b.2.1 < r.2.1) then some b else some r

/-- Apply the entries in order; the first refusal of checks 1-5 is kept. -/
def Closing.run (wr : Writer) (pc : BitVec 16) : Nat → List RegWrite → Option Refused × Closing → Option Refused × Closing
  | _, [], r => r
  | i, w :: ws, r =>
    match r.2.entry wr pc w with
    | (some e, _) => Closing.run wr pc (i + 1) ws (firstRefusal r.1 (i, e.1, e.2), r.2)
    | (none, c1) => Closing.run wr pc (i + 1) ws (r.1, c1)

/-- R600: the spanning conditions of the entries, each at the last entry that takes part in it. -/
def spanRefusals (s : Dev) : Nat → List RegWrite → Option Refused → Option Refused
  | _, [], r => r
  | i, w :: ws, r =>
    let later := ws.filterMap RegWrite.group
    match w.group with
    | some g =>
      if later.contains g then spanRefusals s (i + 1) ws r
      else match s.spanFails g later with
        | some e => spanRefusals s (i + 1) ws (firstRefusal r (i, 4, e))
        | none => spanRefusals s (i + 1) ws r
    | none => spanRefusals s (i + 1) ws r

/-- What a refused entry leaves in the device all the same: the counters and events that report it (R392, R397, R271,
R486). -/
def Dev.refusalMarks (s : Dev) (wr : Writer) (w : RegWrite) (r : Reason) : Dev :=
  let l := locate w.reg
  if r.ofMargin ∧ ((l.block = .sc ∧ l.off = 0x10) ∨ (l.block = .md ∧ l.off = 1)) then s.mark F.MG_EVENT_REFUSED
  else if r = .notOwner ∧ l.block = .md ∧ l.off = 1 ∧ (s.writeAt wr 0 w).new ≠ 0 then s.mark F.MG_EVENT_REFUSED
  else if h : l.block = .cv ∧ l.off = 0x03 ∧ r = .trigOverrun ∧ l.idx < 6 then
    let c : Fin 6 := ⟨l.idx, h.2.2.2⟩
    (if (s.cv c).op = CvOp.cal then s.bump (F.CV_TRIG_DURCAL c) else s).countDrop c
  else if w.reg = 0x1D05 ∧ F.LEDG_ARCHCTL_CMD.of (s.writeAt wr 0 w).new = 1 then s.archRefused r
  else s

/-- R601, R184: apply every write, or none; the refusal of the first refused entry. -/
def Closing.whole (c : Closing) (wr : Writer) (pc : BitVec 16) (ws : List RegWrite) : Option (Nat × Reason) × Closing :=
  let r := Closing.run wr pc 0 ws (none, c)
  match spanRefusals r.2.dev 0 ws r.1 with
  | none => (none, r.2)
  | some e =>
    let marked := match ws[e.1]? with
      | some w => if e.2.1 = 4 ∨ (e.2.1 = 1 ∧ (locate w.reg).block = .md) then c.on (fun s => s.refusalMarks wr w e.2.2) else c
      | none => c
    (some (e.1, e.2.2), marked)

end Sys2Proof.Machine
end

