-- ==== Sys2Proof/Machine/Close.lean ====
section
/-! DEFINITION. The close (R604): the vault's actions as applied, the doors' postings and single writes, the tellers'
queues, the mode, ownership, statements, latches. -/

namespace Sys2Proof.Machine

/-! ### The end of a campaign (R489) -/

/-- Set every margin field to 0 (R489). -/
def Dev.zeroMargins (s : Dev) : Dev :=
  let s1 := (List.finRange 8).foldl (fun (a : Dev) (c : Fin 8) =>
    (a.retarget c (fun t => t.put (F.SC_MRGN_OFS c) 0)).healthMargin (ctlRail c)) s
  (List.finRange 16).foldl (fun (a : Dev) (m : Fin 16) => a.mdHome m) s1

/-- R489: a campaign that throttling or lost coverage ends, ends at this close. -/
def Dev.marginEnd (s : Dev) : Dev :=
  if s.mgEnd = 0 then s
  else
    let s1 := { s with mgEnd := 0 }
    if !s.campaign && !allRails.any s.marginStands then s1
    else
      let s2 := if s.mgEnd.getLsbD 0 then s1.journal 0x0902 0 0 else s1
      let s3 := if s.mgEnd.getLsbD 1 then s2.journal 0x0902 0 1 else s2
      s3.zeroMargins

/-- R489, R650: the events of the campaign that marginEnd ended at the close which began with `s`: a clearing write of that
same close does not take them. -/
def Dev.marginEvents (s t : Dev) : Dev :=
  if s.mgEnd = 0 || (!s.campaign && !allRails.any s.marginStands) then t
  else
    let t1 := if s.mgEnd.getLsbD 0 then t.mark F.MG_EVENT_END_THROTTLE else t
    if s.mgEnd.getLsbD 1 then t1.mark F.MG_EVENT_END_COVER else t1

/-! ### Step 2: the doors (R586, R598-R602) -/

/-- What a writer has done is over: its fields and rails now outrank the tellers' (R19). -/
def Closing.doorDone (c : Closing) : Closing :=
  { c with
    fields := c.mine ++ c.fields
    rails := c.rails ||| c.mineR
    mine := []
    mineR := 0
    merged := false }

/-- R598, R601, R602: the result of a posting. -/
def Dev.postResult (s : Dev) (d : Fin 4) (e : Option (Nat × Reason)) (merged : Bool) : Dev :=
  let s1 := ((s.put (F.DOOR_PRES_RESULT d) (if e.isSome then 2 else 1)).mark (F.DOOR_PRES_READY d)).roll (F.DOOR_PRES_SEQ d)
  let s2 := s1.putB (F.DOOR_PRES_MERGED d) (merged && e.isNone)
  match e with
  | some r => ((s2.put (F.DOOR_PRES_REASON d) r.2.code).put (F.DOOR_PRES_INDEX d) r.1).cause d cRefused
  | none => ((s2.put (F.DOOR_PRES_REASON d) 0).put (F.DOOR_PRES_INDEX d) 0).cause d cPosted

/-- The last entry of a posting that requests a mode. -/
def modeEntry (ws : List RegWrite) : Option Nat :=
  ((List.range ws.length).filter (fun i =>
    ws[i]?.any (fun w => w.reg == 0x0005 && F.SYS_MODE_REQ.of w.mask.toNat != 0))).getLast?

/-- R598-R601: a posting applied whole or refused whole. -/
def Closing.posted (c : Closing) (d : Fin 4) (ws : List RegWrite) : Closing :=
  let r := c.whole (.door d) 0 ws
  let c1 := (r.2.on (fun s => s.postResult d r.1 r.2.merged)).doorDone
  if r.1.isNone ∧ (modeEntry ws).isSome then { c1 with watchPost := modeEntry ws } else c1

/-- One item of a door. -/
def Closing.doorItem (c : Closing) (d : Fin 4) (it : DoorItem) : Closing :=
  match it with
  | .write w =>
    match c.whole (.door d) 0 [w] with
    | (some r, c1) => (c1.on (fun s => s.writeRefused d w.reg r.2)).doorDone
    | (none, c1) => c1.doorDone
  | .post =>
    let x := c.dev.door d
    let c0 := c.on (fun s => s.setDoor d { x with entries := [], povf := false })
    if x.povf then c0.on (fun s => s.postResult d (some (0, .count)) false)
    else
      match c.deny with
      | some (e, i) =>
        if e = d then c0.on (fun s => s.postResult d (some (i, .modeRefused)) false) else c0.posted d x.entries
      | none => c0.posted d x.entries

/-- R587: the items of a door accepted at least 0.2 us before the close, in their order of acceptance. -/
def Closing.doorItems (c : Closing) (d : Fin 4) : Closing :=
  let x := c.dev.door d
  let due (q : Nat × DoorItem) : Bool := c.dev.elapsed q.1 200
  (x.queue.filter due).foldl (fun (a : Closing) q => a.doorItem d q.2)
    (c.on (fun s => s.setDoor d { x with queue := x.queue.filter (fun q => !due q) }))

/-! ### Step 3: the tellers (R182-R190, R220) -/

/-- R182: put a teller in its place among tellers that stand in rank order. -/
def Dev.placeTeller (s : Dev) (k : Fin 8) : List (Fin 8) → List (Fin 8)
  | [] => [k]
  | j :: js => if s.tellerRank k < s.tellerRank j then k :: j :: js else j :: s.placeTeller k js

/-- R182: the tellers, highest rank first. -/
def Dev.tellersByRank (s : Dev) : List (Fin 8) := (List.finRange 8).foldl (fun a k => s.placeTeller k a) []

/-- The rails whose state a request changes (R184, R244). DESIGN CHOICE (log entry 41): a WRR that changes USED is not among
them. -/
def TReqBody.railsOf : TReqBody → RailSet
  | .rail n _ => railOne n
  | .rails set _ => set
  | _ => 0

/-- The fields a request writes, as registers with masks. -/
def Dev.reqMasks (s : Dev) : TReqBody → List (Nat × Word)
  | .writes ws _ => ws.map (fun w => (w.reg, w.mask))
  | .margin n _ =>
    if isCtl n then
      let f := F.SC_MRGN_OFS (Fin.ofNat 8 n.val)
      [(f.reg, BitVec.ofNat 32 ((2 ^ f.w - 1) * 2 ^ f.lo))]
    else match s.mdOf n with
      | some m => [(0x1C01 + 2 * m.val, 0x3FF)]
      | none => []
  | .give _ => [(0x00C0, 0x7FF)]
  | _ => []

/-- R184: take out of an earlier request what later requests of the same teller do: the rails, and the fields. -/
def Dev.earlier (s : Dev) (b : TReqBody) (rails : RailSet) (masks : List (Nat × Word)) : Option TReqBody :=
  let taken (r : Nat) : Word := masks.foldl (fun (a : Word) m => if m.1 = r then a ||| m.2 else a) 0
  match b with
  | .rail n _ => if railIn rails n then none else some b
  | .rails set o => if set = 0 then none else if set &&& ~~~rails = 0 then none else some (.rails (set &&& ~~~rails) o)
  | .writes ws l =>
    let left := (ws.map (fun w => { w with mask := w.mask &&& ~~~taken w.reg })).filter (fun w => w.mask != 0)
    if left.isEmpty then none else some (.writes left l)
  | .margin _ _ | .give _ => if (s.reqMasks b).any (fun m => taken m.1 &&& m.2 != 0) then none else some b
  | _ => some b

/-- R184: a queue as the close applies it. -/
def Dev.reduceQueue (s : Dev) : List TReq → List TReq
  | [] => []
  | r :: rs =>
    let rails := rs.foldl (fun (a : RailSet) q => a ||| q.body.railsOf) 0
    match s.earlier r.body rails (rs.map (fun q => s.reqMasks q.body)).flatten with
    | some b => { r with body := b } :: s.reduceQueue rs
    | none => s.reduceQueue rs

/-- R220: a refusal or merge at the close reaches the teller. -/
def Closing.tell (c : Closing) (k : Fin 8) (pc : BitVec 16) (r : Option Reason) : Closing :=
  match r with
  | some why => { (c.on (fun s => s.refuseTeller k why pc)) with
      watchLate := c.watchLate || c.watchBy.any (fun w => w.1 == Writer.teller k) }
  | none => c

/-- R190: a resource is the program's, and does not leave it at this close. -/
def Closing.stays (c : Closing) (r : BitVec 8) : Bool := c.dev.owner r == .program && !c.leaving.contains r

/-- R190: an ON or OFF of a rail that leaves or has left the program is refused. -/
def Closing.tellerRail (c : Closing) (k : Fin 8) (n : Fin 48) (op : RailOp) : Option Reason × Closing :=
  if c.stays (BitVec.ofNat 8 n.val) then c.railAct (.teller k) n op else (some .notOwner, c)

/-- R276, R486: the reference offset of a controller rail; the rail's owner asks, so the controller's is not asked for.
R487: a 0 meets no check but that of ownership. -/
def Closing.tellerOffset (c : Closing) (k : Fin 8) (pc : BitVec 16) (n : Fin 48) (v : BitVec 10) : Option Reason × Closing :=
  let sc : Fin 8 := Fin.ofNat 8 n.val
  let f := F.SC_MRGN_OFS sc
  let x := c.dev.writeAt (.teller k) pc ⟨f.reg, BitVec.ofNat 32 ((2 ^ f.w - 1) * 2 ^ f.lo), BitVec.ofNat 32 (v.toNat % 2 ^ f.w * 2 ^ f.lo)⟩
  match c.dev.offsetRefusal sc (f.of x.new) with
  | some r => (some r, c.on (fun s => s.mark F.MG_EVENT_REFUSED))
  | none =>
    match (if v = 0 then none else c.fieldTaken (.teller k) [f.key]) with
    | some r => (some r, c)
    | none => (none, { c with
        dev := c.dev.applyWrite x
        mine := c.mine ++ [f.key] })

/-- R276, R486, R487: a margin. -/
def Closing.tellerMargin (c : Closing) (k : Fin 8) (pc : BitVec 16) (n : Fin 48) (v : BitVec 10) : Option Reason × Closing :=
  if !c.stays (BitVec.ofNat 8 n.val) then (some .notOwner, c)
  else if isCtl n then c.tellerOffset k pc n v
  else match c.dev.mdOf n with
    | none => if v = 0 then (none, c) else (some .noMd, c.on (fun s => s.mark F.MG_EVENT_REFUSED))
    | some m =>
      let r := c.whole (.teller k) pc [⟨0x1C01 + 2 * m.val, 0x3FF, BitVec.ofNat 32 v.toNat⟩]
      (r.1.map (·.2), r.2)

/-- One request of a teller (R220). -/
def Closing.request (c : Closing) (k : Fin 8) (q : TReq) : Closing :=
  match q.body with
  | .rail n op =>
    let r := c.tellerRail k n op
    r.2.tell k q.pc r.1
  | .rails set o =>
    (railsOf set).foldl (fun (a : Closing) (n : Fin 48) =>
      let r := a.tellerRail k n (if o then .on else .off)
      r.2.tell k q.pc r.1) c
  | .writes ws l =>
    let r := c.whole (.teller k) q.pc ws
    if l && c.dev.locked && r.1.map (·.2) != some Reason.notOwner then c.tell k q.pc (some .locked)
    else
      let c1 := r.2.tell k q.pc (r.1.map (·.2))
      if c1.merged then ({ c1 with merged := false }).tell k q.pc (some .merged) else c1
  | .margin n v =>
    let r := c.tellerMargin k q.pc n v
    r.2.tell k q.pc r.1
  | .lock => c.on (fun s => s.mark F.SYS_LOCK_LOCKED)
  | .give v =>
    let r := c.give (.teller k) v.toNat
    r.2.tell k q.pc r.1

/-- A teller's whole queue; what it changed outranks the tellers after it (R185). -/
def Closing.tellerQueue (c : Closing) (k : Fin 8) (qs : List TReq) : Closing :=
  let c1 := qs.foldl (fun (a : Closing) q => a.request k q) c
  { c1 with
    tfields := c1.mine ++ c1.tfields
    trails := c1.trails ||| c1.mineR
    mine := []
    mineR := 0
    merged := false }

/-- R190: the resources that leave the program at this close. -/
def leavingOf (s : Dev) (qs : List TReq) : List (BitVec 8) :=
  (qs.foldl (fun (a : List (BitVec 8) × List (BitVec 8)) q =>
    match q.body with
    | .give v =>
      let res := v.extractLsb' 0 8
      let dst := v.extractLsb' 8 3
      let named := a.1.contains res || reservedRes res || decide (6 ≤ dst.toNat) || s.owner res != .program
      if named then a
      else if dst = 5 ∨ (dst = 0 ∧ res = 0x7B) then (res :: a.1, a.2)
      else (res :: a.1, res :: a.2)
    | _ => a) ([], [])).2

/-! ### The operating mode (R30-R37) -/

/-- R391, R388: a converter counts as having a capture in progress; an internal dwell is an injected dwell of the device. -/
def Dev.cvActive (s : Dev) (c : Fin 6) : Bool :=
  let x := s.cv c
  x.pend.isSome || x.arriving.isSome || x.calPend || x.wire.isSome ||
    !x.own.isEmpty || (match x.op with | .dwell .. | .burst .. | .own _ | .cal => true | _ => false)

/-- R35: WATCH may be entered. -/
def Dev.watchOk (s : Dev) : Bool :=
  (List.finRange 8).all (fun c => s.railIdle (ctlRail c)) &&
    allRails.all (fun n => match (s.rail n).code with | .armed | .rising | .qualifying => false | _ => true) &&
    !s.tableRuns &&
    (List.finRange 6).all (fun c => !s.capTakes c && !s.cvActive c) &&
    s.arch.isNone && !s.campaign && s.sag == 0 &&
    (if h : s.get F.SYS_MODE_WTELLER < 8 then (s.teller ⟨s.get F.SYS_MODE_WTELLER, h⟩).st != .halted else false)

/-- R195, R200: the watch teller's time RUNNING is counted up to the instant from which it waits for a wake event. -/
def Teller.doze (t : Teller) (now : Nat) : Teller :=
  if t.st = .running then { t with wdogNs := t.wdogNs + (now - t.runAt), runAt := now } else t

/-- R34, R328: AUDIT ends: its reservation and the continuous rings (R433). -/
def Dev.leaveAudit (s : Dev) : Dev :=
  let s1 := s.freeHeat .audit
  if s1.eff = .audit then
    (s1.setEff .guard).capSyncAll
  else s1

/-- R35, R37, R126, R409-R411, R425: WATCH begins at this close; a waiting probe waits for its first tick (R554). The dwell in progress
is abandoned; one that has its samples is in the pipeline and is published all the same (R374). -/
def Dev.enterWatch (s : Dev) : Dev :=
  let s1 := ((s.leaveAudit.put F.SYS_MODE_LIM_HEAT 0).put F.SYS_MODE_LIM_SAG 0).setEff .watch
  let s2 := (List.finRange 8).foldl (fun (a : Dev) (k : Fin 8) =>
    if a.isWatchTeller k then a.setTeller k ((a.teller k).doze a.now) else a.setTeller k ((a.teller k).suspend a.now)) s1
  let s3 := (List.finRange 6).foldl (fun (a : Dev) (c : Fin 6) =>
    let b := (a.scanned c).wireAbort c
    b.setCv c { b.cv c with
      op := .idle
      slot := 0
      must := 0
      ownMust := 0
      own := (b.cv c).own.filter Internal.isProbe }) s2
  let s4 := (List.finRange 16).foldl (fun (a : Dev) (n : Fin 16) => if a.blanks n then a.endBlank n true else a) s3
  let s5 := allRails.foldl (fun (a : Dev) (n : Fin 48) =>
    a.setRail n { a.rail n with uvSeen := false, uvAt := none }) s4
  { s5.gateFresh with
      tickAt := s5.now + 10000000, watchExit := false, calOpen := none, awake := false,
      probes := s5.probes.map (fun (p : Probe) => { p with since := s5.now }) }

/-- R31, R32, R328: AUDIT or GUARD, as requested and as heat, throttling and the sag governor allow. -/
def Dev.modeEval (s : Dev) : Dev :=
  if s.get F.SYS_MODE_REQ ≠ 1 then ((s.leaveAudit).put F.SYS_MODE_LIM_HEAT 0).put F.SYS_MODE_LIM_SAG 0
  else
    let sagging := decide (1 ≤ s.sag)
    let hot := decide (3 ≤ s.level)
    if sagging || hot then ((s.leaveAudit).putB F.SYS_MODE_LIM_HEAT hot).putB F.SYS_MODE_LIM_SAG sagging
    else if s.eff = .audit then (s.put F.SYS_MODE_LIM_HEAT 0).put F.SYS_MODE_LIM_SAG 0
    else if s.heatNow (s.get F.PURSE_HEATCFG_AUDIT) then
      (((s.holdHeat .audit (s.get F.PURSE_HEATCFG_AUDIT)).setEff .audit).capSyncAll.put F.SYS_MODE_LIM_HEAT 0).put F.SYS_MODE_LIM_SAG 0
    else (s.mark F.SYS_MODE_LIM_HEAT).put F.SYS_MODE_LIM_SAG 0

/-- R35, R220: a refused request for WATCH: the requested mode stays as it was, and the requester learns of it; a teller's
LASTREF holds its last refusal in queue order, which with `late` is another. -/
def Dev.watchRefused (s : Dev) (by_ : Option (Writer × BitVec 16 × Nat)) (late : Bool) : Dev :=
  match by_ with
  | some (.door d, _, old) => (s.put F.SYS_MODE_REQ old).writeRefused d 0x0005 .modeRefused
  | some (.teller k, pc, old) =>
    let s1 := s.put F.SYS_MODE_REQ old
    if late then s1 else s1.refuseTeller k .modeRefused pc
  | none => s.put F.SYS_MODE_REQ 0

/-- The mode after step 3 of a close (R31, R32, R35, R43). -/
def Dev.modeClose (s : Dev) (by_ : Option (Writer × BitVec 16 × Nat)) (late : Bool := false) : Dev :=
  let q := s.get F.SYS_MODE_REQ
  if s.eff = .watch then (if q = 2 then s else (s.leaveWatch).put F.SYS_MODE_REQ q)
  else if q = 2 ∧ s.watchOk then s.enterWatch
  else
    let s1 := if q = 2 then s.watchRefused by_ late else s
    if s1.watchExit then s1 else s1.modeEval

/-! ### Step 4: ownership (R582, R291, R608) -/

/-- One accepted transfer or claim. -/
def Dev.applyGive (s : Dev) (g : BitVec 8 × Owner) : Dev :=
  let dst := if g.1 = 0x7B ∧ g.2 = Owner.none then Owner.program else g.2
  let old := s.owner g.1
  let s1 := s.setOwner g.1 dst
  match dst with
  | .door d => if old = Owner.none ∨ old = dst then s1 else s1.cause d cOwn
  | _ => s1

/-! ### Step 5: statements (R590-R595) -/

/-- R591: the numbers of the status space. -/
def statusNumbers : List Nat := List.range 0x1F00 ++ (List.range 0x400).map (· + 0x2000)

/-- R591: the word of a register for a statement: live, with the WC bits that this close cleared. -/
def Dev.stmtWord (s : Dev) (cleared : List (Nat × Nat)) (r : Nat) : Word :=
  cleared.foldl (fun (w : Word) c => if c.1 / 32 = r then w ||| BitVec.ofNat 32 (c.2 * 2 ^ (c.1 % 32)) else w) (s.readReg r)

/-- R591: a copy of the status space: the registers that do not read 0. -/
def Dev.statement (s : Dev) (cleared : List (Nat × Nat)) : List (Nat × Word) :=
  statusNumbers.filterMap (fun r => let w := s.stmtWord cleared r; if w = 0 then none else some (r, w))

/-- R592: copy a statement for a door whose request belongs to this close. -/
def Dev.copyFor (s : Dev) (cleared : List (Nat × Nat)) (d : Fin 4) : Dev :=
  let x := s.door d
  if x.sreq.any (fun t => s.elapsed t 200) then
    let s1 := s.setDoor d { x with sreq := none, sready := true, hold := true, stmt := s.statement cleared }
    let s2 := (List.range 4).foldl (fun (a : Dev) j => a.put (F.DOOR_SSTAMP d j) (s.stamp.word j).toNat) (s1.roll (F.DOOR_SGEN_GEN d))
    s2.cause d cStmt
  else s

/-! ### Step 6: latches (R420) -/

/-- R420: clear a latch of clearing mode 1 whose live output does not show its condition; a latch that is clear while
it shows is set again, except in WATCH. -/
def Dev.closeLatch (s : Dev) (n : Fin 48) (ov : Bool) : Dev :=
  let mode := s.flag (if ov then F.RAIL_WCFG_OVCLR n else F.RAIL_WCFG_UVCLR n)
  if mode && s.flag (latchFld n ov) && !(s.rail n).shows ov then s.put (latchFld n ov) 0
  else if s.eff = .watch then s
  else s.latch n ov

/-- Step 6 of R604. -/
def Dev.closeLatches (s : Dev) : Dev :=
  allRails.foldl (fun (a : Dev) (n : Fin 48) => (a.closeLatch n false).closeLatch n true) s

/-! ### The close -/

/-- R235, R236: the waits that this close ends, at their tellers' next slots. -/
def Dev.closeWaits (s : Dev) (outside : Bool) : Dev :=
  (List.finRange 8).foldl (fun (a : Dev) (k : Fin 8) =>
    let t := a.teller k
    match t.wait with
    | some (.sync _) => a.setTeller k { t with wait := some (.sync true) }
    | some (.wwake rd w _) => if outside then a.setTeller k { t with wait := some (.wwake rd w true) } else a
    | _ => a) s

/-- Steps 2-3 of R604 over the doors' items and the tellers' queues; R488: the HEAT reservations of the tellers that it restarts are
gone when it begins. -/
def Dev.closeQueues (s s0 : Dev) (queues : List (Fin 8 × List TReq)) (restarts : List (Fin 8)) (deny : Option (Fin 4 × Nat)) : Closing :=
  let s1 := restarts.foldl (fun (a : Dev) (k : Fin 8) => a.dropTellerHeat k) s0
  let c0 : Closing := { dev := s1, leaving := leavingOf s1 (queues.map (·.2)).flatten, found := s.before, deny := deny }
  let c1 := (List.finRange 4).foldl (fun (a : Closing) (d : Fin 4) => a.doorItems d) c0
  let c2 := queues.foldl (fun (a : Closing) q => a.tellerQueue q.1 q.2) c1
  c2.on (fun t => (List.finRange 8).foldl (fun (a : Dev) (k : Fin 8) => a.setTeller k { a.teller k with queue := [] }) t)

/-- R488: the restarts that this close applies come before its margin checks. A restart applied only while the reservations still
stand, as that of a posting with a margin of its own, is not applied with them gone, and they stay (log entry 40). -/
def Dev.closeRestarts (s s0 : Dev) (queues : List (Fin 8 × List TReq)) (deny : Option (Fin 4 × Nat)) : Closing :=
  let c1 := s.closeQueues s0 queues [] deny
  if c1.restarts.isEmpty then c1
  else
    let c2 := s.closeQueues s0 queues c1.restarts deny
    if c2.restarts = c1.restarts then c2 else s.closeQueues s0 queues c2.restarts deny

/-- R35, R601: the posting, and its entry, whose request for WATCH fails on the state that the whole close leaves. -/
def Closing.watchDenied (c : Closing) : Option (Fin 4 × Nat) :=
  match c.watchBy, c.watchPost with
  | some (.door d, _, _), some i =>
    if c.dev.eff ≠ .watch ∧ c.dev.get F.SYS_MODE_REQ = 2 ∧ ¬ c.dev.watchOk then some (d, i) else none
  | _, _ => none

/-- Steps 2-3 of R604 and the request for WATCH. A posting whose request for WATCH fails is refused whole (R601), and the close is that
without it. The tellers' ranks and their requests are those that stand when the close begins: a door's write of CFG.PRIO ranks
them from the next close on, and the requests that a teller queued before a door's RESTART still apply, where one that is
refused sets D and LASTREF after the RESTART cleared them (log entry 38). -/
def Dev.closeApply (s : Dev) : Closing :=
  let s0 := s.marginEnd
  let queues := s0.tellersByRank.map (fun k => (k, s0.reduceQueue (s0.teller k).queue))
  let c1 := s.closeRestarts s0 queues none
  let c2 := if c1.watchDenied.isSome then s.closeRestarts s0 queues c1.watchDenied else c1
  c2.on (fun t => s.marginEvents (t.modeClose c2.watchBy c2.watchLate))

/-- R33, R69: the converter rate that holds from a close on. -/
def Dev.rateFast (s : Dev) : Bool := s.eff == .audit && s.sag == 0 && s.dev == .run

/-- R33: where the rate changes at this close, the dwells that began before it keep theirs, and the next take the new one.
DESIGN CHOICE (log entry 43): a scan dwell that begins in the very instant of the close still has the old rate. -/
def Dev.rateClose (s : Dev) : Dev :=
  if s.rateFast = s.cvFast then s
  else { (List.finRange 6).foldl (fun (a : Dev) (c : Fin 6) => a.scanned c) s with cvFast := s.rateFast }

/-- R419: on the way out of WATCH the latches that a live output has yet to set are set before the close acts. -/
def Dev.latchExit (s : Dev) : Dev := if s.watchExit then s.latchAll else s

/-- The close as a whole. -/
def Dev.closeAll (s0 : Dev) : Dev :=
  let s := s0.latchExit
  let c := s.closeApply
  let s1 := (c.gives.foldl (fun (a : Dev) g => a.applyGive g) c.dev).vinWaits.rateClose
  let s2 := (List.finRange 4).foldl (fun (a : Dev) (d : Fin 4) => a.copyFor c.cleared d) s1
  let s3 := (s2.closeLatches).closeWaits (s.eff != .watch)
  { s3 with
    closeAt := s3.now
    checks := { s3.checks with lastClose := s3.now }
    sampled := false
    vaultRails := 0
    vaultMargins := false
    shadowAt := if s3.vault.shadow then s3.shadowAt else s3.now }

/-- R31-R35, R33, R419: the mode at a close of one write: beside the mode, the converter rate, and outside WATCH the latches that
set. -/
def Dev.modeApplied (s : Dev) (by_ : Option (Writer × BitVec 16 × Nat)) (late : Bool) : Dev :=
  let t := (s.modeClose by_ late).rateClose
  if s.eff = .watch ∧ t.eff ≠ .watch then t.latchAll else t

/-- R192: the requests that a RESTART finds in its teller's queue: the close that applies it applies them too. -/
def Dev.restartQueue (s : Dev) (w : RegWrite) : List (Fin 8 × List TReq) :=
  let l := locate w.reg
  if h : l.block = .teller ∧ l.off = 1 ∧ l.idx < 8 ∧ (F.TELLER_CTL_CMD l.idx).of (w.val &&& w.mask).toNat = 3 then
    let k : Fin 8 := ⟨l.idx, h.2.2.1⟩
    if (s.teller k).queue.isEmpty then [] else [(k, s.reduceQueue (s.teller k).queue)]
  else []

/-- What a writer has done is over, and outranks what comes after it (R19, R185). -/
def Closing.writerDone (c : Closing) : Writer → Closing
  | .door _ => c.doorDone
  | .teller k => c.tellerQueue k []

/-- R54: a write on which the waiting for VSTART can turn: a rail's CFG, interlock, BUDGET or CMD, or PWR.START. -/
def RegWrite.movesWait (w : RegWrite) : Bool :=
  let l := locate w.reg
  w.reg == 0x104 || (l.block == .rail && (l.off == 0x00 || l.off == 0x04 || l.off == 0x05 || l.off == 0x0A || l.off == 0x0B))

/-- R599, R605: apply one write of one writer as a close of this instant would: all that a close does about it, the requests
before a RESTART, its mode, ownership and latches included. In BOOT-FAIL any door's reboot request acts (R28). -/
def Dev.closeWrite (s : Dev) (wr : Writer) (pc : BitVec 16) (w : RegWrite) : Dev :=
  if (s.live && s.mainAlive) || (s.dev == .bootFail && w.reg == 0x0007) then
    let caught := s.restartQueue w
    let r := ({ dev := s, leaving := leavingOf s (caught.map (·.2)).flatten, found := s.before } : Closing).whole wr pc [w]
    match r.1 with
    | some e =>
      match wr with
      | .door d => r.2.dev.writeRefused d w.reg e.2
      | .teller k => r.2.dev.refuseTeller k e.2 pc
    | none =>
      let c := caught.foldl (fun (a : Closing) q => a.tellerQueue q.1 q.2) (r.2.writerDone wr)
      let s1 := c.gives.foldl (fun (a : Dev) g => a.applyGive g) c.dev
      let s2 := if w.reg = 0x0005 ∨ !caught.isEmpty then s1.modeApplied c.watchBy c.watchLate else s1
      let l := locate w.reg
      let s3 := if h : l.block = .rail ∧ (l.off = 0x1B ∨ l.off = 0x00) ∧ l.idx < 48 then s2.latchNow ⟨l.idx, h.2.2⟩ else s2
      let s4 := if w.movesWait then s3.vinWaitsSince s else s3
      match wr with
      | .teller k => if r.2.merged then s4.refuseTeller k .merged pc else s4
      | .door _ => s4
  else s

/-- CLOSE (R17-R21, R604): every 10.24 us, in WATCH every 51.2 us. -/
def close (ts : Nat) (s : Dev) : Dev :=
  let s := s.advance ts
  if s.live ∧ s.mainAlive ∧ s.elapsed s.closeAt s.closeNs then s.closeAll else s

end Sys2Proof.Machine
end

