-- ==== Sys2Proof/Machine/Operands.lean ====
section
/-! DEFINITION. The tellers' operands (06): the formats of R204 with the word of every instruction, the legal words
(R206, R207, R213), the operand A of format D (R208), immediates (R209), data addresses (R225). -/

namespace Sys2Proof.Machine

/-! ### Words (R204) -/

/-- Formats R and D: opcode, RD, RA, RB, OBJ, SUB. -/
def wordD (op : Nat) (rd ra rb : Fin 16) (obj : BitVec 6) (sub : Nat) : Word :=
  BitVec.ofNat 32 (op * 2 ^ 26 + rd.val * 2 ^ 22 + ra.val * 2 ^ 18 + rb.val * 2 ^ 14 + obj.toNat * 2 ^ 8 + sub)

/-- Format R. -/
def wordR (op : Nat) (rd ra rb : Fin 16) : Word := wordD op rd ra rb 0 0

/-- Format I; `imm` has at most 18 bits. -/
def wordI (op : Nat) (rd ra : Fin 16) (imm : Nat) : Word :=
  BitVec.ofNat 32 (op * 2 ^ 26 + rd.val * 2 ^ 22 + ra.val * 2 ^ 18 + imm)

/-- Format J. -/
def wordJ (op cond : Nat) (target : BitVec 16) : Word := BitVec.ofNat 32 (op * 2 ^ 26 + cond * 2 ^ 22 + target.toNat)

/-- Format N; `code` has at most 14 bits. -/
def wordN (op : Nat) (ra rb : Fin 16) (code : Nat) : Word :=
  BitVec.ofNat 32 (op * 2 ^ 26 + ra.val * 2 ^ 18 + rb.val * 2 ^ 14 + code)

/-! ### Legal words (R206, R207, R213, R232) -/

/-- R206: a word whose opcode is defined and whose unused fields are 0. -/
def legalWord (v : Nat) : Bool :=
  let rd := v / 2 ^ 22 % 16
  let ra := v / 2 ^ 18 % 16
  let rb := v / 2 ^ 14 % 16
  let obj := v / 2 ^ 8 % 64
  let sub := v % 256
  let imm := v % 2 ^ 18
  let low := v % 2 ^ 14
  match v / 2 ^ 26 with
  | 0x01 => decide (v % 2 ^ 26 = 0)
  | 0x02 | 0x03 | 0x04 | 0x05 | 0x06 | 0x07 | 0x08 | 0x09 | 0x0A => decide (low = 0)
  | 0x0B => decide (rd = 0) && decide (low = 0)
  | 0x0C | 0x0D | 0x0E | 0x0F | 0x16 | 0x17 | 0x18 | 0x19 => true
  | 0x10 | 0x11 | 0x12 => decide (imm < 32)
  | 0x13 | 0x23 | 0x30 => decide (rd = 0)
  | 0x14 => decide (ra = 0)
  | 0x15 => decide (rd = 0) && decide (ra = 0) && decide (imm < 32)
  | 0x1A | 0x1B => decide (imm < 2 ^ 16)
  | 0x1C => decide (rd ≠ 15) && decide (v / 2 ^ 16 % 64 = 0)
  | 0x1D => decide (v / 2 ^ 16 % 1024 = 0)
  | 0x1E => decide (v % 2 ^ 26 = 0)
  | 0x1F => decide (rd = 0) && decide (rb = 0) && decide (low = 0)
  | 0x20 => decide (ra = 0) && decide (rb = 0) && decide (obj = 0) && (decide (sub = 3) || (decide (sub < 5) && decide (rd = 0)))
  | 0x21 => decide (rb = 0) && ((decide (sub = 0) && decide (ra = 0) && decide (obj = 0)) || (decide (sub = 1) && decide (rd = 0)))
  | 0x22 => decide (rd = 0) && decide (rb = 0) && decide (sub < 8)
  | 0x24 | 0x25 | 0x26 | 0x27 | 0x28 | 0x2C | 0x33 | 0x37 | 0x39 | 0x3A => decide (rd = 0) && decide (rb = 0) && decide (sub = 0)
  | 0x29 => decide (rd = 0) && decide (rb = 0) && decide (sub < 128)
  | 0x2A | 0x2B | 0x2F | 0x3C => decide (rd = 0) && decide (sub = 0)
  | 0x2D | 0x31 => decide (rd = 0) && decide (sub < 2)
  | 0x2E => decide (rb = 0) && decide (sub < 2)
  | 0x32 => decide (sub = 0)
  | 0x34 | 0x35 => decide (rd = 0)
  | 0x36 => decide (rb = 0) && decide (sub < 8)
  | 0x38 => decide (rb = 0) && decide (sub < 16)
  | 0x3B => decide (rd = 0) && decide (ra = 0) && decide (rb = 0) && decide (obj = 0) && decide (sub < 4)
  | _ => false

/-! ### Operands -/

/-- R208: the operand A of format D. -/
def Teller.opA (t : Teller) (ra : Fin 16) (obj : BitVec 6) : Nat := (t.xr ra + obj.setWidth 32).toNat

/-- R209: an immediate, sign-extended. -/
def sextImm (imm : BitVec 18) : Word := imm.signExtend 32

/-- R209: an immediate, zero-extended. -/
def zextImm (imm : BitVec 18) : Word := imm.setWidth 32

/-- R225: the address X[RA] + sext(IMM), as a signed 32-bit number. -/
def Teller.dataAddr (t : Teller) (ra : Fin 16) (imm : BitVec 18) : Int := (t.xr ra + sextImm imm).toInt

/-- R225: why an access of `n` bytes at a data address is refused; `word` asks for a multiple of 4. -/
def addrFault (a : Int) (n : Nat) (word : Bool) : Option Exc :=
  if a < 0 ∨ 0x10000 < a + n then some .range
  else if word ∧ a.toNat % 4 ≠ 0 then some .dataAddr
  else none

/-- R228: a register number X[RA] + IMM. -/
def Teller.regAddr (t : Teller) (ra : Fin 16) (imm : BitVec 16) : Nat := (t.xr ra).toNat + imm.toNat

/-- R210: the deadline of a wait whose timeout is X[RB] microseconds; 0 means none. -/
def Dev.deadline (s : Dev) (t : Teller) (rb : Fin 16) : Option Nat :=
  let b := (t.xr rb).toNat
  if b = 0 then none else some (s.now + b * 1000)

end Sys2Proof.Machine
end

