-- ==== Sys2Proof/Machine/Flags.lean ====
section
/-! DEFINITION. The tellers' flags (06): what each instruction sets (R211, R223, R248), and the conditions of R213. -/

namespace Sys2Proof.Machine

/-- Z and N of a result. -/
def Teller.zn (t : Teller) (v : Word) : Teller :=
  { t with
    z := v == 0
    n := v.msb }

/-- Z, N and C. -/
def Teller.znc (t : Teller) (v : Word) (c : Bool) : Teller := { t.zn v with c := c }

/-- R223: the carry out of bit 31 of a sum. -/
def carryOut (a b : Word) : Bool := decide (2 ^ 32 ≤ a.toNat + b.toNat)

/-- R223: a product of 2^32 or more. -/
def mulOver (a b : Word) : Bool := decide (2 ^ 32 ≤ a.toNat * b.toNat)

/-- R223: the flags of CMP. -/
def Teller.compare (t : Teller) (a b : Word) : Teller :=
  { t with
    z := a == b
    n := a.slt b
    c := a.ult b }

/-- The shifts. -/
inductive Shift where
  | shl | shr | sar
deriving DecidableEq, Repr

/-- R223: a shift by `n` places. -/
def Shift.apply (k : Shift) (a : Word) (n : Nat) : Word :=
  match k with
  | .shl => a <<< n
  | .shr => a >>> n
  | .sar => a.sshiftRight n

/-- R223: the last bit shifted out; C as it was for a shift of 0. -/
def Shift.carry (k : Shift) (a : Word) (n : Nat) (c : Bool) : Bool :=
  if n = 0 then c
  else match k with
    | .shl => a.getLsbD (32 - n)
    | .shr => a.getLsbD (n - 1)
    | .sar => a.getLsbD (n - 1)

/-- R223: a shift's result and flags. -/
def Teller.shift (t : Teller) (k : Shift) (rd : Fin 16) (a : Word) (n : Nat) : Teller :=
  (t.xw rd (k.apply a n)).znc (k.apply a n) (k.carry a n t.c)

/-- R213: whether a condition holds. -/
def Teller.holds (t : Teller) : Cond → Bool
  | .al => true
  | .eq => t.z
  | .ne => !t.z
  | .lt => t.n
  | .ge => !t.n
  | .le => t.n || t.z
  | .gt => !t.n && !t.z
  | .lo => t.c
  | .hs => !t.c
  | .ls => t.c || t.z
  | .hi => !t.c && !t.z
  | .ts => t.t
  | .tc => !t.t
  | .ds => t.d
  | .dc => !t.d

/-- R223: CLRF clears the flags whose bits are set. -/
def Teller.clearFlags (t : Teller) (f : BitVec 5) : Teller :=
  { t with
    z := t.z && !f.getLsbD 0
    n := t.n && !f.getLsbD 1
    c := t.c && !f.getLsbD 2
    t := t.t && !f.getLsbD 3
    d := t.d && !f.getLsbD 4 }

end Sys2Proof.Machine
end

