-- ==== Sys2Proof/Machine/Tellers.lean ====
section
/-! DEFINITION. The tellers at work (05, 06): exceptions, the issue of an instruction, the request queue, denials, and
the ends of stalls, waits and of the watchdog's interval. An instruction command says that teller k's slot falls at that
instant and that the word at its PC is the command's; where instruction RAM holds another word, the command is not that
teller's next instruction and only time passes (log entry 2). -/

namespace Sys2Proof.Machine

/-! ### Exceptions (R196-R199, R278) -/

/-- R547: the path of an exception's probe. -/
def excPath (pc : BitVec 16) (word : Nat) : Exc → Option Path
  | .ifetchEcc => some (.iword pc.toNat)
  | .dataEcc => some (.dword word)
  | _ => none

/-- The reaction to an exception (R197, R198). -/
def Dev.excReact (s : Dev) (k : Fin 8) (e : Exc) : Dev :=
  let t := s.teller k
  if e ≠ .double ∧ s.get (F.TELLER_CFG_EXC k) = 1 then
    s.setTeller k { t with
      trapped := true
      stack := []
      pc := t.trap
      wdogNs := 0
      runAt := s.now }
  else
    (s.setTeller k { t with
      st := .halted
      exc := true
      wait := none
      stall := none
      step := false
      wdogNs := t.wdogNs + (s.now - t.runAt) }).withdrawTeller k

/-- R196-R199, R544: raise an exception at the teller's PC; `word` is the data RAM word of a DATA_ECC. In the trap handler it
is a DOUBLE. -/
def Dev.raiseAt (s : Dev) (k : Fin 8) (e : Exc) (word : Nat) : Dev :=
  let t := s.teller k
  let e1 : Exc := if t.trapped then .double else e
  let cfg := s.get (F.TELLER_CFG_EXC k)
  let s1 := s.setTeller k { t with cause := e1.code, epc := t.pc }
  let react (a : Dev) : Dev := if cfg = 2 then (a.excReact k e1).dangerous 0x0801 else a.excReact k e1
  s1.declareBy 0x0801 k.val (BitVec.ofNat 32 (e1.code + t.pc.toNat * 2 ^ 16)) (BitVec.ofNat 32 cfg) (cfg == 2) react
    (excPath t.pc word e1)

/-- Every exception but DATA_ECC. -/
def Dev.raise (s : Dev) (k : Fin 8) (e : Exc) : Dev := s.raiseAt k e 0

/-! ### Issue (R172, R174, R217) -/

/-- The teller issues in its slot: RUNNING, not stalled, in a device whose main region works; in WATCH the watch teller
alone, after a wake event (R37). -/
def Dev.mayIssue (s : Dev) (k : Fin 8) : Bool :=
  s.live && s.mainAlive && (s.teller k).st == .running && (s.teller k).stall.isNone &&
    (s.eff != .watch || (s.awake && s.isWatchTeller k))

/-- R179: what a read of a teller RAM word counts. -/
def Dev.ramRead (s : Dev) (e : Ecc) : Dev :=
  match e with
  | .clean => s
  | .corrected => s.bump F.SAFE_RAMECC_CORR
  | .uncorrectable => s.bump F.SAFE_RAMECC_UNCORR

/-- What a read of word `a` meets: a word known to be uncorrectable stays so (R179). -/
def eccOf (bad : List Nat) (a : Nat) (e : Ecc) : Ecc := if bad.contains a then .uncorrectable else e

/-- R192: after an instruction, a teller that STEP set going halts; one that stalls has not finished it. -/
def Dev.stepDone (s : Dev) (k : Fin 8) : Dev :=
  let t := s.teller k
  if t.stall.isSome then s else s.setTeller k (t.stepped s.now)

/-- What the teller's slot finds at its PC. -/
inductive Fetched where
  | nothing | other | raised (e : Exc) | word
deriving DecidableEq, Repr

/-- R179, R206, R217: fetch the instruction word; `w` is the word that the command stands for. -/
def State.fetched (s : State) (k : Fin 8) (e : Ecc) (w : Word) : Fetched :=
  let pc := ((s.core.teller k).pc).toNat
  let v := sget (fun _ => (0 : Word)) s.iram pc
  if !s.core.mayIssue k then .nothing
  else if eccOf s.core.iramBad pc e = .uncorrectable then .raised .ifetchEcc
  else if v = w then .word
  else if !legalWord v.toNat then .raised .illegal
  else .other

/-- R172-R174, R217: teller k's slot. `e` is what the fetch meets, `w` the command's word, `run` its effect. -/
def State.issue (ts : Nat) (k : Fin 8) (e : Ecc) (w : Word) (run : State → State) (s : State) : State :=
  let s := s.advance ts
  let pc := ((s.core.teller k).pc).toNat
  let read (c : Dev) : Dev := c.ramRead (eccOf c.iramBad pc e)
  match s.fetched k e w with
  | .nothing => s
  | .other => s
  | .raised .ifetchEcc =>
    s.lift (fun c => (({ read c with iramBad := pc :: c.iramBad.filter (fun a => a != pc) }).raise k .ifetchEcc).stepDone k)
  | .raised x => s.lift (fun c => ((read c).raise k x).stepDone k)
  | .word => (run (s.lift read)).lift (fun c => c.stepDone k)

/-- An instruction that acts on the device alone. -/
def State.issueDev (ts : Nat) (k : Fin 8) (e : Ecc) (w : Word) (f : Dev → Dev) (s : State) : State :=
  s.issue ts k e w (fun t => t.lift f)

/-- An instruction that acts on its teller's registers, flags and PC alone. -/
def State.issueRegs (ts : Nat) (k : Fin 8) (e : Ecc) (w : Word) (f : Teller → Teller) (s : State) : State :=
  s.issueDev ts k e w (fun c => c.setTeller k (f (c.teller k)))

/-- Change the teller of an instruction and advance its PC (R233). -/
def Dev.onward (s : Dev) (k : Fin 8) (f : Teller → Teller) : Dev := s.setTeller k (f (s.teller k)).next

/-! ### Ownership and ranges (R189, R217-R219) -/

/-- R188: the program owns every resource of a list. -/
def Dev.programOwns (s : Dev) (rs : List (BitVec 8)) : Bool := rs.all (fun r => s.owner r == .program)

/-- R218: a register that the instruction would write becomes 0. -/
def Teller.zeroed (t : Teller) : Option (Fin 16) → Teller
  | some rd => t.xw rd 0
  | none => t

/-- A denial or refusal at issue: D, LASTREF, 0 to a result register, and on with the next instruction. -/
def Dev.deny (s : Dev) (k : Fin 8) (rd : Option (Fin 16)) (why : Reason) : Dev :=
  s.onward k (fun t => (t.zeroed rd).refuse why t.pc)

/-- R189, R218, R219: act where the program owns the target; otherwise the denial, or the exception OWNER. -/
def Dev.asOwner (s : Dev) (k : Fin 8) (owns : Bool) (rd : Option (Fin 16)) (f : Dev → Dev) : Dev :=
  if owns then f s
  else if s.flag (F.TELLER_CFG_STRICT k) then s.raise k .owner
  else s.deny k rd .notOwner

/-- R240: act where the operand is in range; otherwise the exception RANGE. -/
def Dev.inRange (s : Dev) (k : Fin 8) (a bound : Nat) (f : Fin bound → Dev → Dev) : Dev :=
  if h : a < bound then f ⟨a, h⟩ s else s.raise k .range

/-! ### The request queue (R183, R186) -/

/-- R183, R186: queue a request; with the queue full the teller stalls. -/
def Dev.queueReq (s : Dev) (k : Fin 8) (b : TReqBody) : Dev :=
  let t := s.teller k
  let r : TReq := ⟨t.pc, b⟩
  if 64 ≤ t.queue.length then s.setTeller k { t with stall := some (.queue r) }
  else s.setTeller k { t with queue := t.queue ++ [r] }.next

/-- A stalled instruction completes. -/
def Teller.unstall (t : Teller) (now : Nat) : Teller := ({ t with stall := none }.next).stepped now

/-- R239: a RESTART that a teller aimed at itself while an instruction of it was stalled, once that instruction is over. -/
def Dev.restartDue (s : Dev) (k : Fin 8) : Dev := if (s.teller k).again then s.tellerRestart k else s

/-- QUEUE_STALL_RESUME (R186): the close has emptied the queue; the stalled request enters it. -/
def queueStallResume (ts : Nat) (k : Fin 8) (s : Dev) : Dev :=
  let s := s.advance ts
  let t := s.teller k
  match t.stall with
  | some (.queue r) =>
    if s.live ∧ s.mainAlive ∧ t.st = .running ∧ t.queue.length < 64 then
      (s.setTeller k ({ t with queue := t.queue ++ [r] }.unstall s.now)).restartDue k
    else s
  | _ => s

/-! ### The ends of waits (R210, R215, R249-R254) -/

/-- A teller that waits, in its slot. -/
def Dev.inWait (s : Dev) (k : Fin 8) : Bool := s.live && s.mainAlive && (s.teller k).st == .waiting

/-- R211, R249: a wait instruction ends, with T as `timeout` says. -/
def Dev.waitEnds (s : Dev) (k : Fin 8) (timeout : Bool) : Dev :=
  s.setTeller k ({ s.teller k with t := timeout }.endWait s.now)

/-- SYNC_END (R235): the first slot after the close. -/
def syncEnd (ts : Nat) (k : Fin 8) (s : Dev) : Dev :=
  let s := s.advance ts
  match (s.teller k).wait with
  | some (.sync true) => if s.inWait k then s.waitEnds k false else s
  | _ => s

/-- R236: the end of a WWAKE with its causes; none outside WATCH. -/
def Dev.wwakeEnds (s : Dev) (k : Fin 8) (rd : Fin 16) (causes : BitVec 8) : Dev :=
  let t := s.teller k
  let t1 := { (t.xw rd (causes.setWidth 32)) with
    z := causes == 0
    t := false
    causes := 0 }
  s.setTeller k (t1.endWait s.now)

/-- WWAKE_END (R236): a wake event, or outside WATCH the close, has come. -/
def wwakeEnd (ts : Nat) (k : Fin 8) (s : Dev) : Dev :=
  let s := s.advance ts
  let t := s.teller k
  match t.wait with
  | some (.wwake rd inWatch due) =>
    if ¬ s.inWait k then s
    else if inWatch ∧ t.causes ≠ 0 then { s.wwakeEnds k rd t.causes with awake := true }
    else if due then s.wwakeEnds k rd 0
    else s
  | _ => s

/-- WAIT_ELAPSED (R250). -/
def waitElapsed (ts : Nat) (k : Fin 8) (s : Dev) : Dev :=
  let s := s.advance ts
  match (s.teller k).wait with
  | some (.time u) => if s.inWait k ∧ u ≤ s.now then s.waitEnds k false else s
  | _ => s

/-- AWAIT_END (R251, R252): the whole mask is GOOD in one slot. -/
def awaitEnd (ts : Nat) (k : Fin 8) (s : Dev) : Dev :=
  let s := s.advance ts
  match (s.teller k).wait with
  | some (.await m _) => if s.inWait k ∧ s.allGood (s.maskSet m.val) then s.waitEnds k false else s
  | _ => s

/-- R251: every rail of a set is OFF or UNUSED. -/
def Dev.allIdle (s : Dev) (m : RailSet) : Bool := (railsOf m).all s.railIdle

/-- WOFF_END (R251). -/
def woffEnd (ts : Nat) (k : Fin 8) (s : Dev) : Dev :=
  let s := s.advance ts
  match (s.teller k).wait with
  | some (.woff m _) => if s.inWait k ∧ s.allIdle (s.maskSet m.val) then s.waitEnds k false else s
  | _ => s

/-- WANG_END (R253): the gate has fired since the instruction's issue. -/
def wangEnd (ts : Nat) (k : Fin 8) (s : Dev) : Dev :=
  let s := s.advance ts
  match (s.teller k).wait with
  | some (.wang _ true _) => if s.inWait k then s.waitEnds k false else s
  | _ => s

/-- R215: the condition of a wait with a timeout holds at this slot. -/
def Dev.waitMetNow (s : Dev) : Wait → Bool
  | .await m _ => s.allGood (s.maskSet m.val)
  | .woff m _ => s.allIdle (s.maskSet m.val)
  | .wang _ fired _ => fired
  | _ => false

/-- The deadline of a wait (R210, R256). -/
def Wait.deadline : Wait → Option Nat
  | .await _ d | .woff _ d | .wang _ _ d | .spend d | .reserve _ d => d
  | _ => none

/-- R255-R257: the purse wait of a teller. -/
def Wait.ofPurse : Wait → Bool
  | .spend _ | .reserve _ _ => true
  | _ => false

/-- R210, R256, R259: a wait that reaches its deadline: a purse request is withdrawn and refused; another wait ends with T
set, or with T cleared where its condition holds in the same slot (R215). -/
def Dev.timeOut (s : Dev) (k : Fin 8) (w : Wait) : Dev :=
  if w.ofPurse then
    match s.preqs.find? (fun q => q.who == PWho.teller k) with
    | some q => s.refuseReq q 1
    | none => s.setTeller k ((s.teller k).purseRefused s.now)
  else s.waitEnds k (!s.waitMetNow w)

/-- WAIT_TIMEOUT (R210, R215, R256, R257). -/
def waitTimeout (ts : Nat) (k : Fin 8) (s : Dev) : Dev :=
  let s := s.advance ts
  match (s.teller k).wait with
  | some w => if s.inWait k ∧ w.deadline.any (fun d => decide (d ≤ s.now)) then s.timeOut k w else s
  | none => s

/-! ### The watchdog (R195) -/

/-- WATCHDOG (R195, R217, R278): between two instructions of a RUNNING teller the count reaches WDOG milliseconds. -/
def watchdog (ts : Nat) (k : Fin 8) (s : Dev) : Dev :=
  let s := s.advance ts
  let lim := s.get (F.TELLER_CFG_WDOG k)
  if s.mayIssue k ∧ lim ≠ 0 ∧ lim * 1000000 ≤ s.wdogNow k then (s.raise k .watchdog).stepDone k else s

end Sys2Proof.Machine
end

