-- ==== Sys2Proof/Machine/Misc.lean ====
section
/-! DEFINITION. Commands that stand alone: a margin DAC's step (13), the WAKE_N pin and the end of the exit from WATCH (01),
the test access port (20), and the writing of capture words into their buffers (11). -/

namespace Sys2Proof.Machine

/-! ### Capture words (R431) -/

/-- Put a converter command's capture words into the converter's buffer. -/
def State.applyBuf (s : State) (c : Fin 6) (r : Dev × BufWords) : State :=
  { s with
    core := r.1
    bufs := s.bufs.set c.val
      (r.2.foldl (fun (b : List (Nat × BitVec 16)) w => sset (fun _ => 0) b w.1 w.2) (s.bufs.get c)) c.isLt }

/-! ### Margin DACs (R484) -/

/-- The next code on the way from `p` to `t`. -/
def nextCode (p t : Int) : Int := if p < t then p + 1 else p - 1

/-- A step leads away from code 0. -/
def awayFrom0 (p q : Int) : Bool := decide (p.natAbs < q.natAbs)

/-- The latest published result of the rail that a margin DAC serves lies between its guard levels (R484). -/
def Dev.mdInside (s : Dev) (m : Fin 16) : Bool :=
  if h : s.get (F.MD_CFG_RAIL m) < 48 then
    s.insideGuard ⟨s.get (F.MD_CFG_RAIL m), h⟩ (((s.rail ⟨s.get (F.MD_CFG_RAIL m), h⟩).result.getD 0) * 100)
  else false

/-- Keep the health record of the rail that a margin DAC serves in step (R494). -/
def Dev.mdHealth (s : Dev) (m : Fin 16) : Dev :=
  if h : s.get (F.MD_CFG_RAIL m) < 48 then s.healthMargin ⟨s.get (F.MD_CFG_RAIL m), h⟩ else s

/-- R484: the present code moves by one. -/
def Dev.mdMove (s : Dev) (m : Fin 16) (q : Int) : Dev :=
  ((s.put (F.MD_CODE_PRESENT m) (toSigned 10 q)).put (F.MD_CODE_STOPPED m) 0).mdHealth m

/-- R484: the present code is held. Every held step sets the event; the record is written once for as long as STOPPED stands, since
the rule does not say that each of the steps that one cause holds is recorded anew (log entry 40). -/
def Dev.mdStop (s : Dev) (m : Fin 16) (p : Int) : Dev :=
  let t := s.mark F.MG_EVENT_STOP
  if s.flag (F.MD_CODE_STOPPED m) then t
  else (t.mark (F.MD_CODE_STOPPED m)).journal 0x0901 (s.get (F.MD_CFG_RAIL m)) (BitVec.ofInt 32 p)

/-- MARGIN_DAC_STEP (R484): MDSTEP microseconds after the last, the present code moves one code towards TARGET; a step away
from nominal is held where the rail's result lies outside the guard levels. A DAC that the vault has turned off takes no
step (R491). -/
def marginDacStep (ts : Nat) (m : Fin 16) (s : Dev) : Dev :=
  let s := s.advance ts
  let t := signed 10 (s.get (F.MD_CODE_TARGET m))
  let p := signed 10 (s.get (F.MD_CODE_PRESENT m))
  let q := nextCode p t
  if s.live ∧ s.mainAlive ∧ ¬ s.flag (F.MD_CODE_VAULT m) ∧ p ≠ t ∧ s.elapsed (s.mdAt.get m) (s.get F.MG_CFG_MDSTEP * 1000) then
    let s1 := { s with mdAt := s.mdAt.set m.val s.now m.isLt }
    if awayFrom0 p q && !s1.mdInside m then s1.mdStop m p else s1.mdMove m q
  else s

/-! ### WATCH (R42, R44, R201) -/

/-- WAKE_PIN (R42, R45, R419): WAKE_N falls in WATCH. -/
def wakePin (ts : Nat) (s : Dev) : Dev :=
  let s := s.advance ts
  if s.live ∧ s.mainAlive ∧ s.eff = .watch then
    let s1 := s.wake 0
    if s1.flag F.SYS_MODE_WAKEXIT then s1.leaveWatch.latchAll else s1
  else s

/-- R201: a teller that WATCH suspended goes on as it was; a wait whose timeout has expired ends with T set. -/
def Dev.unsuspend (s : Dev) (k : Fin 8) : Dev :=
  let t := s.teller k
  if t.st ≠ .suspended then s
  else
    let s1 := s.setTeller k { t with st := t.held, runAt := s.now }
    match t.wait with
    | some w =>
      if t.held = .waiting ∧ w.deadline.any (fun d => decide (d ≤ s.now)) then
        (if w.ofPurse then s1.timeOut k w else s1.waitEnds k true)
      else s1
    | none => s1

/-- R44, R380: a converter scans again from slot 0; a probe's dwell in progress completes first. The step of a
paused window test begins anew (R572). -/
def Dev.rescan (s : Dev) (c : Fin 6) : Dev :=
  let w := (s.cv c).wtest.map (fun w => if w.probe then w else { w with since := s.now })
  let t := s.setCv c { s.cv c with wtest := w }
  match (t.cv c).op with
  | .own _ => t
  | _ => (t.setCv c { t.cv c with op := .scan, must := 0, ownMust := 0 }).beginSlot c 0 t.now

/-- The UV filter begins anew with the live output as it stands (R418); an OV that shows was declared at its first sample
(R425) and is not declared again. The latches set again in every cycle (R419). -/
def Dev.refilter (s : Dev) (n : Fin 48) : Dev :=
  let r := s.rail n
  (s.setRail n { r with uvAt := if r.uvLive then some s.now else none }).latchNow n

/-- WATCH_EXIT_COMPLETE (R44, R201): the device runs in GUARD with all converters scanning; the tellers go on. -/
def watchExitComplete (ts : Nat) (s : Dev) : Dev :=
  let s := s.advance ts
  if s.live ∧ s.mainAlive ∧ s.watchExit then
    let s1 := (List.finRange 6).foldl (fun (a : Dev) (c : Fin 6) => a.rescan c) { s with watchExit := false }
    let s2 := allRails.foldl (fun (a : Dev) (n : Fin 48) => a.refilter n) s1
    (List.finRange 8).foldl (fun (a : Dev) (k : Fin 8) => a.unsuspend k) s2
  else s

/-! ### The test access port (R688, R689) -/

/-- R688: the instruction that a code selects; what the port does not know is BYPASS. -/
def tapDecode (code : BitVec 4) : BitVec 4 := if code = 0 ∨ code = 1 ∨ code = 2 then code else 0xF

/-- The port needs VDD1V8: it works in BOOT, BOOT-FAIL, RUN and HOLD-UP only (20). -/
def Dev.tapWorks (s : Dev) : Bool := s.dev == .boot || s.dev == .bootFail || s.live

/-- R688: the capture value of the instruction register. -/
def irCapture : BitVec 4 := 1

/-- R690: the cell of FLT_N, which captures its level and drives nothing. -/
def fltCell : Nat := 64

/-- R690: the cells as they capture the levels at the balls; FLT_N's is the line's own. -/
def Dev.captures (s : Dev) (levels : BitVec 239) : BitVec 239 :=
  (levels &&& ~~~(1#239 <<< fltCell)) ||| ((if s.fltLow then 0#239 else 1#239) <<< fltCell)

/-- TAP_INSTRUCTION (R688-R690): the instruction register's captured value goes out as the port loads the instruction; where that
selects the boundary register (EXTEST and SAMPLE/PRELOAD, as carried out), the cells capture the levels at the balls, which go
out as the cells shifted in take their place. -/
def tapInstruction (ts : Nat) (code : BitVec 4) (cells levels : BitVec 239) (s : Dev) : Dev :=
  let s1 := s.advance ts
  if s1.tapWorks then
    let s2 := { s1 with tapIr := tapDecode code, tapIrOut := irCapture }
    if s2.tapActive = 0 ∨ s2.tapActive = 1 then { s2 with tapCells := cells, tapOut := s1.captures levels } else s2
  else s1

/-- TEST_LOGIC_RESET (R689). -/
def testLogicReset (ts : Nat) (s : Dev) : Dev := { s.advance ts with tapIr := 0xF }

end Sys2Proof.Machine
end

