-- ==== Sys2Proof/Machine/MeanConv.lean ====
section
/-! DEFINITION. Meanings of the commands: Converters and window comparators (10, 11). Each is one call of the operation that the rules describe. -/

namespace Sys2Proof.Machine

/-- DWELL_PUBLISH (R374). -/
def execDwellPublish (ts : Nat) (c : Fin 6) (settle codes : List Nat) (temp : Int) (s : State) :
    Host.Outcome State Fault Refusal :=
  .next (s.applyBuf c (dwellPublish ts c settle codes temp s.core))

/-- TRIGGER_ACCEPT (R383). -/
def execTriggerAccept (ts : Nat) (c : Fin 6) (raw : List Nat) (s : State) : Host.Outcome State Fault Refusal :=
  .next (s.applyBuf c (triggerAccept ts c raw s.core))

/-- INJECTED_OPERATION_END (R387). -/
def execInjectedOperationEnd (ts : Nat) (c : Fin 6) (raw : List Nat) (s : State) : Host.Outcome State Fault Refusal :=
  .next (s.applyBuf c (injectedOperationEnd ts c raw s.core))

/-- PENDING_TRIGGER_SERVE (R387). -/
def execPendingTriggerServe (ts : Nat) (c : Fin 6) (raw : List Nat) (s : State) : Host.Outcome State Fault Refusal :=
  .next (s.applyBuf c (pendingTriggerServe ts c raw s.core))

/-- INTERNAL_DWELL_SERVE (R388). -/
def execInternalDwellServe (ts : Nat) (c : Fin 6) (raw : List Nat) (s : State) : Host.Outcome State Fault Refusal :=
  .next (s.applyBuf c (internalDwellServe ts c raw s.core))

/-- CALIBRATION_BEGIN (R395). -/
def execCalibrationBegin (ts : Nat) (c : Fin 6) (raw : List Nat) (s : State) : Host.Outcome State Fault Refusal :=
  .next (s.applyBuf c (calibrationBegin ts c raw s.core))

/-- CALIBRATION_END (R398). -/
def execCalibrationEnd (ts : Nat) (c : Fin 6) (fs : List Nat) (temp : Int) (s : State) :
    Host.Outcome State Fault Refusal :=
  .next (s.lift (calibrationEnd ts c fs temp))

/-- PLAUSIBILITY_DWELL (R401). -/
def execPlausibilityDwell (ts : Nat) (c : Fin 6) (s : State) : Host.Outcome State Fault Refusal :=
  .next (s.lift (plausibilityDwell ts c))

/-- OPEN_WIRE_SETTLE (R405). -/
def execOpenWireSettle (ts : Nat) (c : Fin 6) (s : State) : Host.Outcome State Fault Refusal :=
  .next (s.lift (openWireSettle ts c))

/-- OPEN_WIRE_END (R406). -/
def execOpenWireEnd (ts : Nat) (c : Fin 6) (s : State) : Host.Outcome State Fault Refusal :=
  .next (s.lift (openWireEnd ts c))

/-- SLOW_SCAN_TICK (R410). -/
def execSlowScanTick (ts : Nat) (s : State) : Host.Outcome State Fault Refusal :=
  .next (s.lift (slowScanTick ts))

/-- STATS_INTERVAL (R445). -/
def execStatsInterval (ts : Nat) (s : State) : Host.Outcome State Fault Refusal :=
  .next (s.lift (statsInterval ts))

/-- COMPARATOR_CROSSING (R418). -/
def execComparatorCrossing (ts : Nat) (n : Fin 48) (ov : Bool) (level : Int) (s : State) : Host.Outcome State Fault Refusal :=
  .next (s.lift (comparatorCrossing ts n ov level))

/-- WINDOW_SAMPLE (R424). -/
def execWindowSample (ts : Nat) (levels : List Int) (s : State) : Host.Outcome State Fault Refusal :=
  .next (s.lift (windowSample ts levels))

/-- WINDOW_TEST_STEP (R426). -/
def execWindowTestStep (ts : Nat) (n : Fin 48) (shows : Bool) (s : State) : Host.Outcome State Fault Refusal :=
  .next (s.lift (windowTestStep ts n shows))

/-- TDAC_RESTORE_SETTLED (R429). -/
def execTdacRestoreSettled (ts : Nat) (c : Fin 6) (s : State) : Host.Outcome State Fault Refusal :=
  .next (s.lift (tdacRestoreSettled ts c))

end Sys2Proof.Machine
end

