-- ==== Sys2Proof/Machine/WriteCmds.lean ====
section
/-! DEFINITION. The commands that are writes of registers (rows TELLER_HALT to REGISTER_WRITE): each is a masked write
by a door or by a teller that a close of this instant applies (R599), and the writes of a door's own block, which act at
once (R585). -/

namespace Sys2Proof.Machine

/-- REGISTER_WRITE (R599, R588): a masked write of a register by a door or, as a WRR, by a teller. -/
def registerWrite (ts : Nat) (wr : Writer) (reg : BitVec 16) (mask val : Word) (s : Dev) : Dev :=
  (s.advance ts).closeWrite wr 0 ⟨reg.toNat, mask, val⟩

/-- A write of a register given by its number. -/
def writeNum (ts : Nat) (wr : Writer) (reg : Nat) (mask val : Word) (s : Dev) : Dev :=
  (s.advance ts).closeWrite wr 0 ⟨reg, mask, val⟩

/-- TELLER_HALT (R192). -/
def tellerHaltWrite (ts : Nat) (wr : Writer) (k : Fin 8) (s : Dev) : Dev := writeNum ts wr (0x1801 + 0x40 * k.val) 7 1 s

/-- TELLER_RESUME (R192). -/
def tellerResumeWrite (ts : Nat) (wr : Writer) (k : Fin 8) (s : Dev) : Dev := writeNum ts wr (0x1801 + 0x40 * k.val) 7 2 s

/-- TELLER_RESTART (R192). -/
def tellerRestartWrite (ts : Nat) (wr : Writer) (k : Fin 8) (s : Dev) : Dev := writeNum ts wr (0x1801 + 0x40 * k.val) 7 3 s

/-- TELLER_STEP (R192). -/
def tellerStepWrite (ts : Nat) (wr : Writer) (k : Fin 8) (s : Dev) : Dev := writeNum ts wr (0x1801 + 0x40 * k.val) 7 4 s

/-- LOCK_KEY (R155). -/
def lockKey (ts : Nat) (wr : Writer) (s : Dev) : Dev := writeNum ts wr 0x0008 0xFF 0x5A s

/-- RAIL_CMD_ON (R589, R136, R138). -/
def railCmdOn (ts : Nat) (wr : Writer) (n : Fin 48) (s : Dev) : Dev := writeNum ts wr (0x040B + 0x40 * n.val) 3 1 s

/-- RAIL_CMD_OFF (R589, R136, R139). -/
def railCmdOff (ts : Nat) (wr : Writer) (n : Fin 48) (s : Dev) : Dev := writeNum ts wr (0x040B + 0x40 * n.val) 3 2 s

/-- RAIL_CMD_FOFF (R589, R242). -/
def railCmdFoff (ts : Nat) (wr : Writer) (n : Fin 48) (s : Dev) : Dev := writeNum ts wr (0x040B + 0x40 * n.val) 3 3 s

/-- START_NORMAL (R357). -/
def startNormal (ts : Nat) (wr : Writer) (s : Dev) : Dev := writeNum ts wr 0x1B01 0xFF 0x3C s

/-- RELEASE_FLT (R365). -/
def releaseFltWrite (ts : Nat) (wr : Writer) (s : Dev) : Dev := writeNum ts wr 0x1B01 0xFF 0xC3 s

/-- OWN_GIVE (R581-R584). -/
def ownGive (ts : Nat) (wr : Writer) (res : BitVec 8) (dst : BitVec 3) (s : Dev) : Dev :=
  writeNum ts wr 0x00C0 0x7FF (BitVec.ofNat 32 (res.toNat + 256 * dst.toNat)) s

/-- INJECTED_DWELL_REQUEST (R392, R393). -/
def injectedDwellRequest (ts : Nat) (wr : Writer) (c : Fin 6) (ch : BitVec 4) (s : Dev) : Dev :=
  writeNum ts wr (0x1503 + 0x80 * c.val) 0x11F (BitVec.ofNat 32 (0x100 + ch.toNat)) s

/-- BURST_REQUEST (R392, R393, R434). -/
def burstRequest (ts : Nat) (wr : Writer) (c : Fin 6) (ch : BitVec 4) (s : Dev) : Dev :=
  writeNum ts wr (0x1503 + 0x80 * c.val) 0x11F (BitVec.ofNat 32 (0x110 + ch.toNat)) s

/-- CALIBRATION_REQUEST (R394). -/
def calibrationRequest (ts : Nat) (wr : Writer) (c : Fin 6) (s : Dev) : Dev := writeNum ts wr (0x1506 + 0x80 * c.val) 1 1 s

/-- OPEN_WIRE_START (R404). -/
def openWireStart (ts : Nat) (wr : Writer) (c : Fin 6) (ch : Fin 8) (s : Dev) : Dev :=
  writeNum ts wr (0x1509 + 0x80 * c.val) 0x100007 (BitVec.ofNat 32 (0x100000 + ch.val)) s

/-- CAPTURE_ARM (R432). -/
def captureArm (ts : Nat) (wr : Writer) (c : Fin 6) (s : Dev) : Dev := writeNum ts wr (0x2101 + 0x28 * c.val) 3 1 s

/-- CAPTURE_DISARM (R432, R438). -/
def captureDisarm (ts : Nat) (wr : Writer) (c : Fin 6) (s : Dev) : Dev := writeNum ts wr (0x2101 + 0x28 * c.val) 3 2 s

/-- REINSTATE (R473). -/
def reinstateWrite (ts : Nat) (wr : Writer) (c : Fin 8) (s : Dev) : Dev := writeNum ts wr (0x1009 + 0x60 * c.val) 3 1 s

/-- ARCHIVE_GO (R537, R271). -/
def archiveGo (ts : Nat) (wr : Writer) (m : BitVec 6) (s : Dev) : Dev :=
  writeNum ts wr 0x1D05 0x3F03 (BitVec.ofNat 32 (1 + 256 * m.toNat)) s

/-- ARCHIVE_RESET (R536). -/
def archiveReset (ts : Nat) (wr : Writer) (s : Dev) : Dev := writeNum ts wr 0x1D05 0x3F03 2 s

/-- SUBST_END (R337). -/
def substEnd (ts : Nat) (wr : Writer) (bits : Word) (s : Dev) : Dev := writeNum ts wr 0x2204 bits bits s

/-- STAMPV_CLEAR (R423). -/
def stampvClear (ts : Nat) (wr : Writer) (n : Fin 48) (s : Dev) : Dev :=
  writeNum ts wr (0x041B + 0x40 * n.val) 0x8000000 0x8000000 s

/-- CHG_WRITE (R61): a masked write of PWR.CHG. -/
def chgWrite (ts : Nat) (wr : Writer) (mask val : Word) (s : Dev) : Dev := writeNum ts wr 0x0105 mask val s

/-- REBOOT_REQUEST (R25, R28). -/
def rebootRequestWrite (ts : Nat) (wr : Writer) (s : Dev) : Dev := writeNum ts wr 0x0007 0xFF 0xA5 s

/-! ### A door's own block -/

/-- R623: a door's own block takes this write now: in RUN and HOLD-UP outside WATCH; in BOOT-FAIL no REQUEST and no
POST. While a POST is pending, PADD, POST and DISCARD are refused (R597). -/
def Dev.ownOk (s : Dev) (d : Fin 4) (staging asks : Bool) : Bool :=
  ((s.live && s.mainAlive && s.eff != .watch && !s.watchExit) || (s.dev == .bootFail && !asks)) &&
    !(staging && (s.door d).queue.any (fun q => q.2 == DoorItem.post))

/-- STATEMENT_REQUEST (R590, R595). -/
def statementRequest (ts : Nat) (d : Fin 4) (s : Dev) : Dev :=
  let s := s.advance ts
  if s.ownOk d false true then s.scmd d 1 else s

/-- STATEMENT_DROP (R593). -/
def statementDrop (ts : Nat) (d : Fin 4) (s : Dev) : Dev :=
  let s := s.advance ts
  if s.ownOk d false false then s.scmd d 2 else s

/-- PADD (R596, R597). -/
def paddWrite (ts : Nat) (d : Fin 4) (reg : BitVec 16) (s : Dev) : Dev :=
  let s := s.advance ts
  if s.ownOk d true false then s.padd d reg.toNat else s

/-- POST (R597, R598). -/
def postWrite (ts : Nat) (d : Fin 4) (s : Dev) : Dev :=
  let s := s.advance ts
  if s.ownOk d true true then s.pcmd d 1 else s

/-- DISCARD (R597). -/
def discardWrite (ts : Nat) (d : Fin 4) (s : Dev) : Dev :=
  let s := s.advance ts
  if s.ownOk d true false then s.pcmd d 2 else s

end Sys2Proof.Machine
end

