-- ==== Sys2Proof/Machine/Doors.lean ====
section
/-! DEFINITION. The doors' protocols (17): requests and their checks, results, the memory window and the calibration
set's keys, and what SPI, SMBus and CAN FD add. A request's wire is an operand: whether its check byte matches, its
width bits, whether its length agrees, another opcode, another address. The bytes of the answer are `Port.sent`. -/

namespace Sys2Proof.Machine

/-! ### Frames -/

/-- R618: one bit of the CRC-8. -/
def crc8Bit (c : Nat) : Nat := if 128 ≤ c then ((2 * c) % 256) ^^^ 7 else 2 * c

/-- R618: CRC-8 of bytes, polynomial 0x07, from a starting value. -/
def crc8From (c0 : Nat) (bs : List Byte) : Byte :=
  BitVec.ofNat 8 (bs.foldl (fun c b =>
    crc8Bit (crc8Bit (crc8Bit (crc8Bit (crc8Bit (crc8Bit (crc8Bit (crc8Bit (c ^^^ b.toNat))))))))) c0)

/-- R618: from 0, as every check byte but DCRC has it. -/
def crc8 (bs : List Byte) : Byte := crc8From 0 bs

/-- R616: the opcodes. -/
def DoorCmd.opcode : DoorCmd → Nat
  | .rreg .. => 1
  | .wreg .. => 2
  | .rwin .. => 3
  | .wwin .. => 4
  | .pstat => 5

def DoorCmd.count : DoorCmd → Nat
  | .rreg _ n => n
  | .wreg _ v => v.length
  | .rwin _ n => n
  | .wwin _ v => v.length
  | .pstat => 1

/-- R632, R633: a command that writes. -/
def DoorCmd.writes : DoorCmd → Bool
  | .wreg .. | .wwin .. => true
  | _ => false

/-- The COUNT limits of R629, R631, R632 and R638. -/
def DoorCmd.limit (d : Fin 4) : DoorCmd → Nat
  | .wwin .. => if d.val < 2 then 64 else if d = 2 then 62 else 13
  | _ => if d.val < 2 then 64 else if d = 2 then 63 else 14

/-- R620 check 2: the frame carries an opcode that no command has. -/
def Frame.alien (f : Frame) : Bool := f.op.any (fun (o : BitVec 6) => decide (o.toNat = 0) || decide (5 < o.toNat))

/-- R616: the command byte. -/
def Frame.command (f : Frame) (c : DoorCmd) : Byte :=
  BitVec.ofNat 8 ((if f.alien then (f.op.getD 0).toNat else c.opcode) + 64 * f.width.toNat)

/-- R616, R617: header and request data on door `d`, least significant byte first. -/
def DoorCmd.body (d : Fin 4) : DoorCmd → List Byte
  | .rreg a n => leBytes 2 a ++ leBytes 1 n
  | .wreg a v => (leBytes 2 a ++ leBytes 1 v.length) ++ (v.map (fun x => leBytes 4 x.toNat)).flatten
  | .rwin a n => leBytes 4 a ++ leBytes 1 n
  | .wwin a v => (leBytes 4 a ++ leBytes 1 v.length) ++ (v.map (fun x => leBytes 4 x.toNat)).flatten
  | .pstat => if d = 2 then [0] else []

/-- R626, R637: a request from its command byte on. -/
def Frame.bytes (f : Frame) (d : Fin 4) (c : DoorCmd) : List Byte := f.command c :: c.body d

/-- R619, R617: RES, any reason byte and the result data. -/
def answerBytes (res why : Nat) (words : List Word) : List Byte :=
  (BitVec.ofNat 8 res :: (if why = 0 then [] else [BitVec.ofNat 8 why])) ++ (words.map (fun w => leBytes 4 w.toNat)).flatten

/-- R637: a payload of door D: CNT, LEN, body, CRC. -/
def canPayload (cnt : BitVec 8) (body : List Byte) : List Byte :=
  let b := cnt :: BitVec.ofNat 8 body.length :: body
  b ++ [crc8 b]

/-- R637: the smallest payload size of CAN FD that holds `n` bytes. -/
def canSize (n : Nat) : Nat := ([0, 1, 2, 3, 4, 5, 6, 7, 8, 12, 16, 20, 24, 32, 48, 64].find? (fun k => decide (n ≤ k))).getD 64

/-- R637: pad to the data length code's size. -/
def canPad (p : List Byte) : List Byte := p ++ List.replicate (canSize p.length - p.length) 0

/-! ### Ports -/

def Dev.port (s : Dev) (d : Fin 4) : Port := s.ports.get d
def Dev.setPort (s : Dev) (d : Fin 4) (p : Port) : Dev := { s with ports := s.ports.set d.val p d.isLt }

/-- R624: the counts saturate at 0xFFFF. -/
def more (n : Nat) : Nat := min 0xFFFF (n + 1)

/-- R619: RES codes. -/
def resDone : Nat := 0xA5
def resEcc : Nat := 0x69
def resRefused : Nat := 0x5A
def resDiscarded : Nat := 0x3C

/-- R77, R623: the doors answer. -/
def Dev.doorsUp (s : Dev) : Bool :=
  s.usecOn && s.mainAlive && (s.dev == .boot || s.dev == .bootFail || s.live)

/-- R636, R644: door D takes part in the bus. -/
def Dev.canOn (s : Dev) : Bool := s.doorsUp && s.flag F.DPROT_CAN_EN && s.can.integ && s.can.state != 2

/-- R58, R681, R689: door D can drive CANTX: it takes part in the bus, and its output is its own. -/
def Dev.canSends (s : Dev) : Bool := s.canOn && !s.muted

/-- R630: door C's address. -/
def Dev.addrC (s : Dev) : Nat := 0x58 + s.get F.DPROT_STRAP_S

/-- R636: door D's identifiers: requests, responses, event frames. -/
def Dev.canId (s : Dev) (k : Nat) : Nat := s.get F.DPROT_CAN_BASE * 32 + 4 * s.get F.DPROT_STRAP_S + k

/-- R623, R679: a request reaches the door now: door D must be on its bus, and door C must be able to drive SDA_C. -/
def Dev.doorHears (s : Dev) (d : Fin 4) : Bool :=
  if d = 3 then s.canOn else if d = 2 then s.doorsUp && !s.muted else s.doorsUp

/-- R630, R636: the frame is addressed to the door. -/
def Dev.forDoor (s : Dev) (d : Fin 4) (f : Frame) : Bool :=
  f.dest.all (fun (i : BitVec 11) => if d = 3 then i.toNat == s.canId 0 else if d = 2 then i.toNat == s.addrC else true)

/-- R40, R44: the doors answer with ASLEEP. -/
def Dev.asleep (s : Dev) : Bool := s.eff == .watch || s.watchExit

/-- ISO 11898-1 (R636): the error state of the counters. -/
def Can.judge (c : Can) : Can :=
  { c with state := if c.state = 2 ∨ 255 < c.tec then 2 else if 127 < c.tec ∨ 127 < c.rec_ then 1 else 0 }

/-- ISO 11898-1 (R636): a frame received. -/
def Can.received (c : Can) : Can := ({ c with rec_ := if 127 < c.rec_ then 127 else c.rec_ - 1 }).judge

/-- ISO 11898-1 (R636): a frame transmitted. -/
def Can.transmitted (c : Can) : Can := ({ c with tec := c.tec - 1 }).judge

/-- R58, R681: what reaches the wire of what a door sends: nothing while its outputs are high-impedance. -/
def Dev.sent {α : Type} (s : Dev) (data : List α) : List α := if s.muted then [] else data

/-- R626, R632, R633, R637: the bytes that door `d` sends for an answer `a` to a request. DCRC starts from HCRC; door C's PEC
covers the whole transaction, both address bytes included, and a write has no answer there but the acknowledgement. -/
def Dev.wire (s : Dev) (d : Fin 4) (f : Frame) (c : DoorCmd) (a : List Byte) : List Byte :=
  if d.val < 2 then a ++ [crc8From (crc8 (f.bytes d c)).toNat a]
  else if d = 3 then canPad (canPayload f.cnt a)
  else if c.writes then []
  else
    let r := BitVec.ofNat 8 a.length :: a
    r ++ [crc8 ([BitVec.ofNat 8 (2 * s.addrC), f.command c, BitVec.ofNat 8 (c.body d).length] ++ c.body d ++
      [BitVec.ofNat 8 (2 * s.addrC + 1)] ++ r)]

/-- R624: the frame is a PSTAT, which leaves the last frame as it was. -/
def Frame.quiet (f : Frame) (c : DoorCmd) : Bool := c == .pstat && !f.alien

/-- R619, R622, R637: the door answers: the last frame's RES, the result data and the bytes on the wire, and on door D a queued
response, which is remembered where the request was accepted (R639). Below 11.0 V nothing reaches the wire (R58), and door
D's response waits until CANTX can be driven again. -/
def Dev.reply (s : Dev) (d : Fin 4) (f : Frame) (c : DoorCmd) (res why : Nat) (words : List Word) : Dev :=
  let p := s.port d
  let w := s.wire d f c (answerBytes res why words)
  let p1 := { p with lastRes := res, data := if d = 3 then words else s.sent words, sent := if d = 3 then w else s.sent w }
  let s1 := s.setPort d (if f.quiet c then p1 else { p1 with res := res, why := why })
  if d = 3 then
    { s1 with can := { s1.can with
      out := s1.can.out ++ [w]
      resp := if res = resDone ∨ res = resEcc then w else s1.can.resp } }
  else s1

/-- A request refused. -/
def Dev.refuseFrame (s : Dev) (d : Fin 4) (f : Frame) (c : DoorCmd) (why : Reason) : Dev :=
  let s1 := if why = .length then s.setPort d { s.port d with short := more (s.port d).short } else s
  s1.reply d f c resRefused why.code []

/-- A request discarded for its check byte (R620). -/
def Dev.discardFrame (s : Dev) (d : Fin 4) (f : Frame) (c : DoorCmd) : Dev :=
  (s.setPort d { s.port d with bad := more (s.port d).bad }).reply d f c resDiscarded 0 []

/-- R637: bytes 0 to 1 + LEN of a request on door D. -/
def Frame.payload (f : Frame) (c : DoorCmd) : List Byte := f.cnt :: BitVec.ofNat 8 (f.bytes 3 c).length :: f.bytes 3 c

/-- R622, R624, R639: a request accepted: counted, and on door D remembered with its bytes. -/
def Dev.acceptFrame (s : Dev) (d : Fin 4) (f : Frame) (c : DoorCmd) : Dev :=
  let s1 := if f.quiet c then s else s.setPort d { s.port d with ok := more (s.port d).ok }
  if d = 3 then { s1 with can := { s1.can with last := some (f.payload c, s1.now) } } else s1

/-! ### Check 4 (R623) -/

/-- R24, R28, R623: why BOOT-FAIL refuses a WREG. -/
def bootFailRefusal (d : Fin 4) (addr : Nat) (vals : List Word) : Option Reason :=
  let base := 0x1F00 + 0x40 * d.val
  let bad := (List.range vals.length).filterMap (fun i =>
    let r := addr + i
    let v := (vals.getD i 0).toNat % 4
    if r = 0x0007 then none
    else if ¬ (base ≤ r ∧ r < base + 0x40) then some Reason.notOwner
    else if (r = base + 1 ∨ r = base + 0x0B) ∧ v = 1 then some Reason.booting
    else none)
  bad.head?

/-- R623, R40: check 4. -/
def Dev.stateRefusal (s : Dev) (d : Fin 4) (c : DoorCmd) : Option Reason :=
  if s.dev = .boot then (if c.writes then some .booting else none)
  else if s.dev = .bootFail then
    match c with
    | .wreg a v => bootFailRefusal d a v
    | _ => none
  else if s.asleep then
    match c with
    | .pstat => none
    | .wreg a v => if a = 0x0005 ∧ v.length = 1 ∧ s.owner 0x7B = Owner.door d then none else some .asleep
    | _ => some .asleep
  else none

/-! ### The memory window (R538-R542, R663-R669) -/

/-- R538: an address of the window that maps to something. -/
def windowMapped (a : Nat) : Bool :=
  decide (a < 0x40C0000) || (decide (0x4100000 ≤ a) && decide (a < 0x4150000))

/-- R298: the bank that holds an address of the program store: 0 A, 1 B. -/
def bankOf (a : Nat) : Option Nat :=
  if 0x100000 ≤ a ∧ a < 0x180000 then some 0 else if 0x180000 ≤ a ∧ a < 0x200000 then some 1 else none

/-- R539: the door whose quarter of the notebook holds an address. -/
def quarterOf (a : Nat) : Nat := (a - notebookBase) / 0x7C000

/-- R539, R298, R663, R666: check 8 for one word of a WWIN. -/
def Dev.wordRefusal (s : Dev) (d : Fin 4) (a : Nat) : Option Reason :=
  if a % 4 ≠ 0 then some .winAlign
  else if !windowMapped a then some .winAddr
  else if ledgerSize ≤ a then some .winRo
  else
    match bankOf a with
    | some b =>
      if s.dev = .bootFail then none
      else if s.owner 0x80 ≠ Owner.door d then some .notOwner
      else if s.get F.SYS_STATE_BANK = b then some .bankActive
      else none
    | none =>
      if calBase ≤ a ∧ a < calBase + 0x10000 then
        match s.calOpen with
        | some (o, _) => if a < calBase + 0x7FF8 then (if o = d then none else some .notOwner) else some .winRo
        | none => some .winRo
      else if notebookBase ≤ a then (if quarterOf a = d.val then none else some .notOwner)
      else some .winRo

/-- R620 check 8: the reason of the first word that fails. -/
def Dev.wwinRefusal (s : Dev) (d : Fin 4) (a n : Nat) : Option Reason :=
  ((List.range n).filterMap (fun i => s.wordRefusal d (a + 4 * i))).head?

/-- The words of a memory given by bytes. -/
def wordOf (bs : List Byte) : Word := BitVec.ofNat 32 (leNat bs)

/-- R538, R541: the stored content of one word of the window, and whether the read meets an uncorrectable word, whose
data are a free value that every read of it gives again (log entry 20). KEY1 and KEY2 read 0 (R658). -/
def State.windowWord (s : State) (a : Nat) : Word × Bool :=
  if a < ledgerSize then
    let w := wordOf (s.ledgerBytes a 4)
    if a = calBase + 0x7FF8 ∨ a = calBase + 0x7FFC then (0, false)
    else if s.core.ledgBad.contains (a / 8 * 8) then (Config.badWord a w, true)
    else (w, false)
  else if a < 0x40C0000 then
    let o := a - 0x4000000
    if h : o / 0x20000 < 6 then
      let b := s.bufs.get ⟨o / 0x20000, h⟩
      let j := o % 0x20000 / 2
      (sget (fun _ => (0 : BitVec 16)) b (j + 1) ++ sget (fun _ => (0 : BitVec 16)) b j, false)
    else (0, false)
  else if 0x4100000 ≤ a ∧ a < 0x4140000 then
    let j := (a - 0x4100000) / 4
    let w := sget (fun _ => (0 : Word)) s.iram j
    if s.core.iramBad.contains j then (Config.badWord a w, true) else (w, false)
  else if 0x4140000 ≤ a ∧ a < 0x4150000 then
    let j := a - 0x4140000
    let w := wordOf (sgetRun (fun _ => (0 : Byte)) s.dram j 4)
    if s.core.dramBad.contains (j / 4) then (Config.badWord a w, true) else (w, false)
  else (0, false)

/-- R541, R179: a window read of the word `a` of a teller RAM meets `e`. A corrected word of the data RAM is counted in SAFE.RAMECC;
one of the instruction RAM changes nothing. A word met as uncorrectable reads so from here on. -/
def Dev.ramMeets (s : Dev) (a : Nat) (e : Ecc) : Dev :=
  if 0x4140000 ≤ a ∧ a < 0x4150000 then
    match e with
    | .clean => s
    | .corrected => s.bump F.SAFE_RAMECC_CORR 1
    | .uncorrectable => { s with dramBad := (a - 0x4140000) / 4 :: s.dramBad.filter (fun w => w != (a - 0x4140000) / 4) }
  else if 0x4100000 ≤ a ∧ a < 0x4140000 then
    match e with
    | .uncorrectable => { s with iramBad := (a - 0x4100000) / 4 :: s.iramBad.filter (fun w => w != (a - 0x4100000) / 4) }
    | _ => s
  else s

/-- R179, R507, R541: the ECC maintenance of a window read of `n` bytes: in the ledger that of R507, whose array words meet these
outcomes in rising order, and above it that of each window word. The capture buffers change nothing. -/
def Dev.windowEcc (s : Dev) (a n : Nat) (ecc : List Ecc) : Dev :=
  if a < ledgerSize then s.eccReads ((arrayWords a n).filter (fun w => decide (w < ledgerSize))) ecc
  else (List.range (n / 4)).foldl (fun (c : Dev) i => c.ramMeets (a + 4 * i) (ecc.getD i .clean)) s

/-- R505: the array words that a write of `n` bytes at `a` covers in part: their read comes before the write. -/
def partWords (a n : Nat) : List Nat :=
  (arrayWords a n).filter (fun w => decide (w < a) || decide (a + n < w + 8))

/-- R540, R505, R667: write accepted words into the array; before the first word of an open set, ORIGIN and UNLOCKBOOT. The words
covered in part are read first and meet these outcomes. -/
def State.windowWrite (s : State) (a : Nat) (vs : List Word) (ecc : List Ecc) : State :=
  let open_ := s.core.originBlocks a vs.length
  let s0 := if open_.isEmpty then s
    else ((s.lift (fun c => c.eccReads [calBase + 8] [])).putBlocks open_).lift (fun c => { c with calDirty := true })
  (s0.lift (fun c => c.eccReads (partWords a (4 * vs.length)) ecc)).putBlocks [hostBlock a vs]

/-! ### The calibration set's keys (R664-R668) -/

def key1Addr : Nat := calBase + 0x7FF8
def key2Addr : Nat := calBase + 0x7FFC

/-- R665: why a key word is refused in this state (BOOT and WATCH meet check 4 before). -/
def Dev.keyState (s : Dev) (d : Fin 4) : Option Reason :=
  if s.dev = .holdUp then some .winRo
  else if s.dev = .run ∧ (s.owner 0x80 ≠ Owner.door d ∨ s.owner 0x7B ≠ Owner.door d) then some .notOwner
  else if s.dev = .run ∧ s.tableRuns then some .tableRunning
  else if s.dev = .run ∧ allRails.any (fun n => !s.railIdle n) then some .railActive
  else if s.calOpen.any (fun o => o.1 != d) then some .busy
  else none

/-- A door's key sequence. -/
def Dev.setKey (s : Dev) (d : Fin 4) (k : Option Nat) : Dev := { s with calKey := s.calKey.set d.val k d.isLt }

/-- R664, R665, R668: KEY1. -/
def Dev.key1 (s : Dev) (d : Fin 4) (v : Word) : Option Reason × Dev :=
  if v = 0 ∧ s.calOpen.any (fun o => o.1 == d) then (none, { s with calOpen := none })
  else match s.keyState d with
    | some r => (some r, s)
    | none => if v = 0x5A3CC3A5#32 then (none, s.setKey d (some s.now)) else (some .outOfRange, s.setKey d none)

/-- R664, R665: KEY2, the complement of the stored CRC word, within 100 ms of KEY1. -/
def Dev.key2 (s : Dev) (d : Fin 4) (v crc : Word) : Option Reason × Dev :=
  match s.keyState d with
  | some r => (some r, s)
  | none =>
    let timely := (s.calKey.get d).any (fun t => decide (s.now ≤ t + 100000000))
    if timely && v == ~~~crc then (none, { (s.setKey d none) with calOpen := some (d, s.now), calDirty := false })
    else (some .outOfRange, s.setKey d none)

/-- CAL_SET_TIMEOUT (R668): 10 s without an accepted write of the set. -/
def calSetTimeout (ts : Nat) (s : Dev) : Dev :=
  let s := s.advance ts
  match s.calOpen with
  | some (_, t) => if s.elapsed t 10000000000 then { s with calOpen := none } else s
  | none => s

/-! ### Carrying out a request -/

/-- R592, R593: a register as door `d` reads it. -/
def Dev.doorRead (s : Dev) (d : Fin 4) (r : Nat) : Word :=
  let x := s.door d
  if x.hold && !(decide (0x1F00 ≤ r) && decide (r < 0x2000)) then sget (fun _ => (0 : Word)) x.stmt r else s.readReg r

/-- R624: PSTAT's 16 bytes as words. -/
def Dev.pstatWords (s : Dev) (d : Fin 4) : List Word :=
  let p := s.port d
  let c := s.can
  let on := d = 3
  let b12 := if on then c.state + (if s.evDropped then 4 else 0) else 0
  [BitVec.ofNat 32 (p.res + p.why * 256 + p.ok * 65536), BitVec.ofNat 32 (p.bad + p.short * 65536),
    BitVec.ofNat 32 (p.other + (if on then (min 255 c.tec) * 65536 + (min 255 c.rec_) * 16777216 else 0)),
    BitVec.ofNat 32 (b12 + s.get F.DPROT_STRAP_S * 256)]

/-- R585: a register of the door's own block. -/
def inOwnBlock (d : Fin 4) (r : Nat) : Bool := decide (0x1F00 + 0x40 * d.val ≤ r) && decide (r < 0x1F40 + 0x40 * d.val)

/-- R620 checks 5-7, R597: why a WREG is refused. -/
def Dev.wregRefusal (s : Dev) (d : Fin 4) (a : Nat) (vs : List Word) : Option Reason :=
  let regs := (List.range vs.length).map (a + ·)
  let out := (regs.filter (fun r => !inOwnBlock d r)).length
  let waiting := ((s.door d).queue.filter (fun q => q.2 != DoorItem.post)).length
  let posts := (s.door d).queue.any (fun q => q.2 == DoorItem.post)
  let base := 0x1F00 + 0x40 * d.val
  let stages := (List.range vs.length).any (fun i =>
    decide (a + i = base + 0x0A) || (decide (a + i = base + 0x0B) && ((vs.getD i 0).toNat % 4 == 1 || (vs.getD i 0).toNat % 4 == 2)))
  if 0x10000 < a + vs.length then some .outOfRange
  else if regs.any (fun r => decide (0x1F00 ≤ r) && decide (r < 0x2000) && !inOwnBlock d r) then some .notOwner
  else if s.dev ≠ .bootFail ∧ 32 < waiting + out then some .busy
  else if posts && stages then some .busy
  else none

/-- R621, R586, R24: one register of an accepted WREG. -/
def Dev.wregOne (s : Dev) (d : Fin 4) (r : Nat) (v : Word) : Dev :=
  if inOwnBlock d r then s.ownWrite d (r - (0x1F00 + 0x40 * d.val)) (BitVec.allOnes 32) v
  else if s.dev = .bootFail then s.closeWrite (.door d) 0 ⟨r, BitVec.allOnes 32, v⟩
  else
    let x := s.door d
    s.setDoor d { x with queue := x.queue ++ [(s.now, .write ⟨r, BitVec.allOnes 32, v⟩)] }

/-- R668: an accepted write of the set by the door that holds it open restarts its 10 s. -/
def Dev.calTouched (s : Dev) (d : Fin 4) (a n : Nat) : Dev :=
  if s.calOpen.any (fun o => o.1 == d) && (List.range n).any (fun i => inCalSet (a + 4 * i)) then { s with calOpen := some (d, s.now) }
  else s

/-- R649: how long after the first register of an RREG register `i` is read: each at its own instant, in ascending number. -/
def Dev.readDelay (s : Dev) (i : Nat) : Nat := (List.range i).foldl (fun (a : Nat) j => a + Config.readGap s.now (j + 1)) 0

/-- Checks 5-8 of R620, the command, and the answer. -/
def State.carryOut (s : State) (d : Fin 4) (f : Frame) (c : DoorCmd) (ecc : List Ecc) : State :=
  let refuse (r : Reason) : State := s.lift (fun t => t.refuseFrame d f c r)
  match c with
  | .pstat => s.lift (fun t => (t.acceptFrame d f c).reply d f c resDone 0 (t.pstatWords d))
  | .rreg a n =>
    if 0x10000 < a + n then refuse .outOfRange
    else s.lift (fun t => (t.acceptFrame d f c).reply d f c resDone 0 ((List.range n).map (fun i => (t.advance (t.now + t.readDelay i)).doorRead d (a + i))))
  | .wreg a vs =>
    match s.core.wregRefusal d a vs with
    | some r => refuse r
    | none => s.lift (fun t =>
        ((List.range vs.length).foldl (fun (x : Dev) i => x.wregOne d (a + i) (vs.getD i 0)) (t.acceptFrame d f c)).reply
          d f c resDone 0 [])
  | .rwin a n =>
    if a % 4 ≠ 0 then refuse .winAlign
    else
      let t0 := s.lift (fun t => (t.acceptFrame d f c).windowEcc a (4 * n) ecc)
      let ws := (List.range n).map (fun i => t0.windowWord (a + 4 * i))
      let bad : Bool := ws.any (fun (p : Word × Bool) => p.2)
      t0.lift (fun t => t.reply d f c (if bad then resEcc else resDone) (if bad then Reason.eccUncorr.code else 0)
        (ws.map (fun (p : Word × Bool) => p.1)))
  | .wwin a vs =>
    let judged (r : Option Reason × Dev) : State :=
      match r.1 with
      | some why => { s with core := r.2.refuseFrame d f c why }
      | none => { s with core := (r.2.acceptFrame d f c).reply d f c resDone 0 [] }
    if vs.length = 1 ∧ a = key1Addr then judged (s.core.key1 d (vs.getD 0 0))
    else if vs.length = 1 ∧ a = key2Addr then judged (s.core.key2 d (vs.getD 0 0) (s.windowWord (calBase + 0x7FF0)).1)
    else
      match s.core.wwinRefusal d a vs.length with
      | some r => refuse r
      | none => s.lift (fun t =>
          let t1 := (t.acceptFrame d f c).calTouched d a vs.length
          t1.setPort d { t1.port d with wwin := some (f, a, vs) })

/-- R629, R633: a request whose check byte never came: no frame that ended DONE (R628). -/
def Dev.abandon (s : Dev) (d : Fin 4) : Dev := s.setPort d { s.port d with short := more (s.port d).short, lastRes := 0 }

/-- R632: a check byte goes with the request: on every door but C's reads. -/
def checked (d : Fin 4) (c : DoorCmd) : Bool := !(d = 2 && !c.writes)

/-- R620: a request whose turn has come. Door D looks for LENGTH first (R638), and sends the previous response again for a
repetition (R639), whose bytes are those of a request it accepted. Door C's reads carry no check byte (R632). DESIGN CHOICE (log entry
43): a repetition that arrives in WATCH gets the previous response too, ahead of R40's ASLEEP, and is no wake event. -/
def State.judge (s : State) (d : Fin 4) (f : Frame) (c : DoorCmd) (ecc : List Ecc) : State :=
  let t := s.core
  let refuse (r : Reason) : State := s.lift (fun x => x.refuseFrame d f c r)
  let again : Bool := decide (d = 3) && t.can.last.any (fun (l : List Byte × Nat) =>
    f.agrees && l.1 == f.payload c && decide (t.now ≤ l.2 + 1000000000))
  if d = 3 ∧ ¬ f.holds then refuse .length
  else if f.check = .bad ∧ checked d c then s.lift (fun x => x.discardFrame d f c)
  else if again then s.lift (fun x => { x with can := { x.can with out := x.can.out ++ [x.can.resp] } })
  else if f.alien ∨ (2 ≤ d.val ∧ f.width ≠ 0) ∨ f.width = 3 then refuse .outOfRange
  else if ¬ f.agrees ∨ c.count = 0 ∨ c.limit d < c.count then refuse .length
  else
    let s0 := if (t.get F.SYS_MODE_DOORWAKE).testBit d then s.lift (fun x => x.wake (2 + d.val)) else s
    match t.stateRefusal d c with
    | some r => s0.lift (fun x => x.refuseFrame d f c r)
    | none => s0.carryOut d f c ecc

/-- R640: the fifth request that would wait is answered at once. -/
def State.overflow (s : State) (d : Fin 4) (f : Frame) (c : DoorCmd) : State :=
  s.lift (fun x =>
    if !f.holds then x.refuseFrame d f c .length
    else if f.check = .bad then x.discardFrame d f c
    else x.refuseFrame d f c .busy)

/-- R620, R629, R640: a request that is complete on the wire: one whose check byte never came is abandoned; behind a window write
that is still carried out it waits, on door D with at most three others. -/
def State.request (s : State) (d : Fin 4) (f : Frame) (c : DoorCmd) (ecc : List Ecc) : State :=
  let t := s.core
  let unchecked : Bool := decide (f.check = .absent) && checked d c && !(d = 2 && !t.flag F.DPROT_SMB_PECREQ)
  if !(t.doorHears d && t.forDoor d f) then s
  else if unchecked && (d != 3 || f.holds) then s.lift (fun x => x.abandon d)
  else if (t.port d).wwin.isNone then s.judge d f c ecc
  else if d = 3 ∧ 4 ≤ (t.port d).waits.length then s.overflow d f c
  else s.lift (fun x => x.setPort d { x.port d with waits := (x.port d).waits ++ [(f, c, ecc)] })

/-- R629, R640: the requests that waited are carried out in the order of their arrival, up to one that is a window write. -/
def State.resume (d : Fin 4) : List (Frame × DoorCmd × List Ecc) → State → State
  | [], s => s.lift (fun x => x.setPort d { x.port d with waits := [] })
  | q :: qs, s =>
    if (s.core.port d).wwin.isNone then State.resume d qs (s.judge d q.1 q.2.1 q.2.2)
    else s.lift (fun x => x.setPort d { x.port d with waits := q :: qs })

/-- A frame of door D that is received (R636). -/
def Dev.hearCan (s : Dev) (d : Fin 4) : Dev := if d = 3 ∧ s.canOn then { s with can := s.can.received } else s

/-! ### The commands of the doors -/

/-- RREG (R616, R592). -/
def rreg (ts : Nat) (d : Fin 4) (f : Frame) (addr : BitVec 16) (count : BitVec 8) (s : State) : State :=
  ((s.advance ts).lift (fun c => c.hearCan d)).request d f (.rreg addr.toNat count.toNat) []

/-- WREG (R616, R621). -/
def wreg (ts : Nat) (d : Fin 4) (f : Frame) (addr : BitVec 16) (vals : List Word) (s : State) : State :=
  ((s.advance ts).lift (fun c => c.hearCan d)).request d f (.wreg addr.toNat vals) []

/-- RWIN (R616, R538-R541); `ecc` is what the memory words read meet, in rising order (R507). -/
def rwin (ts : Nat) (d : Fin 4) (f : Frame) (addr : Word) (count : BitVec 8) (ecc : List Ecc) (s : State) : State :=
  ((s.advance ts).lift (fun c => c.hearCan d)).request d f (.rwin addr.toNat count.toNat) ecc

/-- WWIN (R616, R540): accepted words await WINDOW_WRITE_DONE. -/
def wwin (ts : Nat) (d : Fin 4) (f : Frame) (addr : Word) (vals : List Word) (s : State) : State :=
  ((s.advance ts).lift (fun c => c.hearCan d)).request d f (.wwin addr.toNat vals) []

/-- WINDOW_WRITE_DONE (R540, R505, R510): the words are in the array, and RES follows; then what waited behind the write. `ecc`
is what the array words written in part meet as they are read. -/
def windowWriteDone (ts : Nat) (d : Fin 4) (ecc : List Ecc) (s : State) : State :=
  let s := s.advance ts
  match (s.core.port d).wwin with
  | some (f, a, vs) =>
    if s.core.arrayFree ∧ ¬ s.core.healthDue ∧ s.core.arch.isNone ∧ s.core.doorsUp then
      ((s.windowWrite a vs ecc).lift (fun c =>
        (c.setPort d { c.port d with wwin := none }).reply d f (.wwin a vs) resDone 0 [])) |> State.resume d (s.core.port d).waits
    else s
  | none => s

/-- PSTAT (R624). -/
def pstat (ts : Nat) (d : Fin 4) (f : Frame) (s : State) : State :=
  ((s.advance ts).lift (fun c => c.hearCan d)).request d f .pstat []

/-- A frame with nothing wrong on the wire. -/
def cleanFrame : Frame := ⟨.good, 0, true, true, 0, none, none⟩

/-- CAL_KEY1 (R664, R665, R668): a WWIN of one word at KEY1. -/
def calKey1 (ts : Nat) (d : Fin 4) (v : Word) (s : State) : State := wwin ts d cleanFrame (BitVec.ofNat 32 key1Addr) [v] s

/-- CAL_KEY2 (R664, R665): a WWIN of one word at KEY2. -/
def calKey2 (ts : Nat) (d : Fin 4) (v : Word) (s : State) : State := wwin ts d cleanFrame (BitVec.ofNat 32 key2Addr) [v] s

/-- SPI_FRAME_ABANDON (R629), on door A or B. -/
def spiFrameAbandon (ts : Nat) (d : Fin 2) (s : Dev) : Dev :=
  let s := s.advance ts
  if s.doorsUp then s.abandon ⟨d.val, by omega⟩ else s

/-- SMBUS_TIMEOUT (R634): `busy` says that a transaction not yet accepted was under way. -/
def smbusTimeout (ts : Nat) (busy : Bool) (s : Dev) : Dev :=
  let s := s.advance ts
  if s.doorsUp ∧ s.flag F.DPROT_SMB_TOEN then
    let s1 := s.setPort 2 { s.port 2 with other := more (s.port 2).other }
    if busy then s1.abandon 2 else s1
  else s

/-- R609, R610: SMBALERT_C is low. -/
def Dev.smbAlert (s : Dev) : Bool :=
  s.doorsUp && !s.muted && decide (s.get (F.DOOR_ACAUSE_CAUSE 2) &&& s.get (F.DOOR_AEN_EN 2) ≠ 0) && !s.smbRel

/-- ALERT_RESPONSE (R635, R610): door C answers at address 0x0C with its own address, and wins the arbitration or loses it; where the
host acknowledges that byte the PEC of the transaction follows. -/
def alertResponse (ts : Nat) (wins : Bool) (s : Dev) : Dev :=
  let s := s.advance ts
  if s.smbAlert ∧ s.flag F.DPROT_SMB_ARAEN then
    let own := BitVec.ofNat 8 (2 * s.addrC)
    if wins then
      { s.setPort 2 { s.port 2 with
          data := [BitVec.ofNat 32 (2 * s.addrC)]
          sent := own :: (if Config.hostAcks s.now then [crc8 [0x19, own]] else []) } with
        smbRel := true
        smbArl := false }
    else { s with smbArl := true }
  else s

/-- CAN_RESPONSE_SEND (R640, R636): the oldest queued response is transmitted. -/
def canResponseSend (ts : Nat) (s : Dev) : Dev :=
  let s := s.advance ts
  match s.can.out with
  | r :: rest => if s.canSends then { s with can := ({ s.can with out := rest, sentId := s.canId 1, sent := r }).transmitted } else s
  | [] => s

/-- R642: an event frame's body. -/
def Dev.eventBody (s : Dev) (bit : Nat) (t : Stamp) : List Byte :=
  leBytes 1 bit ++ leBytes 2 (s.get (F.DOOR_ACAUSE_CAUSE 3)) ++
    leBytes 1 (s.dev.code + 16 * s.eff.code + (if s.evOvf then 64 else 0)) ++ t.bytes

/-- EVENT_FRAME_SEND (R642, R643, R636): the oldest event frame is transmitted; responses go first (R640). -/
def eventFrameSend (ts : Nat) (s : Dev) : Dev :=
  let s := s.advance ts
  match s.evq, s.can.out with
  | (bit, t) :: rest, [] =>
    if s.canSends then
      let p := canPad (canPayload (BitVec.ofNat 8 s.evSent) (s.eventBody bit t))
      { s with
        evq := rest
        evOvf := false
        evSent := s.evSent + 1
        can := ({ s.can with sentId := s.canId 2, sent := p }).transmitted }
    else s
  | _, _ => s

/-- BUS_OFF_RECOVERY (R636): 128 occurrences of 11 recessive bits. -/
def busOffRecovery (ts : Nat) (s : Dev) : Dev :=
  let s := s.advance ts
  if s.doorsUp ∧ s.flag F.DPROT_CAN_EN ∧ s.can.state = 2 then { s with can := { s.can with state := 0, tec := 0, rec_ := 0 } } else s

/-- IGNORED_CAN_FRAME (R636): a frame that is no request to door D; classical and remote ones are counted. -/
def ignoredCanFrame (ts : Nat) (counted : Bool) (s : Dev) : Dev :=
  let s := s.advance ts
  if s.canOn then
    let c := s.can.received
    { s with can := if counted then { c with ignored := more c.ignored } else c }
  else s

/-- ERROR_FRAME (R636): an error frame on the bus, with door D as transmitter or receiver; the counters go up by what
ISO 11898-1 says: 8 for a transmitter, 1 or 8 for a receiver. -/
def errorFrame (ts : Nat) (transmits heavy : Bool) (s : Dev) : Dev :=
  let s := s.advance ts
  if s.canOn then
    let c := if transmits && !s.muted then { s.can with tec := s.can.tec + 8 } else { s.can with rec_ := s.can.rec_ + (if heavy then 8 else 1) }
    ({ s with can := c.judge }).setPort 3 { s.port 3 with other := more (s.port 3).other }
  else s

/-- CAN_BUS_INTEGRATION (R644): door D has seen 11 recessive bits. -/
def canBusIntegration (ts : Nat) (s : Dev) : Dev :=
  let s := s.advance ts
  if s.doorsUp ∧ s.flag F.DPROT_CAN_EN ∧ ¬ s.can.integ then { s with can := { s.can with integ := true } } else s

/-- DOOR_C_STRAY_READ (R635): a read that follows no process call returns 0xFF bytes. -/
def doorCStrayRead (ts : Nat) (s : Dev) : Dev :=
  let s := s.advance ts
  if s.doorHears 2 then (s.abandon 2).setPort 2 { (s.abandon 2).port 2 with data := [BitVec.allOnes 32], sent := [0xFF] } else s

end Sys2Proof.Machine
end

