-- ==== Sys2Proof/Machine/MeanDoors.lean ====
section
/-! DEFINITION. Meanings of the commands: The doors (17). Each is one call of the operation that the rules describe. -/

namespace Sys2Proof.Machine

/-- RREG (R616). -/
def execRreg (ts : Nat) (d : Fin 4) (f : Frame) (addr : BitVec 16) (count : BitVec 8) (s : State) :
    Host.Outcome State Fault Refusal :=
  .next (rreg ts d f addr count s)

/-- WREG (R621). -/
def execWreg (ts : Nat) (d : Fin 4) (f : Frame) (addr : BitVec 16) (vals : List Word) (s : State) :
    Host.Outcome State Fault Refusal :=
  .next (wreg ts d f addr vals s)

/-- RWIN (R616). -/
def execRwin (ts : Nat) (d : Fin 4) (f : Frame) (addr : Word) (count : BitVec 8) (ecc : List Ecc) (s : State) :
    Host.Outcome State Fault Refusal :=
  .next (rwin ts d f addr count ecc s)

/-- WWIN (R540). -/
def execWwin (ts : Nat) (d : Fin 4) (f : Frame) (addr : Word) (vals : List Word) (s : State) :
    Host.Outcome State Fault Refusal :=
  .next (wwin ts d f addr vals s)

/-- WINDOW_WRITE_DONE (R540). -/
def execWindowWriteDone (ts : Nat) (d : Fin 4) (ecc : List Ecc) (s : State) : Host.Outcome State Fault Refusal :=
  .next (windowWriteDone ts d ecc s)

/-- PSTAT (R624). -/
def execPstat (ts : Nat) (d : Fin 4) (f : Frame) (s : State) : Host.Outcome State Fault Refusal :=
  .next (pstat ts d f s)

/-- CAL_KEY1 (R664). -/
def execCalKey1 (ts : Nat) (d : Fin 4) (v : Word) (s : State) : Host.Outcome State Fault Refusal :=
  .next (calKey1 ts d v s)

/-- CAL_KEY2 (R664). -/
def execCalKey2 (ts : Nat) (d : Fin 4) (v : Word) (s : State) : Host.Outcome State Fault Refusal :=
  .next (calKey2 ts d v s)

/-- CAL_SET_TIMEOUT (R668). -/
def execCalSetTimeout (ts : Nat) (s : State) : Host.Outcome State Fault Refusal :=
  .next (s.lift (calSetTimeout ts))

/-- SPI_FRAME_ABANDON (R629). -/
def execSpiFrameAbandon (ts : Nat) (d : Fin 2) (s : State) : Host.Outcome State Fault Refusal :=
  .next (s.lift (spiFrameAbandon ts d))

/-- SMBUS_TIMEOUT (R634). -/
def execSmbusTimeout (ts : Nat) (busy : Bool) (s : State) : Host.Outcome State Fault Refusal :=
  .next (s.lift (smbusTimeout ts busy))

/-- ALERT_RESPONSE (R635). -/
def execAlertResponse (ts : Nat) (wins : Bool) (s : State) : Host.Outcome State Fault Refusal :=
  .next (s.lift (alertResponse ts wins))

/-- CAN_RESPONSE_SEND (R640). -/
def execCanResponseSend (ts : Nat) (s : State) : Host.Outcome State Fault Refusal :=
  .next (s.lift (canResponseSend ts))

/-- EVENT_FRAME_SEND (R642). -/
def execEventFrameSend (ts : Nat) (s : State) : Host.Outcome State Fault Refusal :=
  .next (s.lift (eventFrameSend ts))

/-- BUS_OFF_RECOVERY (R636). -/
def execBusOffRecovery (ts : Nat) (s : State) : Host.Outcome State Fault Refusal :=
  .next (s.lift (busOffRecovery ts))

/-- IGNORED_CAN_FRAME (R636). -/
def execIgnoredCanFrame (ts : Nat) (counted : Bool) (s : State) : Host.Outcome State Fault Refusal :=
  .next (s.lift (ignoredCanFrame ts counted))

/-- ERROR_FRAME (R636). -/
def execErrorFrame (ts : Nat) (transmits heavy : Bool) (s : State) : Host.Outcome State Fault Refusal :=
  .next (s.lift (errorFrame ts transmits heavy))

/-- CAN_BUS_INTEGRATION (R644). -/
def execCanBusIntegration (ts : Nat) (s : State) : Host.Outcome State Fault Refusal :=
  .next (s.lift (canBusIntegration ts))

/-- DOOR_C_STRAY_READ (R635). -/
def execDoorCStrayRead (ts : Nat) (s : State) : Host.Outcome State Fault Refusal :=
  .next (s.lift (doorCStrayRead ts))

end Sys2Proof.Machine
end

