-- ==== Sys2Proof/Machine/MeanLedger.lean ====
section
/-! DEFINITION. Meanings of the commands: The ledger and health (13, 14). Each is one call of the operation that the rules describe. -/

namespace Sys2Proof.Machine

/-- HEALTH_CHECKPOINT (R497). -/
def execHealthCheckpoint (ts : Nat) (s : State) : Host.Outcome State Fault Refusal :=
  .next (s.lift (healthCheckpointCmd ts))

/-- HEALTH_DAY_CLOSE (R493). -/
def execHealthDayClose (ts : Nat) (s : State) : Host.Outcome State Fault Refusal :=
  .next (healthDayClose ts s)

/-- FIRST_FAULT_COMMIT (R515). -/
def execFirstFaultCommit (ts : Nat) (s : State) : Host.Outcome State Fault Refusal :=
  .next (firstFaultCommit ts s)

/-- JOURNAL_WRITE (R526). -/
def execJournalWrite (ts : Nat) (s : State) : Host.Outcome State Fault Refusal :=
  .next (journalWrite ts s)

/-- SCRUB_READ (R508). -/
def execScrubRead (ts : Nat) (e : Ecc) (s : State) : Host.Outcome State Fault Refusal :=
  .next (s.lift (scrubRead ts e))

/-- RAM_SCRUB (R570). -/
def execRamScrub (ts corrected : Nat) (ibad dbad : List Nat) (s : State) : Host.Outcome State Fault Refusal :=
  .next (s.lift (ramScrub ts corrected ibad dbad))

/-- ARCHIVE_COMMIT_END (R534). -/
def execArchiveCommitEnd (ts : Nat) (s : State) : Host.Outcome State Fault Refusal :=
  .next (archiveCommitEnd ts s)

end Sys2Proof.Machine
end

