-- ==== Sys2Proof/Machine/MeanPins.lean ====
section
/-! DEFINITION. Meanings of the commands: The test access port (20). Each is one call of the operation that the rules describe. -/

namespace Sys2Proof.Machine

/-- TAP_INSTRUCTION (R688, R690). -/
def execTapInstruction (ts : Nat) (code : BitVec 4) (cells levels : BitVec 239) (s : State) :
    Host.Outcome State Fault Refusal :=
  .next (s.lift (tapInstruction ts code cells levels))

/-- TEST_LOGIC_RESET (R689). -/
def execTestLogicReset (ts : Nat) (s : State) : Host.Outcome State Fault Refusal :=
  .next (s.lift (testLogicReset ts))

end Sys2Proof.Machine
end

