-- ==== Sys2Proof/Machine/Cut.lean ====
section
/-! DEFINITION. Writes of the array that a supply interrupts (14: R504, R506, R511, R534; 21: R697): the device writes one word every
20 ns, in rising order, and log entry 13 names what the rules leave open. -/

namespace Sys2Proof.Machine

/-- How many words of a write stand in the array. -/
def Recent.done (r : Recent) (now : Nat) : Nat := min r.words (r.stopped.getD ((now - r.since) / 20))

/-- The word of it that is in progress. -/
def Recent.busy (r : Recent) (now : Nat) : Option Nat :=
  if r.stopped.isNone ∧ r.since ≤ now ∧ r.done now < r.words then some ((r.addr / 8 + r.done now) * 8) else none

/-- The bytes of a write from the address `a` on, and below `b`, hold what stood there before. -/
def State.undo (s : State) (r : Recent) (a b : Nat) : State :=
  let lo := max r.addr a
  { s with
    ledger := ssetRun factoryByte s.ledger lo ((r.old.take (b - r.addr)).drop (lo - r.addr))
    core := { s.core with ledgBad := r.bad.filter (fun w => decide (a ≤ w) && decide (w < b) && !s.core.ledgBad.contains w) ++ s.core.ledgBad } }

/-- R506: a word reads as uncorrectable. -/
def Dev.tornAt (s : Dev) (w : Nat) : Dev := if s.ledgBad.contains w then s else { s with ledgBad := w :: s.ledgBad }

/-- R501, R502, R532: an opaque copy whose writing did not end is not valid, and the device holds what the other copy of its pair says. -/
def Dev.copyUndone (s : Dev) (r : Recent) : Dev :=
  match (opaqueCopy r.addr).map (·.val) with
  | some 0 => { s with jck := r.held }
  | some 2 => { s with afill := r.held }
  | some 4 | some 5 => { s with hsaved := s.holder, holder := none, hcopy := s.hcopy + 1 }
  | _ => s

/-- R506: the word in progress of one write as the supply fails: uncorrectable where it is the word that `torn` names, and otherwise
old or new (log entry 13). The number of its words that stand in the array then is left. -/
def State.tearWord (s : State) (torn : Option Nat) (r : Recent) : Nat × State :=
  let k := r.done s.core.now
  match r.busy s.core.now with
  | some w =>
    if torn.any (fun a => a / 8 * 8 == w) then (k, s.lift (fun c => c.tornAt w))
    else if Config.tornNew s.core.fresh then (k + 1, s)
    else (k, s.undo r w (w + 8))
  | none => (k, s)

/-- R504, R506, R511: a write as the supply fails: the words before the one in progress stand, those after it are as they were. -/
def State.tearOne (torn : Option Nat) (s : State) (r : Recent) : State :=
  let x := s.tearWord torn r
  if r.words ≤ x.1 then x.2
  else
    let from_ := (r.addr / 8 + (if (r.busy s.core.now).isSome then r.done s.core.now + 1 else x.1)) * 8
    (x.2.undo r from_ ((r.addr / 8 + r.words) * 8)).lift (fun c => c.copyUndone r)

/-- Where in a list of words one stands. -/
def wordPlace (ws : List Nat) (torn : Option Nat) : Option Nat := torn.bind (fun a => ws.idxOf? (a / 8 * 8))

/-- The words of some blocks in the order in which they are written (R511). -/
def blockWords (bs : List (Nat × List Byte)) : List Nat := (bs.map (fun b => arrayWords b.1 b.2.length)).flatten

/-- The first `k` words of some blocks. -/
def firstWords : Nat → List (Nat × List Byte) → List (Nat × List Byte)
  | _, [] => []
  | k, b :: bs =>
    let n := (arrayWords b.1 b.2.length).length
    if k < n then [(b.1, b.2.take ((b.1 / 8 + k) * 8 - b.1))] else b :: firstWords (k - n) bs

/-- R506, R511: blocks whose writing is not over, as the supply fails: so many whole words of them stand, up to the word that is torn
where `torn` names one of them. -/
def State.partBlocks (s : State) (torn : Option Nat) (k : Nat) (bs : List (Nat × List Byte)) : State :=
  match wordPlace (blockWords bs) torn with
  | some i => (s.putBlocks (firstWords i bs)).lift (fun c => c.tornAt ((blockWords bs).getD i 0))
  | none => s.putBlocks (firstWords k bs)

/-- R540, R511: a door's window write under way as the supply fails. -/
def State.tearDoor (torn : Option Nat) (s : State) (d : Fin 4) : State :=
  match (s.core.ports.get d).wwin with
  | some (_, a, vs) => s.partBlocks torn (Config.written (s.core.fresh + d.val)) (s.core.originBlocks a vs.length ++ [hostBlock a vs])
  | none => s

/-- R534, R511: a commit under way as the supply fails: its images, its header, then the fill copies. -/
def State.tearArch (torn : Option Nat) (s : State) : State :=
  match s.core.arch with
  | some a =>
    let bs := s.archBlocks a
    let n := (blockWords bs).length
    let copies := arrayWords (copyArea 2).1 32
    let k := (wordPlace (blockWords bs ++ copies) torn).getD (Config.written (s.core.fresh + 4))
    let t := s.partBlocks torn k bs
    if k < n then t
    else t.lift (fun c =>
      let c1 := if n + 2 ≤ k then { c.copyPut 2 with afill := (c.afill.1 + entryLen a.mask, c.afill.2 + 1) } else c
      let c2 := if n + 4 ≤ k then c1.copyPut 3 else c1
      match wordPlace copies torn with
      | some i => c2.tornAt (copies.getD i 0)
      | none => c2)
  | none => s

/-- R504, R506, R511: what the array holds as the supply of what writes it fails. A write of the device is at the word that its time
gives; those begun after it wait behind it. `torn` is an address in the word that is left uncorrectable, if one is. A main region held
in reset has no write of a door or commit under way any more (R561). -/
def State.tears (s : State) (torn : Option Nat) : State :=
  let t := s.core.recent.reverse.foldl (State.tearOne torn) s
  let u := if s.core.vault.mainHeld then t else (List.finRange 4).foldl (State.tearDoor torn) (t.tearArch torn)
  u.lift (fun c => { c with recent := [] })

/-- R506, R561: the word in progress as VCORE fails, where it is left uncorrectable (log entry 13). -/
def State.coreTorn (s : State) : Option Nat :=
  if Config.tornBad s.core.fresh then s.core.recent.findSome? (fun r => r.busy s.core.now) else none

/-- R697: VDD1V8 leaves its window: no further word begins, and R506 governs the one in progress. -/
def State.pauses (s : State) (torn : Option Nat) : State :=
  s.core.recent.foldl (fun (t : State) r =>
    let x := t.tearWord torn r
    let k := if (r.busy s.core.now).isSome then r.done s.core.now + 1 else r.done s.core.now
    x.2.lift (fun c => { c with recent := c.recent ++ [{ r with stopped := some k }] })) (s.lift (fun c => { c with recent := [] }))

/-- R697: VDD1V8 is within its window again: the words that waited follow one after the other. -/
def Dev.resumes (s : Dev) : Dev :=
  { s with recent := s.recent.foldl (fun (l : List Recent) r =>
    l ++ [{ r with since := (l.getLast?.map Recent.doneAt).getD s.now - 20 * r.stopped.getD 0, stopped := none }]) [] }

end Sys2Proof.Machine
end

