-- ==== Sys2Proof/Machine/Power.lean ====
section
/-! DEFINITION. Power entry (02): supply, lockout, VIN loss and the switchover, the pre-regulator, VIN_HIGH, the charger's
faults, the power-entry monitor and the sag governor. -/

namespace Sys2Proof.Machine

/-! ### Supply (R22, R50, R52, R58) -/

/-- SUPPLY_PRESENT (R22): VIN or HOLD rises above 8 V. -/
def supplyPresent (ts : Nat) (s : Dev) : Dev :=
  let s := s.advance ts
  if s.dev = .unpowered then s.enterPowerHold else s

/-- SUPPLY_LOST (R22, R506): VIN and HOLD both lie below 8 V. What the main region held is lost with it. -/
def supplyLost (ts : Nat) (torn : Option Nat) (s : State) : State :=
  let s := s.advance ts
  if s.core.dev = .unpowered then s else ((s.tears torn).lift (fun c => c.wiped .unpowered)).dark

/-- VIN_RISE_LOCKOUT (R50, R76 step 1): VIN rises above 28.0 V. -/
def vinRiseLockout (ts : Nat) (s : Dev) : Dev :=
  let s := s.advance ts
  if s.dev = .powerHold then s.enterBoot else s

/-- BOOT_VIN_DROP (R52, R22, R79, R506): VIN below 25.5 V for 2 us in BOOT. A device that R79 keeps at step 3 stays there. -/
def bootVinDrop (ts : Nat) (torn : Option Nat) (s : State) : State :=
  let s := s.advance ts
  if s.core.dev = .boot ∧ ¬ s.core.pwr.stuck then ((s.tears torn).lift Dev.enterPowerHold).dark else s

/-- VSUP_LOW (R58, R534): VSUP falls below 11.0 V: no output is driven, and a commit in progress ends. -/
def vsupLow (ts : Nat) (s : Dev) : Dev :=
  let s := s.advance ts
  if s.dev = .unpowered ∨ s.pwr.vsupLow then s else ({ s with pwr := { s.pwr with vsupLow := true } }).archInterrupted

/-- VSUP_RECOVER (R56, R27): VSUP lies at 11.0 V or above again: the outputs are driven, FLT_N where it has a cause. -/
def vsupRecover (ts : Nat) (s : Dev) : Dev :=
  let s := s.advance ts
  if s.pwr.vsupLow then { s with pwr := { s.pwr with vsupLow := false } } else s

/-- VDD5_UV (R57): VDD5 below 4.50 V for 20 us in RUN or HOLD-UP. -/
def vdd5Uv (ts : Nat) (s : Dev) : Dev :=
  let s := s.advance ts
  if s.live ∧ s.mainAlive then
    (s.mark F.PWR_EVENT_VDD5_UV).declare 0x0109 0 (s.stored 0x100) (s.stored 0x101) true (some (.monitor 0x0109))
  else s

/-- VDD1V8_OUT_OF_WINDOW (R697, R506): VDD1V8 leaves (`ok` false) or re-enters its window. -/
def vdd1v8OutOfWindow (ts : Nat) (ok : Bool) (torn : Option Nat) (s : State) : State :=
  let s := s.advance ts
  if ok = s.core.v18ok then s
  else (if ok then s.lift Dev.resumes else s.pauses torn).lift (fun c => { c with v18ok := ok })

/-- VCORE_FAIL (R560, R561, R506): VCORE has been outside its window for 2 us; the main region is held in reset, and with it what
writes the array. -/
def vcoreFail (ts : Nat) (above : Bool) (s : State) : State :=
  let s := s.advance ts
  if s.core.vaultUp ∧ s.core.usecOn ∧ ¬ s.core.vault.mainHeld then
    ((s.tears s.coreTorn).lift (fun c =>
      let s1 := { c.toShadow with vault := { c.toShadow.vault with mainHeld := true, coreLost := true } }
      ((s1.mark F.SAFE_EVENT_VCORE_FAIL).controllersIdle).declare 0x0A12 0 (if above then 1 else 0) 0
        true (some (.monitor 0x0A12))))
  else s

/-! ### VIN loss (R52, R63-R66, R74) -/

/-- R68, R73: change the sag level with its events and record; the charger follows (R59). -/
def Dev.sagTo (s : Dev) (l cause : Nat) : Dev :=
  if s.sag = l then s
  else
    let s1 := s.setSag l
    let s2 := if l = 1 then s1.mark F.PWR_EVENT_SAG1 else if l = 2 then s1.mark F.PWR_EVENT_SAG2 else s1
    (s2.journal 0x0106 0 (BitVec.ofNat 32 l) (BitVec.ofNat 32 cause)).chgRun

/-- R321: the HOLD purse as HOLD-UP begins. -/
def Dev.holdBegin (s : Dev) : Dev :=
  { s with
    holdE := s.holdEnergy
    holdAt := s.now
    holdO := 0
    holdShort := false }

/-- R64: OR_GATE as the ideal diode has it. -/
def Dev.orTo (s : Dev) (on : Bool) : Dev :=
  if s.flag F.PWR_STATUS_OR_ON == on then s
  else if on then { (s.mark F.PWR_STATUS_OR_ON) with pwr := { s.pwr with orAt := some s.now, orDone := false } }
  else { (s.put F.PWR_STATUS_OR_ON 0) with pwr := { s.pwr with orAt := none } }

/-- VIN_LOSS (R52, R63, R12, R41, R74, R668): VIN below 25.5 V for 2 us in RUN. The lockout comparator and the table are the
vault's: neither needs the main region. -/
def vinLoss (ts : Nat) (s : Dev) : Dev :=
  let s := s.advance ts
  if s.dev = .run then
    let s0 := if s.eff = .watch then ((s.wake 7).leaveWatch).latchAll else s
    let s1 := s0.pwrRec 0x010D
    let s2 := ((s1.mark F.PWR_STATUS_VINLOSS).setDev .holdUp).orTo true
    let s3 := ((s2.sagTo 1 4).chgRun).holdBegin
    { s3 with calOpen := none }.requestEntry .vinLoss 0x010D
  else s

/-- OR_FAIL (R65, R547): 20 us after OR_GATE turned on, VSUP has not risen to within 2.0 V of HOLD, which lies above VFLOOR. -/
def orFail (ts : Nat) (s : Dev) : Dev :=
  let s := s.advance ts
  match s.pwr.orAt with
  | some t =>
    if s.dev = .holdUp ∧ s.mainAlive ∧ ¬ s.pwr.orDone ∧ s.elapsed t 20000 ∧
        s.get F.PWR_HOLDCFG_VFLOOR * 1000 < s.get F.PWR_HOLDV_V then
      { ((s.mark F.PWR_EVENT_OR_FAIL).declare 0x010A 0 (s.stored 0x100) (s.stored 0x101) false none) with pwr := { s.pwr with orDone := true } }
    else s
  | none => s

/-! ### The power-entry monitor (R49, R53, R68) -/

/-- R64, R66: in HOLD-UP the OR switch conducts as an ideal diode, whatever has become of the main region. -/
def Dev.orDiode (s : Dev) (vsup hold : Nat) : Dev :=
  if s.dev ≠ .holdUp then s else if vsup + 200 < hold then s.orTo true else if hold < vsup then s.orTo false else s

/-- The monitor runs: the main region is up, from boot step 3 on. -/
def Dev.monUp (s : Dev) : Bool := s.usecOn && s.mainAlive && (s.live || s.dev == .boot || s.dev == .bootFail)

/-- R68: the samples of 100 us ago and now: VIN falls faster than SLOPE, and its slope lies below SLOPE. Before 100 us
of samples the slope is not known: VIN does not fall faster. -/
def slopeOf (vins : List Nat) (slope : Nat) : Bool × Bool :=
  match vins[0]?, vins[10]? with
  | some a, some b => (decide (a + slope * 100 < b), decide (b < a + slope * 100))
  | _, _ => (false, true)

/-- The instant since which a condition holds. -/
def heldSince (now : Nat) (old : Option Nat) (holds : Bool) : Option Nat := if holds then some (old.getD now) else none

/-- R68 in 100 uV: SAGV, SAGV - DEPTH and HYST. -/
def Dev.sagV (s : Dev) : Nat := s.get F.PWR_SAG_SAGV * 1000
def Dev.sagDeep (s : Dev) : Nat := s.get F.PWR_SAG_SAGV * 1000 - s.get F.PWR_SAG_DEPTH * 5000
def Dev.sagHyst (s : Dev) : Nat := s.get F.PWR_SAG_HYST * 1000

/-- The counts and instants that a sample moves (R49, R61, R68). -/
def Dev.monCounts (s : Dev) (v h : Nat) : Power :=
  let p := s.pwr
  let vins := (v :: p.vins).take 11
  let sl := slopeOf vins (s.get F.PWR_SAG_SLOPE)
  { p with
    vins := vins
    high := if 820000 < v then p.high + 1 else 0
    low := if v < 800000 then p.low + 1 else 0
    fastAt := heldSince s.now p.fastAt sl.1
    rec1At := heldSince s.now p.rec1At (sl.2 && decide (s.sagDeep + s.sagHyst < v))
    rec0At := heldSince s.now p.rec0At (sl.2 && decide (s.sagV + s.sagHyst < v))
    ovAt := heldSince s.now p.ovAt (decide (s.vcv + 30000 < h))
    reached := p.reached || decide (s.vcv ≤ h + 10000) }

/-- POWER_ENTRY_MONITOR_SAMPLE (02; R49, R53, R64): the 10 us sample of VIN and HOLD in 100 uV. In HOLD-UP `vsup`, VSUP in
100 uV, decides at this instant whether the OR switch conducts. -/
def powerEntryMonitorSample (ts vin hold vsup : Nat) (s : Dev) : Dev :=
  let s := s.advance ts
  if s.monUp then
    let v := min vin 0xFFFFF
    let h := min hold 0xFFFFF
    let s1 := (((s.put F.PWR_VIN_V v).roll F.PWR_VIN_SEQ).mark F.PWR_VIN_VALID)
    let s2 := (((s1.put F.PWR_HOLDV_V h).roll F.PWR_HOLDV_SEQ).mark F.PWR_HOLDV_VALID)
    let s3 := { s2 with pwr := s2.monCounts v h }
    let s4 := s3.orDiode vsup hold
    let s5 := if s4.live then s4.vinWaits else s4
    s5.ffNewVin
  else s.orDiode vsup hold

/-- VIN_HIGH (R49, R547): ten consecutive samples above 82.0 V. -/
def vinHigh (ts : Nat) (s : Dev) : Dev :=
  let s := s.advance ts
  if s.monUp ∧ 10 ≤ s.pwr.high ∧ ¬ s.flag F.PWR_STATUS_VIN_HIGH then
    ((((s.mark F.PWR_STATUS_VIN_HIGH).mark F.PWR_EVENT_VIN_HIGH).declare 0x0104 0 (s.stored 0x100) (s.stored 0x101) false none)).chgRun
  else s

/-- VIN_HIGH_CLEAR (R49): one hundred consecutive samples below 80.0 V. -/
def vinHighClear (ts : Nat) (s : Dev) : Dev :=
  let s := s.advance ts
  if s.monUp ∧ 100 ≤ s.pwr.low ∧ s.flag F.PWR_STATUS_VIN_HIGH then (s.put F.PWR_STATUS_VIN_HIGH 0).chgRun else s

/-! ### The charger (R59-R62) -/

/-- The charger runs. -/
def Dev.chgOn (s : Dev) : Bool :=
  let c := s.get F.PWR_STATUS_CHG
  c != chgOff && c != chgTimeout && c != chgHoldOv

/-- R61, R547: the charger stops on a fault, with its event, record and verdict. -/
def Dev.chgStop (s : Dev) (mode typ : Nat) (ev : Fld) : Dev :=
  ((s.put F.PWR_STATUS_CHG mode).mark ev).declare typ 0 (s.stored 0x101) (s.stored 0x105) false none

/-- CHG_TIMEOUT (R61): TMAX seconds after its start HOLD has not reached VCV - 1.0 V. -/
def chgTimeoutCmd (ts : Nat) (s : Dev) : Dev :=
  let s := s.advance ts
  if s.live ∧ s.mainAlive ∧ s.chgOn ∧ ¬ s.pwr.reached ∧ s.elapsed s.pwr.chgAt (s.get F.PWR_CHG_TMAX * 1000000000) then
    s.chgStop chgTimeout 0x0107 F.PWR_EVENT_CHG_TIMEOUT
  else s

/-- HOLD_OV (R61): HOLD has stayed above VCV + 3.0 V for 1 ms. -/
def holdOv (ts : Nat) (s : Dev) : Dev :=
  let s := s.advance ts
  match s.pwr.ovAt with
  | some t =>
    if s.live ∧ s.mainAlive ∧ s.chgOn ∧ s.elapsed t 1000000 then s.chgStop chgHoldOv 0x0108 F.PWR_EVENT_HOLD_OV else s
  | none => s

/-- CHARGER_MODE_CHANGE (R59, R60): the charger passes between CC, HALF, CV and DROPOUT as VIN and HOLD have it. -/
def chargerModeChange (ts : Nat) (s : Dev) : Dev :=
  let s := s.advance ts
  if s.live ∧ s.mainAlive then s.chgRun else s

/-! ### The sag governor (R68-R75) -/

/-- R68: VIN has fallen faster than SLOPE for 50 us. -/
def Dev.sagFast (s : Dev) : Bool := s.pwr.fastAt.any (fun t => s.elapsed t 50000)

/-- The governor acts: EN = 1, in RUN, on a reading (R68, R74, R82). -/
def Dev.sagActs (s : Dev) : Bool :=
  s.dev == .run && s.mainAlive && s.flag F.PWR_SAG_EN && s.flag F.PWR_VIN_VALID

/-- SAG_LEVEL_UP (R68, R73). -/
def sagLevelUp (ts : Nat) (s : Dev) : Dev :=
  let s := s.advance ts
  let v := s.get F.PWR_VIN_V
  let low := decide (v < s.sagV)
  let deep := decide (v < s.sagDeep)
  if s.sagActs then
    if s.sag < 2 ∧ (deep ∨ (low ∧ s.sagFast)) then s.sagTo 2 (if deep then 0 else 1)
    else if s.sag = 0 ∧ (low ∨ s.sagFast) then s.sagTo 1 (if low then 0 else 1)
    else s
  else s

/-- SAG_LEVEL_DOWN (R68, R73, R565): recovery for 1 ms; while the monitor is lost the level stays at 1 or above. -/
def sagLevelDown (ts : Nat) (s : Dev) : Dev :=
  let s := s.advance ts
  let held (o : Option Nat) : Bool := o.any (fun t => s.elapsed t 1000000)
  if s.sagActs then
    if s.sag = 2 ∧ held s.pwr.rec1At then s.sagTo 1 2
    else if s.sag = 1 ∧ held s.pwr.rec0At ∧ ¬ s.flag F.SAFE_STATUS_MONLOST then s.sagTo 0 2
    else s
  else s

end Sys2Proof.Machine
end

