-- ==== Sys2Proof/Machine/Boot.lean ====
section
/-! DEFINITION. Start-up (R76-R82): the vault's steps, the calibration set, BOOTNO, the program banks and their checks
(07: R286-R297; 09: R339-R341), the start-up self-test, and the entry to RUN. -/

namespace Sys2Proof.Machine

/-- Go on to a boot step. -/
def Dev.toStep (s : Dev) (k : Nat) : Dev := s.put F.SYS_STATE_BOOTSTEP k

/-! ### Steps 2 and 3 (R76, R79, R86, R706) -/

/-- R79: the vault holds the main region in reset, and waits 100 ms; after the third restart it asserts FLT_N instead,
and the device stays at step 3. -/
def Dev.bootHold (s : Dev) : Dev :=
  let t := { s with
    vault := { s.vault with mainHeld := true }
    pwr := { s.pwr with
      waitAt := some s.now
      stuck := decide (3 ≤ s.pwr.tries) } }
  if t.pwr.stuck then t.driveFlt .bootFail else t

/-- VDD5_SOFT_START_DONE (R56, R76, R79): step 2 ends; the vault finds VCORE and VVLT within their windows (`ok`) and
starts the PLL, or not. -/
def vdd5SoftStartDone (ts : Nat) (ok : Bool) (s : Dev) : Dev :=
  let s := s.advance ts
  if (s.atStep 1 ∨ s.atStep 2) ∧ s.pwr.waitAt.isNone then
    let s1 := { s.toStep 3 with pwr := { s.pwr with stepAt := s.now } }
    if ok then s1 else s1.bootHold
  else s

/-- SUPPLY_WINDOW_RETRY (R79): 100 ms after the failure step 2 starts again, up to three times. -/
def supplyWindowRetry (ts : Nat) (s : Dev) : Dev :=
  let s := s.advance ts
  match s.pwr.waitAt with
  | some t =>
    if s.atStep 3 ∧ ¬ s.pwr.stuck ∧ s.elapsed t 100000000 then
      { s.toStep 2 with
        vault := { s.vault with mainHeld := s.vault.coreLost }
        pwr := { s.pwr with waitAt := none, tries := s.pwr.tries + 1 } }
    else s
  | none => s

/-- R705: the vault starts the PLL once the crystal oscillator runs, within 0.4 ms of the start of boot step 3. -/
def Dev.pllAt (s : Dev) : Nat := s.pwr.stepAt + Config.oscNs s.pwr.stepAt % 400001

/-- PLL_LOCK (R86, R680, R706): the PLL locks: USEC starts at 0, the main region is released, and the straps are sampled.
DESIGN CHOICE (log entry 43): the vault's shadow count starts aligned with it, before the first close that R85 names. -/
def pllLock (ts : Nat) (dadr : Fin 8) (s : Dev) : Dev :=
  let s := s.advance ts
  if s.atStep 3 ∧ s.mainAlive ∧ s.pwr.waitAt.isNone ∧ ¬ s.usecOn ∧ s.now ≤ s.pllAt + 500000 then
    ({ s with usecOn := true, usec0 := s.now, shadowAt := s.now }.put F.DPROT_STRAP_S dadr).toStep 4
  else s

/-- PLL_LOCK_TIMEOUT (R706): 0.5 ms after its start the PLL has not locked. -/
def pllLockTimeout (ts : Nat) (s : Dev) : Dev :=
  let s := s.advance ts
  if s.atStep 3 ∧ s.pwr.waitAt.isNone ∧ s.elapsed s.pllAt 500000 then s.bootHold else s

/-! ### Step 4 (R87, R502, R503, R512, R658, R659) -/

/-- Whether `n` bytes from an address are all 0. -/
def State.zeros (s : State) (a n : Nat) : Bool := (s.ledgerBytes a n).all (· == 0)

/-- R659: the calibration set passes. -/
def State.calOk (s : State) : Bool :=
  s.ledgerNat calBase 4 == 0x534C4143 && s.ledgerNat (calBase + 4) 2 == 1 && s.ledgerNat (calBase + 6) 2 == 0x4824 &&
    s.zeros (calBase + 0x0A) 2 && s.zeros (calBase + 0x10) 48 && s.zeros (calBase + 0x0D00) 29424 &&
    s.zeros (calBase + 0x7FF4) 4 && s.core.readable calBase 0x7FF4 &&
    s.ledgerNat (calBase + 0x7FF0) 4 == crc32 (s.ledgerBytes calBase 0x7FF0)

/-- R502, R503, R88: BOOTNO is incremented; with no valid copy it becomes 1 in both. -/
def State.incrementBootno (s : State) : State :=
  match s.newerCopy with
  | some (c, v) =>
    (s.writeCopy (1 - c) (nextBootno v)).lift (fun d => { d with bootno := BitVec.ofNat 32 (nextBootno v) })
  | none =>
    ((s.writeCopy 0 1).writeCopy 1 1).lift (fun d =>
      ({ d with bootno := 1 }.mark F.LEDG_EVENT_BOOTNO_LOST).journal 0x010C 0)

/-- R87: the STAMPs taken since USEC started carry this boot's BOOTNO. -/
def Dev.bootStamps (s : Dev) : Dev :=
  { s with
    bootnoOk := true
    jq := s.jq.map (fun r => (r.1, { r.2 with stamp := { r.2.stamp with boot := s.bootno } }))
    evq := s.evq.map (fun e => (e.1, { e.2 with boot := s.bootno }))
    folio := s.folio.map (fun f => { f with stamp := { f.stamp with boot := s.bootno } }) }

/-- R660: the content of the calibration set, as it differs from the factory's. -/
def State.setTrims (s : State) : List (Nat × Byte) := s.ledger.filter (fun p => decide (calBase ≤ p.1) && decide (p.1 < calBase + 0x8000))

/-- R507: what boot step 4 reads of the array: the calibration set, the BOOTNO copies and the archive fill copies. -/
def bootReads (w : Nat) : Bool := touches calBase 0x8000 w || touches bootnoBase 32 w || touches (copyArea 2).1 32 w

/-- R501: the archive fill as boot step 4 finds it. -/
def Dev.fillFound (s : Dev) : Dev := if s.pairLost 2 then { s with afill := (0, 0) } else s

/-- CAL_SET_LOAD (R659, R660, R80, R87, R502, R507, R512): boot step 4; no word is written while VDD1V8 is outside its window (R697). -/
def calSetLoad (ts : Nat) (s : State) : State :=
  let s := s.advance ts
  if s.core.atStep 4 ∧ s.core.mainAlive ∧ s.core.ledgerOn ∧ ¬ s.core.bootnoOk then
    let t := ((s.lift (fun c => (c.reads bootReads).fillFound)).incrementBootno.lift Dev.bootStamps).emptyFolio
    if s.calOk then t.lift (fun c => { c.toStep 5 with trims := s.setTrims }) else t.lift (fun c => c.enterBootFail 1)
  else s

/-! ### The image (R286-R294) -/

def bankBase (b : Bool) : Nat := if b then 0x180000 else 0x100000

/-- A number of the image in a bank. -/
def State.img (s : State) (b : Bool) (off n : Nat) : Nat := s.ledgerNat (bankBase b + off) n

/-- The sections of an image: offset and length in bytes. -/
def State.sections (s : State) (b : Bool) : List (Nat × Nat) :=
  [(s.img b 0x18 4, 4 * s.img b 0x1C 4), (s.img b 0x20 4, s.img b 0x24 4), (s.img b 0x28 4, 8 * s.img b 0x2C 4),
    (s.img b 0x30 4, s.img b 0x34 4)]

/-- Check 6 of R295: two non-empty sections stand apart. -/
def apart (a b : Nat × Nat) : Bool := decide (a.1 + a.2 ≤ b.1) || decide (b.1 + b.2 ≤ a.1)

/-- Check 6 of R295 on the non-empty sections. -/
def sectionsOk (len : Nat) : List (Nat × Nat) → Bool
  | [] => true
  | x :: xs => decide (0x380 ≤ x.1) && decide (x.1 + x.2 + 4 ≤ len) && decide (x.1 % 8 = 0) && xs.all (apart x) && sectionsOk len xs

/-- An entry of the entry table (R288). -/
structure BootEntry where
  entry  : Nat
  trap   : Nat
  b4     : Nat
  b5     : Nat
  wdog   : Nat
deriving DecidableEq, Repr

def State.bootEntry (s : State) (b : Bool) (k : Nat) : BootEntry :=
  let o := 0x40 + 8 * k
  ⟨s.img b o 2, s.img b (o + 2) 2, s.img b (o + 4) 1, s.img b (o + 5) 1, s.img b (o + 6) 2⟩

/-- Check 7 of R295. -/
def BootEntry.okFor (e : BootEntry) (codeLen : Nat) : Bool :=
  decide (e.entry < codeLen) && decide (e.trap < codeLen) && decide (e.b4 < 128) && decide (e.b4 / 16 % 4 ≠ 3) &&
    decide (e.b5 = 0) && decide (e.wdog ≤ 1000)

/-- A preset (R292): register, bytes 2-3, value. -/
def State.presets (s : State) (b : Bool) : List (Nat × Nat × Nat) :=
  (List.range (s.img b 0x2C 4)).map (fun i =>
    let o := s.img b 0x28 4 + 8 * i
    (s.img b o 2, s.img b (o + 2) 2, s.img b (o + 4) 4))

/-- R652: the bits of a register's RW, RWO and RWL fields. -/
def keptBits (r : Nat) : Nat :=
  (writables r).foldl (fun (a : Nat) f => if f.acc.keeps then a + (2 ^ f.w - 1) * 2 ^ f.lo else a) 0

/-- A preset as the write it is. -/
def presetWrite (p : Nat × Nat × Nat) : RegWrite := ⟨p.1, BitVec.ofNat 32 (keptBits p.1), BitVec.ofNat 32 p.2.2⟩

/-- R293: a register that a preset may target. A phase in no map belongs to no controller (R449, R720). -/
def Dev.mayPreset (s : Dev) (r : Nat) : Bool :=
  let l := locate r
  keptBits r != 0 && r != 0x0005 && r != 0x0007 && r != 0x0008 && l.block != .teller && l.block != .mask &&
    (l.block != .ph || (s.resource r).isSome)

/-- R292, R652: write one preset. -/
def Dev.applyPreset (s : Dev) (p : Nat × Nat × Nat) : Dev := s.applyWrite (s.writeAt (.door 0) 0 (presetWrite p))

/-- R447, R720: a preset that maps a phase that does not exist; of R447's conditions only overlap waits for the whole table. -/
def mapTooLong (x : WriteAt) : Bool :=
  let l := locate x.reg
  l.block == .sc && l.off == 0 && decide (24 < (F.SC_MAP_FIRST l.idx).of x.new + (F.SC_MAP_COUNT l.idx).of x.new)

/-- R720: each preset in turn, on the state the earlier ones leave; none where one is refused. -/
def Dev.judgePresets (s : Dev) : List (Nat × Nat × Nat) → Option Dev
  | [] => some s
  | p :: ps =>
    let x := s.writeAt (.door 0) 0 (presetWrite p)
    if p.2.1 = 0 ∧ s.mayPreset p.1 ∧ x.inRange ∧ (s.writeCond x).isNone ∧ ¬ mapTooLong x then (s.applyPreset p).judgePresets ps else none

/-- R294, R288: what boot step 8 sets from the ownership, entry and mask tables. -/
def State.tables (s : State) (b : Bool) : Dev :=
  let s1 : Dev := { s.core with
    owners := Vector.ofFn (fun (i : Fin 256) =>
      let o := (Owner.ofCode (s.img b (0x280 + i.val) 1)).getD .none
      if i.val = 0x7B ∧ o = Owner.none then .program else o) }
  let s2 := (List.range 64).foldl (fun (a : Dev) m =>
    (a.put (F.M_LO_RAILS m) (s.img b (0x80 + 8 * m) 4)).put (F.M_HI_RAILS m) (s.img b (0x84 + 8 * m) 2)) s1
  (List.finRange 8).foldl (fun (a : Dev) (k : Fin 8) =>
    let e := s.bootEntry b k.val
    let a1 := (((a.put (F.TELLER_CFG_PRIO k) (e.b4 % 8)).put (F.TELLER_CFG_EXC k) (e.b4 / 16 % 4)).put
      (F.TELLER_CFG_STRICT k) (e.b4 / 64 % 2)).put (F.TELLER_CFG_WDOG k) e.wdog
    a1.setTeller k { a1.teller k with
      entry := BitVec.ofNat 16 e.entry
      trap := BitVec.ofNat 16 e.trap
      pc := BitVec.ofNat 16 e.entry }) s2

/-- R720: the preset table as a whole. -/
def State.presetsOk (s : State) (b : Bool) : Bool :=
  let ps := s.presets b
  match (s.tables b).judgePresets ps with
  | some d => (spanRefusals d 0 (ps.map presetWrite) none).isNone
  | none => false

/-! ### The shutdown section (R339-R341) -/

/-- R340: a step as its sixteen bytes give it, and whether every reserved field is 0. -/
def State.tstep (s : State) (a : Nat) : TStep × Bool :=
  let act := s.ledgerNat (a + 6) 1
  let w := s.ledgerNat (a + 8) 4
  let voff := decide (w < 2 ^ 31)
  let st : TStep :=
    { mask := BitVec.ofNat 48 (s.ledgerNat a 6)
      act := match act % 4 with
        | 0 => .off
        | 1 => .foff
        | 2 => .rsto
        | _ => .finish
      rstoSet := BitVec.ofNat 8 (s.ledgerNat (a + 7) 1)
      voff := voff
      time := w % 2 ^ 24
      limit := s.ledgerNat (a + 12) 2 }
  (st, decide (act < 4) && decide (w / 2 ^ 24 % 128 = 0) && (!voff || decide (w % 2 ^ 24 = 0)) && decide (s.ledgerNat (a + 14) 2 = 0))

/-- R341: the conditions on one step. -/
def TStep.okStep (t : TStep) : Bool :=
  let wait := if t.voff then decide (1 ≤ t.limit) else decide (t.time ≤ t.limit * 1000)
  match t.act with
  | .off => t.rstoSet == 0 && wait
  | .foff => t.rstoSet == 0 && wait
  | .rsto => t.mask == 0 && t.rstoSet != 0 && wait
  | .finish => t.mask == 0 && t.rstoSet == 0 && t.voff && t.time == 0 && t.limit == 0

/-- The steps of a bank's shutdown section. -/
def State.shutSteps (s : State) (b : Bool) : List (TStep × Bool) :=
  let o := bankBase b + s.img b 0x30 4
  (List.range (s.ledgerNat (o + 4) 2)).map (fun i => s.tstep (o + 8 + 16 * i))

/-- The first steps of the four entries. -/
def State.shutEntries (s : State) (b : Bool) : List Nat := (s.ledgerBytes (bankBase b + s.img b 0x30 4) 4).map (·.toNat)

/-- R341. -/
def State.shutOk (s : State) (b : Bool) : Bool :=
  let o := bankBase b + s.img b 0x30 4
  let n := s.ledgerNat (o + 4) 2
  decide (s.img b 0x34 4 = 8 + 16 * n) && decide (1 ≤ n) && decide (n ≤ 64) && s.zeros (o + 6) 2 &&
    (let steps := s.shutSteps b
     steps.all (fun t => t.2 && t.1.okStep) &&
      (s.shutEntries b).all (fun e => decide (e < n) && (steps.drop e).any (fun t => t.1.act == .finish)))

/-! ### Step 5 (R295-R297) -/

/-- R295: the code of the first check that a bank fails. -/
def State.bankCode (s : State) (b : Bool) : Option Nat :=
  let base := bankBase b
  let len := s.img b 0x0C 4
  let codeLen := s.img b 0x1C 4
  if !(s.img b 0 4 == 0x48544C4D && s.img b 4 2 == 1 && s.img b 0x0A 2 == 0x40 && s.zeros (base + 9) 1 && s.zeros (base + 0x38) 8) then some 1
  else if s.img b 6 2 ≠ 0x4824 then some 2
  else if 0x11 < s.img b 8 1 then some 3
  else if len % 4 ≠ 0 ∨ len < 0x388 ∨ 524288 < len then some 4
  else if s.img b (len - 4) 4 ≠ crc32 (s.ledgerBytes base (len - 4)) ∨ ¬ s.core.readable base len then some 5
  else if !(sectionsOk len ((s.sections b).filter (fun x => x.2 != 0)) && decide (1 ≤ codeLen) && decide (codeLen ≤ 65536) &&
      decide (s.img b 0x24 4 ≤ 65536) && decide (s.img b 0x24 4 % 4 = 0) && decide (s.img b 0x2C 4 ≤ 4096)) then some 6
  else if !(List.range 8).all (fun k => (s.bootEntry b k).okFor codeLen) then some 7
  else if !((List.range 64).all (fun m => s.zeros (base + 0x86 + 8 * m) 2) && (List.range 256).all (fun i =>
      decide (s.img b (0x280 + i) 1 ≤ 5) && (!reservedRes (BitVec.ofNat 8 i) || decide (s.img b (0x280 + i) 1 = 0)))) then some 8
  else if !s.presetsOk b then some 9
  else if !s.shutOk b then some 10
  else none

/-- R297: the banks to try, in order. DESIGN CHOICE (log entry 41): where the SERIALs differ by exactly 2^31, so that neither is
newer and they are not equal, bank A comes first. -/
def State.candidates (s : State) : List Bool :=
  let has (b : Bool) : Bool := s.img b 0 4 == 0x48544C4D
  let d := (s.img true 0x10 4 + 2 ^ 32 - s.img false 0x10 4) % 2 ^ 32
  if has false && has true then (if 1 ≤ d ∧ d < 2 ^ 31 then [true, false] else [false, true])
  else if has false then [false]
  else if has true then [true]
  else []

/-- R507: the words by which a bank is found and ordered (R297): its MAGIC and SERIAL. -/
def bankHead (b : Bool) (w : Nat) : Bool := touches (bankBase b) 4 w || touches (bankBase b + 0x10) 4 w

/-- R507: the other words that the checks of a bank read: its header, and its image where IMGLEN passes check 4. -/
def State.bankReads (s : State) (b : Bool) (w : Nat) : Bool :=
  let whole := match s.bankCode b with
    | some c => decide (4 < c)
    | none => true
  touches (bankBase b) (if whole then s.img b 0x0C 4 else 0x40) w && !bankHead b w

/-- R295, R297: try the candidates; each that fails writes BANK_REJECT. The bank to load is left. DESIGN CHOICE (log entry 43): a bank
whose MAGIC is wrong is no candidate, is not tried and gets no record. -/
def State.tryBanks (s : State) : List Bool → Dev → Option Bool × Dev
  | [], d => (none, d)
  | b :: bs, d =>
    let d1 := d.reads (s.bankReads b)
    match s.bankCode b with
    | none => (some b, d1)
    | some c => s.tryBanks bs (d1.journal 0x0102 (if b then 1 else 0) (BitVec.ofNat 32 c))

/-- R294, R339: load a bank: instruction and data RAM, and the vault's table, which serves from step 8 on (R362). -/
def State.loadBank (s : State) (b : Bool) : State :=
  let code := (List.range (s.img b 0x1C 4)).map (fun i => BitVec.ofNat 32 (s.img b (s.img b 0x18 4 + 4 * i) 4))
  let data := s.ledgerBytes (bankBase b + s.img b 0x20 4) (s.img b 0x24 4)
  { s with
    iram := ssetRun (fun _ => 0) [] 0 code
    dram := ssetRun (fun _ => 0) [] 0 data
    core := { s.core with
      iramBad := []
      dramBad := []
      vault := { s.core.vault with
        steps := (s.shutSteps b).map (·.1)
        entries := s.shutEntries b } } }

/-- BANK_LOAD (R294-R297, R80, R76 step 6): boot step 5; the six calibrations of step 6 follow. -/
def bankLoad (ts : Nat) (s : State) : State :=
  let s := s.advance ts
  if s.core.atStep 5 ∧ s.core.mainAlive then
    let order := s.candidates
    let r := s.tryBanks order (s.core.reads (fun w => bankHead false w || bankHead true w))
    let t := { s with core := r.2 }
    match r.1 with
    | none => t.lift (fun c => c.enterBootFail 2)
    | some b =>
      (t.loadBank b).lift (fun c =>
        let c1 := ((c.putB F.SYS_STATE_BANK b).putB F.SYS_STATE_FALLBACK (order.head? != some b)).toStep 6
        (List.finRange 6).foldl (fun (a : Dev) (v : Fin 6) => a.calRequest v) c1)
  else s

/-! ### Step 7 (R557, R528) -/

/-- One failure of the self-test: the test, the object, the failed part (the table of 15). -/
abbrev SelfFail := Fin 4 × Nat × Nat

/-- R508: the scrub of step 7 covers the folio of the previous boot, the bank being loaded, and the calibration and identity
region with its journal checkpoint copies. -/
def Dev.bootScrubs (s : Dev) (a : Nat) : Bool :=
  let prev := if s.bootno = 1 then 0xFFFFFFFF else s.bootno.toNat - 1
  let folio := folioBase + prev % 4096 * 256
  let bank := bankBase (s.flag F.SYS_STATE_BANK)
  (decide (folio ≤ a) && decide (a < folio + 256)) || (decide (bank ≤ a) && decide (a < bank + 0x80000)) ||
    (decide (calBase ≤ a) && decide (a < journalBase))

/-- R557, R507: one failure of step 7 is a SELFTEST error with its probe; a word that the scrub finds uncorrectable reads so from
here on, and has its own record. -/
def Dev.selfFails (s : Dev) (f : SelfFail) : Dev :=
  let s1 := if f.1 = 3 then s.eccRead (f.2.1 / 8 * 8) .uncorrectable else s
  s1.declare 0x0A1C f.1 (BitVec.ofNat 32 f.2.1) (BitVec.ofNat 32 f.2.2) false (some (.selftest f.1 f.2.1))

/-- R547, R403, R401: the first part of a converter's probe whose reading lies outside its limit; `diag` gives the readings, those of
channel 8 in the order of its three codes. -/
def Dev.diagFails (s : Dev) (c : Fin 6) (diag : List (Fin 6 × Fin 3 × Nat)) : Option Nat :=
  let of_ (k : Fin 3) : List Nat := (diag.filter (fun x => x.1 == c && x.2.1 == k)).map (fun x => x.2.2)
  let parts : List (Nat × Nat) := ((of_ 0).zip [1, 2, 3]) ++ (of_ 1).map (fun v => (v, 4)) ++ (of_ 2).map (fun v => (v, 5))
  (parts.find? (fun (x : Nat × Nat) => !s.probePart c x.2 x.1)).map (fun (x : Nat × Nat) => x.2)

/-- R557, R508, R563: the failures of the four tests. A converter fails by its readings where `diag` gives any, and by `fails` where it
gives none; the comparison fails by `dev`; the scrub by the words that `fails` names and those known to read as uncorrectable. -/
def Dev.selfTests (s : Dev) (fails : List SelfFail) (dev : Int) (diag : List (Fin 6 × Fin 3 × Nat)) : List SelfFail :=
  let read (c : Nat) : Bool := diag.any (fun x => x.1.val == c)
  fails.filter (fun f => f.1 == 0) ++ fails.filter (fun f => f.1 == 1 && !read f.2.1) ++
    (List.finRange 6).filterMap (fun c => (s.diagFails c diag).map (fun i => ((1 : Fin 4), c.val, i))) ++
    (if 150 < dev.natAbs then [((2 : Fin 4), 0, 1)] else []) ++ fails.filter (fun f => f.1 == 3 && s.bootScrubs f.2.1) ++
    (s.ledgBad.filter (fun w => s.bootScrubs w && !fails.any (fun f => f.1 == 3 && f.2.1 / 8 * 8 == w))).map (fun w => ((3 : Fin 4), w, 1))

/-- START_UP_SELFTEST (R427, R557, R508, R528): the four tests of step 7 end with these failures, those of the scrub in the words
it covers; the scrub corrected `corrected` words. The comparison found `dev` (R563), and the converter probes published `diag`:
converter, channel from 8 on, result. No rail has a result yet, so the window tests skip their step 1 and SWAPSKIP stands at
every rail (R427). The journal's head is found. -/
def startUpSelftest (ts : Nat) (fails : List SelfFail) (corrected : Nat) (dev : Int) (diag : List (Fin 6 × Fin 3 × Nat)) (s : State) :
    State :=
  let s := s.advance ts
  if s.core.atStep 7 ∧ s.core.mainAlive then
    s.journalHeadFind.lift (fun c =>
      let w := allRails.foldl (fun (a : Dev) (n : Fin 48) => a.mark (F.RAIL_WSTATUS_SWAPSKIP n)) (refCompare c.now dev c)
      let d := diag.foldl (fun (a : Dev) (x : Fin 6 × Fin 3 × Nat) => a.publishDiag x.1 (8 + x.2.1.val) x.2.2 false) w
      let e := if corrected = 0 then d else (d.bump F.LEDG_ECC_CORR corrected).mark F.LEDG_EVENT_ECC_CORR
      ((c.selfTests fails dev diag).foldl (fun (a : Dev) f => a.selfFails f) e).toStep 8)
  else s

/-! ### Step 8 (R22, R29, R191, R292) -/

/-- R557, R80: an error of steps 6 and 7 still has its probe to come. -/
def Dev.bootProbing (s : Dev) : Bool := (s.probes ++ s.probing).any bootError

/-- R191: start the marked tellers at their entry points. -/
def State.startTellers (s : State) (b : Bool) : State :=
  s.lift (fun c => (List.finRange 8).foldl (fun (a : Dev) (k : Fin 8) =>
    if (s.bootEntry b k.val).b4 / 8 % 2 = 1 then a.tellerRestart k else a) c)

/-- The working parts that begin with RUN: the converters scan (R380), the intervals, the closes, the latent rounds, the
INRUSH balance (R313), the HOLD purse and the comparators' live outputs, given as they stand. -/
def Dev.beginRun (s : Dev) (uv ov : RailSet) : Dev :=
  let s1 : Dev := { s with
    statAt := s.now
    statLen := s.get F.CAP_STATCFG_INTERVAL
    closeAt := s.now
    tickAt := s.now
    cvFast := false
    inrushUj := s.get F.PURSE_INCFG_CAP * 1000
    checks := { s.checks with lastClose := s.now }
    lat := { s.lat with
      ns := 0
      ramAt := 0
      since := some s.now
      due := #v[s.latEvery .window, s.latEvery .converter, s.latEvery .phase, s.latEvery .flt] }
    vault := { s.vault with loaded := true } }
  let s2 := (List.finRange 6).foldl (fun (a : Dev) (c : Fin 6) =>
    (a.setCv c { a.cv c with op := .scan, plausAt := a.now }).beginSlot c 0 a.now) (s1.synthFrom 0)
  let s3 := allRails.foldl (fun (a : Dev) (n : Fin 48) =>
    a.setRail n { a.rail n with
      uvLive := railIn uv n
      ovLive := railIn ov n
      uvAt := if railIn uv n then some a.now else none
      ovAt := if railIn ov n then some a.now else none }) s2
  { s3 with holdE := s3.holdEnergy, holdAt := s3.now }

/-- TELLERS_START (R191, R292, R22, R29, R59, R82, R176, R497, R523, R527): boot step 8: the tables and presets of the loaded image
take effect, its marked tellers start, and the device is in RUN in GUARD. `uv` and `ov` are the comparators' outputs. -/
def tellersStart (ts : Nat) (uv ov : RailSet) (s : State) : State :=
  let s := s.advance ts
  if s.core.atStep 8 ∧ s.core.mainAlive ∧ ¬ s.core.bootProbing then
    let b := s.core.flag F.SYS_STATE_BANK
    let d0 := s.tables b
    let d1 := (s.presets b).foldl (fun (a : Dev) p => a.applyPreset p) d0
    let d2 := ((d1.put F.SYS_IMAGE_SERIAL (s.img b 0x10 4)).put F.SYS_BUILD_BUILD (s.img b 0x14 4)).put F.SYS_IMGCRC_CRC
      (s.img b (s.img b 0x0C 4 - 4) 4)
    let d3 := ((d2.beginRun uv ov).setDev .run).chgRun
    let d4 := (allRails.foldl (fun (a : Dev) (n : Fin 48) => (a.recode n).checkPresent n) d3).healthResume
    let d5 := ((allRails.foldl (fun (a : Dev) (n : Fin 48) => a.latchNow n) d4).journal 0x0101 0 (d4.readReg 0x0004) (d4.readReg 0x0000)).journalCheckpoint
    ({ s with core := d5 }).startTellers b
  else s

end Sys2Proof.Machine
end

