-- ==== Sys2Proof/Machine/MeanPower.lean ====
section
/-! DEFINITION. Meanings of the commands: Power entry and start-up (02, 01). Each is one call of the operation that the rules describe. -/

namespace Sys2Proof.Machine

/-- SUPPLY_PRESENT (R22). -/
def execSupplyPresent (ts : Nat) (s : State) : Host.Outcome State Fault Refusal :=
  .next (s.lift (supplyPresent ts))

/-- SUPPLY_LOST (R22). -/
def execSupplyLost (ts : Nat) (torn : Option Nat) (s : State) : Host.Outcome State Fault Refusal :=
  .next (supplyLost ts torn s)

/-- VIN_RISE_LOCKOUT (R50). -/
def execVinRiseLockout (ts : Nat) (s : State) : Host.Outcome State Fault Refusal :=
  .next (s.lift (vinRiseLockout ts))

/-- VDD5_SOFT_START_DONE (R56). -/
def execVdd5SoftStartDone (ts : Nat) (ok : Bool) (s : State) : Host.Outcome State Fault Refusal :=
  .next (s.lift (vdd5SoftStartDone ts ok))

/-- SUPPLY_WINDOW_RETRY (R79). -/
def execSupplyWindowRetry (ts : Nat) (s : State) : Host.Outcome State Fault Refusal :=
  .next (s.lift (supplyWindowRetry ts))

/-- PLL_LOCK (R86). -/
def execPllLock (ts : Nat) (dadr : Fin 8) (s : State) : Host.Outcome State Fault Refusal :=
  .next (s.lift (pllLock ts dadr))

/-- PLL_LOCK_TIMEOUT (R706). -/
def execPllLockTimeout (ts : Nat) (s : State) : Host.Outcome State Fault Refusal :=
  .next (s.lift (pllLockTimeout ts))

/-- CAL_SET_LOAD (R659). -/
def execCalSetLoad (ts : Nat) (s : State) : Host.Outcome State Fault Refusal :=
  .next (calSetLoad ts s)

/-- BANK_LOAD (R297). -/
def execBankLoad (ts : Nat) (s : State) : Host.Outcome State Fault Refusal :=
  .next (bankLoad ts s)

/-- START_UP_SELFTEST (R557). -/
def execStartUpSelftest (ts : Nat) (fails : List (Fin 4 × Nat × Nat)) (corrected : Nat) (dev : Int)
    (diag : List (Fin 6 × Fin 3 × Nat)) (s : State) : Host.Outcome State Fault Refusal :=
  .next (startUpSelftest ts fails corrected dev diag s)

/-- TELLERS_START (R191). -/
def execTellersStart (ts : Nat) (uv ov : RailSet) (s : State) : Host.Outcome State Fault Refusal :=
  .next (tellersStart ts uv ov s)

/-- BOOT_VIN_DROP (R52). -/
def execBootVinDrop (ts : Nat) (torn : Option Nat) (s : State) : Host.Outcome State Fault Refusal :=
  .next (bootVinDrop ts torn s)

/-- VIN_LOSS (R63). -/
def execVinLoss (ts : Nat) (s : State) : Host.Outcome State Fault Refusal :=
  .next (s.lift (vinLoss ts))

/-- OR_FAIL (R65). -/
def execOrFail (ts : Nat) (s : State) : Host.Outcome State Fault Refusal :=
  .next (s.lift (orFail ts))

/-- VSUP_LOW (R58). -/
def execVsupLow (ts : Nat) (s : State) : Host.Outcome State Fault Refusal :=
  .next (s.lift (vsupLow ts))

/-- VDD5_UV (R57). -/
def execVdd5Uv (ts : Nat) (s : State) : Host.Outcome State Fault Refusal :=
  .next (s.lift (vdd5Uv ts))

/-- VIN_HIGH (R49). -/
def execVinHigh (ts : Nat) (s : State) : Host.Outcome State Fault Refusal :=
  .next (s.lift (vinHigh ts))

/-- VIN_HIGH_CLEAR (R49). -/
def execVinHighClear (ts : Nat) (s : State) : Host.Outcome State Fault Refusal :=
  .next (s.lift (vinHighClear ts))

/-- VIN_LOW_WAIT (R54). -/
def execVinLowWait (ts : Nat) (s : State) : Host.Outcome State Fault Refusal :=
  .next (s.lift (vinLowWait ts))

/-- CHG_TIMEOUT (R61). -/
def execChgTimeout (ts : Nat) (s : State) : Host.Outcome State Fault Refusal :=
  .next (s.lift (chgTimeoutCmd ts))

/-- HOLD_OV (R61). -/
def execHoldOv (ts : Nat) (s : State) : Host.Outcome State Fault Refusal :=
  .next (s.lift (holdOv ts))

/-- CHG_WRITE (R61). -/
def execChgWrite (ts : Nat) (wr : Writer) (mask val : Word) (s : State) : Host.Outcome State Fault Refusal :=
  .next (s.lift (chgWrite ts wr mask val))

/-- SAG_LEVEL_UP (R68). -/
def execSagLevelUp (ts : Nat) (s : State) : Host.Outcome State Fault Refusal :=
  .next (s.lift (sagLevelUp ts))

/-- SAG_LEVEL_DOWN (R68). -/
def execSagLevelDown (ts : Nat) (s : State) : Host.Outcome State Fault Refusal :=
  .next (s.lift (sagLevelDown ts))

/-- REBOOT_REQUEST (R25). -/
def execRebootRequest (ts : Nat) (wr : Writer) (s : State) : Host.Outcome State Fault Refusal :=
  .next (s.lift (rebootRequestWrite ts wr))

/-- THERMAL_SHUTDOWN (R26). -/
def execThermalShutdown (ts : Nat) (s : State) : Host.Outcome State Fault Refusal :=
  .next (s.lift (thermalShutdown ts))

/-- THERMAL_OFF_ENTRY (R26). -/
def execThermalOffEntry (ts : Nat) (s : State) : Host.Outcome State Fault Refusal :=
  .next (thermalOffEntry ts s)

/-- WAKE_PIN (R42). -/
def execWakePin (ts : Nat) (s : State) : Host.Outcome State Fault Refusal :=
  .next (s.lift (wakePin ts))

/-- WATCH_EXIT_COMPLETE (R44). -/
def execWatchExitComplete (ts : Nat) (s : State) : Host.Outcome State Fault Refusal :=
  .next (s.lift (watchExitComplete ts))

/-- POWER_ENTRY_MONITOR_SAMPLE (R49). -/
def execPowerEntryMonitorSample (ts vin hold vsup : Nat) (s : State) : Host.Outcome State Fault Refusal :=
  .next (s.lift (powerEntryMonitorSample ts vin hold vsup))

/-- CHARGER_MODE_CHANGE (R60). -/
def execChargerModeChange (ts : Nat) (s : State) : Host.Outcome State Fault Refusal :=
  .next (s.lift (chargerModeChange ts))

/-- VSUP_RECOVER (R56). -/
def execVsupRecover (ts : Nat) (s : State) : Host.Outcome State Fault Refusal :=
  .next (s.lift (vsupRecover ts))

/-- VDD1V8_OUT_OF_WINDOW (R697). -/
def execVdd1v8OutOfWindow (ts : Nat) (ok : Bool) (torn : Option Nat) (s : State) : Host.Outcome State Fault Refusal :=
  .next (vdd1v8OutOfWindow ts ok torn s)

end Sys2Proof.Machine
end

