-- ==== Sys2Proof/Machine/MeanPurses.lean ====
section
/-! DEFINITION. Meanings of the commands: Purses and throttling (08). Each is one call of the operation that the rules describe. -/

namespace Sys2Proof.Machine

/-- SCHEDULER_RUN (R303). -/
def execSchedulerRun (ts : Nat) (s : State) : Host.Outcome State Fault Refusal :=
  .next (s.lift (schedulerRun ts))

/-- PURSE_TIMEOUT (R311). -/
def execPurseTimeout (ts : Nat) (n : Fin 48) (s : State) : Host.Outcome State Fault Refusal :=
  .next (s.lift (purseTimeout ts n))

/-- HOLD_PURSE_UPDATE (R318). -/
def execHoldPurseUpdate (ts : Nat) (s : State) : Host.Outcome State Fault Refusal :=
  .next (s.lift (holdPurseUpdate ts))

/-- FRESH_EXPIRE (R326). -/
def execFreshExpire (ts : Nat) (s : State) : Host.Outcome State Fault Refusal :=
  .next (s.lift (freshExpire ts))

/-- THERMAL_READING (R330). -/
def execThermalReading (ts : Nat) (die ntc : List (Int × Bool)) (tsns : List Nat) (s : State) :
    Host.Outcome State Fault Refusal :=
  .next (s.lift (thermalReading ts die ntc tsns))

/-- THROTTLE_TRIP (R331). -/
def execThrottleTrip (ts : Nat) (zone : Fin 3) (level : Fin 7) (s : State) : Host.Outcome State Fault Refusal :=
  .next (s.lift (throttleTrip ts zone level))

/-- THROTTLE_RELEASE (R331). -/
def execThrottleRelease (ts : Nat) (zone : Fin 3) (level : Fin 7) (s : State) : Host.Outcome State Fault Refusal :=
  .next (s.lift (throttleRelease ts zone level))

end Sys2Proof.Machine
end

