-- ==== Sys2Proof/Machine/MeanRails.lean ====
section
/-! DEFINITION. Meanings of the commands: Rails (04). Each is one call of the operation that the rules describe. -/

namespace Sys2Proof.Machine

/-- RAIL_START (R140). -/
def execRailStart (ts : Nat) (n : Fin 48) (s : State) : Host.Outcome State Fault Refusal :=
  .next (s.lift (railStart ts n))

/-- RAIL_GOOD_COND_MET (R133). -/
def execRailGoodCondMet (ts : Nat) (n : Fin 48) (s : State) : Host.Outcome State Fault Refusal :=
  .next (s.lift (railGoodCondMet ts n))

/-- RAIL_GOOD_COND_LOST (R133). -/
def execRailGoodCondLost (ts : Nat) (n : Fin 48) (s : State) : Host.Outcome State Fault Refusal :=
  .next (s.lift (railGoodCondLost ts n))

/-- RAIL_QUALIFIED (R143). -/
def execRailQualified (ts : Nat) (n : Fin 48) (s : State) : Host.Outcome State Fault Refusal :=
  .next (s.lift (railQualified ts n))

/-- FALL_TIMEOUT (R135). -/
def execFallTimeout (ts : Nat) (n : Fin 48) (s : State) : Host.Outcome State Fault Refusal :=
  .next (s.lift (fallTimeout ts n))

/-- RISE_TIMEOUT (R145). -/
def execRiseTimeout (ts : Nat) (n : Fin 48) (s : State) : Host.Outcome State Fault Refusal :=
  .next (s.lift (riseTimeout ts n))

/-- RAIL_OV (R147). -/
def execRailOv (ts : Nat) (n : Fin 48) (s : State) : Host.Outcome State Fault Refusal :=
  .next (s.lift (railOv ts n))

/-- RAIL_UV (R147). -/
def execRailUv (ts : Nat) (n : Fin 48) (s : State) : Host.Outcome State Fault Refusal :=
  .next (s.lift (railUv ts n))

/-- PG_LOSS (R147). -/
def execPgLoss (ts : Nat) (n : Fin 48) (s : State) : Host.Outcome State Fault Refusal :=
  .next (s.lift (pgLoss ts n))

/-- PG_CHANGE (R158). -/
def execPgChange (ts : Nat) (n : Fin 48) (level : Bool) (s : State) : Host.Outcome State Fault Refusal :=
  .next (s.lift (pgChange ts n level))

/-- RSTO_RELEASE (R161). -/
def execRstoRelease (ts : Nat) (k : Fin 8) (s : State) : Host.Outcome State Fault Refusal :=
  .next (s.lift (rstoRelease ts k))

/-- SEQ_OUT_RELEASE (R165). -/
def execSeqOutRelease (ts : Nat) (s : State) : Host.Outcome State Fault Refusal :=
  .next (s.lift (seqOutRelease ts))

/-- SEQ_IN_CHANGE (R167). -/
def execSeqInChange (ts : Nat) (level : Bool) (s : State) : Host.Outcome State Fault Refusal :=
  .next (s.lift (seqInChange ts level))

end Sys2Proof.Machine
end

