-- ==== Sys2Proof/Machine/MeanSafety.lean ====
section
/-! DEFINITION. Meanings of the commands: Errors, probes and checks (15). Each is one call of the operation that the rules describe. -/

namespace Sys2Proof.Machine

/-- PROBE_START (R549). -/
def execProbeStart (ts : Nat) (path : Path) (s : State) : Host.Outcome State Fault Refusal :=
  .next (probeStart ts path s)

/-- PROBE_END (R548). -/
def execProbeEnd (ts : Nat) (path : Path) (bad : Nat) (found : List Int) (s : State) : Host.Outcome State Fault Refusal :=
  .next (probeEnd ts path bad found s)

/-- VAULT_CLOCK_WINDOW (R558). -/
def execVaultClockWindow (ts count : Nat) (s : State) : Host.Outcome State Fault Refusal :=
  .next (s.lift (vaultClockWindow ts count))

/-- CLOCK_XCHK (R558). -/
def execClockXchk (ts : Nat) (s : State) : Host.Outcome State Fault Refusal :=
  .next (s.lift (clockXchk ts))

/-- MAIN_STOP (R559). -/
def execMainStop (ts : Nat) (unlock : Bool) (s : State) : Host.Outcome State Fault Refusal :=
  .next (s.lift (mainStop ts unlock))

/-- VCORE_FAIL (R561). -/
def execVcoreFail (ts : Nat) (above : Bool) (s : State) : Host.Outcome State Fault Refusal :=
  .next (vcoreFail ts above s)

/-- VVLT_FAIL (R562). -/
def execVvltFail (ts : Nat) (above : Bool) (s : State) : Host.Outcome State Fault Refusal :=
  .next (s.lift (vvltFail ts above))

/-- REF_COMPARE (R563). -/
def execRefCompare (ts : Nat) (dev : Int) (s : State) : Host.Outcome State Fault Refusal :=
  .next (s.lift (refCompare ts dev))

/-- REF_XCHK (R563). -/
def execRefXchk (ts : Nat) (s : State) : Host.Outcome State Fault Refusal :=
  .next (s.lift (refXchk ts))

/-- GRADIENT (R564). -/
def execGradient (ts : Nat) (s : State) : Host.Outcome State Fault Refusal :=
  .next (s.lift (gradient ts))

/-- OUT_MISMATCH (R566). -/
def execOutMismatch (ts code : Nat) (s : State) : Host.Outcome State Fault Refusal :=
  .next (s.lift (outMismatch ts code))

/-- LATENT_TEST_START (R570). -/
def execLatentTestStart (ts : Nat) (k : LatKind) (s : State) : Host.Outcome State Fault Refusal :=
  .next (s.lift (latentTestStart ts k))

/-- LATENT_FLT_PULSE (R570). -/
def execLatentFltPulse (ts : Nat) (low : Bool) (s : State) : Host.Outcome State Fault Refusal :=
  .next (s.lift (latentFltPulse ts low))

/-- LATENT_LATE (R572). -/
def execLatentLate (ts : Nat) (k : LatKind) (s : State) : Host.Outcome State Fault Refusal :=
  .next (s.lift (latentLate ts k))

end Sys2Proof.Machine
end

