-- ==== Sys2Proof/Machine/MeanStage.lean ====
section
/-! DEFINITION. Meanings of the commands: Stage controllers and margins (12, 13). Each is one call of the operation that the rules describe. -/

namespace Sys2Proof.Machine

/-- FBMON_SAMPLE (R452). -/
def execFbmonSample (ts : Nat) (n : Fin 8) (fb : Nat) (s : State) : Host.Outcome State Fault Refusal :=
  .next (s.lift (fbmonSample ts n fb))

/-- PHASE_MONITOR_SAMPLE (R466). -/
def execPhaseMonitorSample (ts : Nat) (codes : List Nat) (s : State) : Host.Outcome State Fault Refusal :=
  .next (s.lift (phaseMonitorSample ts codes))

/-- ON_TIME_REQUEST (R459). -/
def execOnTimeRequest (ts : Nat) (n : Fin 8) (fb : Nat) (amps : List Int) (s : State) : Host.Outcome State Fault Refusal :=
  .next (s.lift (onTimeRequest ts n fb amps))

/-- ON_TIME_END (R456). -/
def execOnTimeEnd (ts : Nat) (p : Fin 24) (amp : Int) (s : State) : Host.Outcome State Fault Refusal :=
  .next (s.lift (onTimeEnd ts p amp))

/-- RAMP_COMPLETE (R463). -/
def execRampComplete (ts : Nat) (n : Fin 8) (s : State) : Host.Outcome State Fault Refusal :=
  .next (s.lift (rampComplete ts n))

/-- SOFT_STOP_END (R464). -/
def execSoftStopEnd (ts : Nat) (n : Fin 8) (s : State) : Host.Outcome State Fault Refusal :=
  .next (s.lift (softStopEnd ts n))

/-- SHORT_SS (R469). -/
def execShortSs (ts : Nat) (n : Fin 8) (s : State) : Host.Outcome State Fault Refusal :=
  .next (s.lift (shortSs ts n))

/-- OC (R469). -/
def execOc (ts : Nat) (n : Fin 8) (s : State) : Host.Outcome State Fault Refusal :=
  .next (s.lift (oc ts n))

/-- STAGE_FLT (R469). -/
def execStageFlt (ts : Nat) (p : Fin 24) (s : State) : Host.Outcome State Fault Refusal :=
  .next (s.lift (stageFlt ts p))

/-- STAGE_OT (R474). -/
def execStageOt (ts : Nat) (p : Fin 24) (s : State) : Host.Outcome State Fault Refusal :=
  .next (s.lift (stageOt ts p))

/-- STAGE_OTW (R474). -/
def execStageOtw (ts : Nat) (p : Fin 24) (s : State) : Host.Outcome State Fault Refusal :=
  .next (s.lift (stageOtw ts p))

/-- PHASE_OPEN (R470). -/
def execPhaseOpen (ts : Nat) (p : Fin 24) (s : State) : Host.Outcome State Fault Refusal :=
  .next (s.lift (phaseOpen ts p))

/-- ISNS_FAIL (R470). -/
def execIsnsFail (ts : Nat) (p : Fin 24) (s : State) : Host.Outcome State Fault Refusal :=
  .next (s.lift (isnsFail ts p))

/-- TSNS_FAIL (R475). -/
def execTsnsFail (ts : Nat) (p : Fin 24) (s : State) : Host.Outcome State Fault Refusal :=
  .next (s.lift (tsnsFail ts p))

/-- IMBAL (R476). -/
def execImbal (ts : Nat) (n : Fin 8) (s : State) : Host.Outcome State Fault Refusal :=
  .next (s.lift (imbal ts n))

/-- MARGIN_DAC_STEP (R484). -/
def execMarginDacStep (ts : Nat) (m : Fin 16) (s : State) : Host.Outcome State Fault Refusal :=
  .next (s.lift (marginDacStep ts m))

/-- DEM_ZERO_CURRENT (R460). -/
def execDemZeroCurrent (ts : Nat) (p : Fin 24) (s : State) : Host.Outcome State Fault Refusal :=
  .next (s.lift (demZeroCurrent ts p))

end Sys2Proof.Machine
end

