-- ==== Sys2Proof/Machine/MeanTable.lean ====
section
/-! DEFINITION. Meanings of the commands: The shutdown table and the fault line (09). Each is one call of the operation that the rules describe. -/

namespace Sys2Proof.Machine

/-- TABLE_RUN_START (R369). -/
def execTableRunStart (ts : Nat) (s : State) : Host.Outcome State Fault Refusal :=
  .next (s.lift (tableRunStart ts))

/-- TABLE_STEP (R344). -/
def execTableStep (ts : Nat) (vin28 : Bool) (s : State) : Host.Outcome State Fault Refusal :=
  .next (tableStep ts vin28 s)

/-- TABLE_STEP_WAIT_MET (R348). -/
def execTableStepWaitMet (ts : Nat) (s : State) : Host.Outcome State Fault Refusal :=
  .next (s.lift (tableStepWaitMet ts))

/-- TABLE_STUCK (R349). -/
def execTableStuck (ts : Nat) (s : State) : Host.Outcome State Fault Refusal :=
  .next (s.lift (tableStuck ts))

/-- TABLE_CRC_CHECK (R343). -/
def execTableCrcCheck (ts : Nat) (bad : Bool) (s : State) : Host.Outcome State Fault Refusal :=
  .next (s.lift (tableCrcCheck ts bad))

/-- EXTERNAL_ASSERTION (R366). -/
def execExternalAssertion (ts : Nat) (low : Bool) (s : State) : Host.Outcome State Fault Refusal :=
  .next (s.lift (externalAssertion ts low))

end Sys2Proof.Machine
end

