-- ==== Sys2Proof/Machine/InstrArith.lean ====
section
/-! DEFINITION. Arithmetic and logic (R223), data RAM and device registers (R224-R231). In every instruction `e` is what
the fetch meets (R179). -/

namespace Sys2Proof.Machine

/-! ### Arithmetic and logic (R223) -/

/-- NOP. -/
def instrNop (ts : Nat) (k : Fin 8) (e : Ecc) (s : State) : State := s.issueRegs ts k e (wordR 0x01 0 0 0) Teller.next

/-- ADD. -/
def instrAdd (ts : Nat) (k : Fin 8) (e : Ecc) (rd ra rb : Fin 16) (s : State) : State :=
  s.issueRegs ts k e (wordR 0x02 rd ra rb) (fun t =>
    ((t.xw rd (t.xr ra + t.xr rb)).znc (t.xr ra + t.xr rb) (carryOut (t.xr ra) (t.xr rb))).next)

/-- SUB: C is the unsigned borrow. -/
def instrSub (ts : Nat) (k : Fin 8) (e : Ecc) (rd ra rb : Fin 16) (s : State) : State :=
  s.issueRegs ts k e (wordR 0x03 rd ra rb) (fun t =>
    ((t.xw rd (t.xr ra - t.xr rb)).znc (t.xr ra - t.xr rb) ((t.xr ra).ult (t.xr rb))).next)

/-- A result that sets Z and N alone. -/
def Teller.logic (t : Teller) (rd : Fin 16) (v : Word) : Teller := ((t.xw rd v).zn v).next

/-- AND. -/
def instrAnd (ts : Nat) (k : Fin 8) (e : Ecc) (rd ra rb : Fin 16) (s : State) : State :=
  s.issueRegs ts k e (wordR 0x04 rd ra rb) (fun t => t.logic rd (t.xr ra &&& t.xr rb))

/-- OR. -/
def instrOr (ts : Nat) (k : Fin 8) (e : Ecc) (rd ra rb : Fin 16) (s : State) : State :=
  s.issueRegs ts k e (wordR 0x05 rd ra rb) (fun t => t.logic rd (t.xr ra ||| t.xr rb))

/-- XOR. -/
def instrXor (ts : Nat) (k : Fin 8) (e : Ecc) (rd ra rb : Fin 16) (s : State) : State :=
  s.issueRegs ts k e (wordR 0x06 rd ra rb) (fun t => t.logic rd (t.xr ra ^^^ t.xr rb))

/-- R223: the shift by X[RB][4:0]. -/
def Teller.shiftBy (t : Teller) (rb : Fin 16) : Nat := (t.xr rb).toNat % 32

/-- SHL. -/
def instrShl (ts : Nat) (k : Fin 8) (e : Ecc) (rd ra rb : Fin 16) (s : State) : State :=
  s.issueRegs ts k e (wordR 0x07 rd ra rb) (fun t => (t.shift .shl rd (t.xr ra) (t.shiftBy rb)).next)

/-- SHR. -/
def instrShr (ts : Nat) (k : Fin 8) (e : Ecc) (rd ra rb : Fin 16) (s : State) : State :=
  s.issueRegs ts k e (wordR 0x08 rd ra rb) (fun t => (t.shift .shr rd (t.xr ra) (t.shiftBy rb)).next)

/-- SAR. -/
def instrSar (ts : Nat) (k : Fin 8) (e : Ecc) (rd ra rb : Fin 16) (s : State) : State :=
  s.issueRegs ts k e (wordR 0x09 rd ra rb) (fun t => (t.shift .sar rd (t.xr ra) (t.shiftBy rb)).next)

/-- MUL. -/
def instrMul (ts : Nat) (k : Fin 8) (e : Ecc) (rd ra rb : Fin 16) (s : State) : State :=
  s.issueRegs ts k e (wordR 0x0A rd ra rb) (fun t =>
    ((t.xw rd (t.xr ra * t.xr rb)).znc (t.xr ra * t.xr rb) (mulOver (t.xr ra) (t.xr rb))).next)

/-- CMP. -/
def instrCmp (ts : Nat) (k : Fin 8) (e : Ecc) (ra rb : Fin 16) (s : State) : State :=
  s.issueRegs ts k e (wordR 0x0B 0 ra rb) (fun t => (t.compare (t.xr ra) (t.xr rb)).next)

/-- ADDI. -/
def instrAddi (ts : Nat) (k : Fin 8) (e : Ecc) (rd ra : Fin 16) (imm : BitVec 18) (s : State) : State :=
  s.issueRegs ts k e (wordI 0x0C rd ra imm.toNat) (fun t =>
    ((t.xw rd (t.xr ra + sextImm imm)).znc (t.xr ra + sextImm imm) (carryOut (t.xr ra) (sextImm imm))).next)

/-- ANDI. -/
def instrAndi (ts : Nat) (k : Fin 8) (e : Ecc) (rd ra : Fin 16) (imm : BitVec 18) (s : State) : State :=
  s.issueRegs ts k e (wordI 0x0D rd ra imm.toNat) (fun t => t.logic rd (t.xr ra &&& zextImm imm))

/-- ORI. -/
def instrOri (ts : Nat) (k : Fin 8) (e : Ecc) (rd ra : Fin 16) (imm : BitVec 18) (s : State) : State :=
  s.issueRegs ts k e (wordI 0x0E rd ra imm.toNat) (fun t => t.logic rd (t.xr ra ||| zextImm imm))

/-- XORI. -/
def instrXori (ts : Nat) (k : Fin 8) (e : Ecc) (rd ra : Fin 16) (imm : BitVec 18) (s : State) : State :=
  s.issueRegs ts k e (wordI 0x0F rd ra imm.toNat) (fun t => t.logic rd (t.xr ra ^^^ zextImm imm))

/-- SHLI. -/
def instrShli (ts : Nat) (k : Fin 8) (e : Ecc) (rd ra : Fin 16) (n : BitVec 5) (s : State) : State :=
  s.issueRegs ts k e (wordI 0x10 rd ra n.toNat) (fun t => (t.shift .shl rd (t.xr ra) n.toNat).next)

/-- SHRI. -/
def instrShri (ts : Nat) (k : Fin 8) (e : Ecc) (rd ra : Fin 16) (n : BitVec 5) (s : State) : State :=
  s.issueRegs ts k e (wordI 0x11 rd ra n.toNat) (fun t => (t.shift .shr rd (t.xr ra) n.toNat).next)

/-- SARI. -/
def instrSari (ts : Nat) (k : Fin 8) (e : Ecc) (rd ra : Fin 16) (n : BitVec 5) (s : State) : State :=
  s.issueRegs ts k e (wordI 0x12 rd ra n.toNat) (fun t => (t.shift .sar rd (t.xr ra) n.toNat).next)

/-- CMPI. -/
def instrCmpi (ts : Nat) (k : Fin 8) (e : Ecc) (ra : Fin 16) (imm : BitVec 18) (s : State) : State :=
  s.issueRegs ts k e (wordI 0x13 0 ra imm.toNat) (fun t => (t.compare (t.xr ra) (sextImm imm)).next)

/-- LUI. -/
def instrLui (ts : Nat) (k : Fin 8) (e : Ecc) (rd : Fin 16) (imm : BitVec 18) (s : State) : State :=
  s.issueRegs ts k e (wordI 0x14 rd 0 imm.toNat) (fun t => (t.xw rd (zextImm imm <<< 14)).next)

/-- CLRF. -/
def instrClrf (ts : Nat) (k : Fin 8) (e : Ecc) (f : BitVec 5) (s : State) : State :=
  s.issueRegs ts k e (wordI 0x15 0 0 f.toNat) (fun t => (t.clearFlags f).next)

/-! ### Data RAM (R224-R227) -/

/-- One byte of data RAM. -/
def State.dataByte (s : State) (a : Nat) : Byte := sget (fun _ => (0 : Byte)) s.dram a

/-- One word of data RAM (R6). -/
def State.dataWord (s : State) (a : Nat) : Word :=
  s.dataByte (a + 3) ++ s.dataByte (a + 2) ++ s.dataByte (a + 1) ++ s.dataByte a

/-- Write bytes of data RAM. -/
def State.dataWrite (s : State) (a : Nat) (bs : List Byte) : State := { s with dram := ssetRun (fun _ => 0) s.dram a bs }

/-- Words of data RAM written whole are sound again (R179). -/
def Dev.healData (s : Dev) (w n : Nat) : Dev := { s with dramBad := s.dramBad.filter (fun a => !(decide (w ≤ a) && decide (a < w + n))) }

/-- R179, R217: an access to data RAM that passes its address checks and reads its word, which meets `d`: DATA_ECC, or
the effect. -/
def State.dataRead (s : State) (k : Fin 8) (a : Nat) (d : Ecc) (f : State → State) : State :=
  let w := a / 4
  let e := eccOf s.core.dramBad w d
  if e = .uncorrectable then
    s.lift (fun c => { c.ramRead e with dramBad := w :: c.dramBad.filter (fun x => x != w) }.raiseAt k .dataEcc w)
  else f (s.lift (fun c => c.ramRead e))

/-- R225: act at a valid data address. -/
def State.atAddr (s : State) (k : Fin 8) (a : Int) (n : Nat) (word : Bool) (f : Nat → State → State) : State :=
  match addrFault a n word with
  | some x => s.lift (fun c => c.raise k x)
  | none => f a.toNat s

/-- LD; `d` is what the read of the word meets. -/
def instrLd (ts : Nat) (k : Fin 8) (e d : Ecc) (rd ra : Fin 16) (imm : BitVec 18) (s : State) : State :=
  s.issue ts k e (wordI 0x16 rd ra imm.toNat) (fun s =>
    s.atAddr k ((s.core.teller k).dataAddr ra imm) 1 true (fun a s =>
      s.dataRead k a d (fun s => s.lift (fun c => c.onward k (fun t => t.xw rd (s.dataWord a))))))

/-- ST. -/
def instrSt (ts : Nat) (k : Fin 8) (e : Ecc) (rd ra : Fin 16) (imm : BitVec 18) (s : State) : State :=
  s.issue ts k e (wordI 0x17 rd ra imm.toNat) (fun s =>
    s.atAddr k ((s.core.teller k).dataAddr ra imm) 1 true (fun a s =>
      (s.dataWrite a (leBytes 4 ((s.core.teller k).xr rd).toNat)).lift (fun c => (c.healData (a / 4) 1).onward k id)))

/-- LDB. -/
def instrLdb (ts : Nat) (k : Fin 8) (e d : Ecc) (rd ra : Fin 16) (imm : BitVec 18) (s : State) : State :=
  s.issue ts k e (wordI 0x18 rd ra imm.toNat) (fun s =>
    s.atAddr k ((s.core.teller k).dataAddr ra imm) 1 false (fun a s =>
      s.dataRead k a d (fun s => s.lift (fun c => c.onward k (fun t => t.xw rd ((s.dataByte a).setWidth 32))))))

/-- STB (R226): the word that holds the byte is read, corrected and written again. -/
def instrStb (ts : Nat) (k : Fin 8) (e d : Ecc) (rd ra : Fin 16) (imm : BitVec 18) (s : State) : State :=
  s.issue ts k e (wordI 0x19 rd ra imm.toNat) (fun s =>
    s.atAddr k ((s.core.teller k).dataAddr ra imm) 1 false (fun a s =>
      s.dataRead k a d (fun s => (s.dataWrite a [((s.core.teller k).xr rd).setWidth 8]).lift (fun c => c.onward k id))))

/-- STAMP (R227). -/
def instrStamp (ts : Nat) (k : Fin 8) (e : Ecc) (ra : Fin 16) (imm : BitVec 18) (s : State) : State :=
  s.issue ts k e (wordI 0x30 0 ra imm.toNat) (fun s =>
    s.atAddr k ((s.core.teller k).dataAddr ra imm) 16 true (fun a s =>
      (s.dataWrite a s.core.stamp.bytes).lift (fun c => (c.healData (a / 4) 4).onward k id)))

/-! ### Device registers (R228-R231) -/

/-- RDR (R228, R10): a register as it stands. -/
def instrRdr (ts : Nat) (k : Fin 8) (e : Ecc) (rd ra : Fin 16) (imm : BitVec 16) (s : State) : State :=
  s.issueDev ts k e (wordI 0x1A rd ra imm.toNat) (fun c =>
    c.inRange k ((c.teller k).regAddr ra imm) 0x10000 (fun a c => c.onward k (fun t => t.xw rd (c.readReg a.val))))

/-- R229: every stored field of the register receives a value within its stated range. -/
def WriteAt.stated (x : WriteAt) : Bool := (writables x.reg).all (fun f => !f.acc.keeps || f.rng.ok f.w (f.of x.new))

/-- R229, R581: the program may write the register; for OWN.GIVE it owns the resource, or claims an unowned one. -/
def Dev.programMay (s : Dev) (x : WriteAt) (v : Word) : Bool :=
  if x.reg = 0x00C0 then
    let o := s.owner (v.extractLsb' 0 8)
    o == .program || (o == .none && v.extractLsb' 8 3 == 5)
  else ({ dev := s } : Closing).mayWrite x

/-- R589, R581, R183: the request that a WRR queues; none for a code of RAIL[n].CMD that asks for nothing. -/
def wrrBody (r : Nat) (v : Word) : TReqBody :=
  let l := locate r
  if r = 0x00C0 then .give v
  else if h : l.block = .rail ∧ l.off = 0x0B ∧ l.idx < 48 then
    match railOpOf (v.toNat % 4) with
    | some op => .rail ⟨l.idx, h.2.2⟩ op
    | none => .writes [⟨r, 0xFFFFFFFF#32, v⟩] false
  else .writes [⟨r, 0xFFFFFFFF#32, v⟩] false

/-- R229, R169: a VOFF beyond the span of its rail's RANGE, which the field's stated range names. -/
def Dev.voffOver (s : Dev) (x : WriteAt) : Bool :=
  let l := locate x.reg
  if h : l.block = .rail ∧ l.off = 0x07 ∧ l.idx < 48 then s.overSpan x ⟨l.idx, h.2.2⟩ else false

/-- WRR (R229-R231): a register without a writable field takes the write without effect. -/
def instrWrr (ts : Nat) (k : Fin 8) (e : Ecc) (rd ra : Fin 16) (imm : BitVec 16) (s : State) : State :=
  s.issueDev ts k e (wordI 0x1B rd ra imm.toNat) (fun c =>
    c.inRange k ((c.teller k).regAddr ra imm) 0x10000 (fun a c =>
      let t := c.teller k
      let v := t.xr rd
      let x := c.writeAt (.teller k) t.pc ⟨a.val, 0xFFFFFFFF#32, v⟩
      if a.val ≠ 0x00C0 ∧ (writables a.val).isEmpty then c.onward k id
      else if !x.stated || c.voffOver x then c.raise k .range
      else c.asOwner k (c.programMay x v) none (fun c => c.queueReq k (wrrBody a.val v))))

end Sys2Proof.Machine
end

