-- ==== Sys2Proof/Machine/InstrControl.lean ====
section
/-! DEFINITION. Control flow and system (R232-R239), rails and masks (R240-R248), waits (R249-R254). -/

namespace Sys2Proof.Machine

/-! ### Control flow (R232-R234) -/

/-- B (R213, R216). -/
def instrB (ts : Nat) (k : Fin 8) (e : Ecc) (c : Cond) (target : BitVec 16) (s : State) : State :=
  s.issueRegs ts k e (wordJ 0x1C c.code target) (fun t => if t.holds c then { t with pc := target } else t.next)

/-- CALL (R233). -/
def instrCall (ts : Nat) (k : Fin 8) (e : Ecc) (target : BitVec 16) (s : State) : State :=
  s.issueDev ts k e (wordJ 0x1D 0 target) (fun c =>
    let t := c.teller k
    if 16 ≤ t.stack.length then c.raise k .stackOver
    else c.setTeller k { t with stack := (t.pc + 1) :: t.stack, pc := target })

/-- RET (R233). -/
def instrRet (ts : Nat) (k : Fin 8) (e : Ecc) (s : State) : State :=
  s.issueDev ts k e (wordJ 0x1E 0 0) (fun c =>
    let t := c.teller k
    match t.stack with
    | [] => c.raise k .stackUnder
    | a :: rest => c.setTeller k { t with stack := rest, pc := a })

/-- RETT (R234): outside the trap handler it is ILLEGAL. -/
def instrRett (ts : Nat) (k : Fin 8) (e : Ecc) (ra : Fin 16) (s : State) : State :=
  s.issueDev ts k e (wordR 0x1F 0 ra 0) (fun c =>
    let t := c.teller k
    if t.trapped then c.setTeller k { t with trapped := false, pc := (t.xr ra).setWidth 16 } else c.raise k .illegal)

/-! ### System (R232, R235-R239) -/

/-- HALT (R232): the PC advances, and the teller halts with EXC = 0. -/
def instrHalt (ts : Nat) (k : Fin 8) (e : Ecc) (s : State) : State :=
  s.issueDev ts k e (wordD 0x20 0 0 0 0 0x00) (fun c => (c.onward k (fun t => { t with exc := false })).tellerHalt k)

/-- KICK (R195). -/
def instrKick (ts : Nat) (k : Fin 8) (e : Ecc) (s : State) : State :=
  s.issueDev ts k e (wordD 0x20 0 0 0 0 0x01) (fun c => c.onward k (fun t => { t with wdogNs := 0, runAt := c.now }))

/-- SYNC (R235). -/
def instrSync (ts : Nat) (k : Fin 8) (e : Ecc) (s : State) : State :=
  s.issueRegs ts k e (wordD 0x20 0 0 0 0 0x02) (fun t => t.waitFor (.sync false))

/-- WWAKE (R236, R37): in WATCH the watch teller runs again after the next wake event. -/
def instrWwake (ts : Nat) (k : Fin 8) (e : Ecc) (rd : Fin 16) (s : State) : State :=
  s.issueDev ts k e (wordD 0x20 rd 0 0 0 0x03) (fun c =>
    ({ c with awake := false } : Dev).setTeller k ((c.teller k).waitFor (.wwake rd (c.eff == .watch && c.isWatchTeller k) false)))

/-- LOCK (R237). -/
def instrLock (ts : Nat) (k : Fin 8) (e : Ecc) (s : State) : State :=
  s.issueDev ts k e (wordD 0x20 0 0 0 0 0x04) (fun c => c.queueReq k .lock)

/-- MBIN (R238). -/
def instrMbin (ts : Nat) (k : Fin 8) (e : Ecc) (rd : Fin 16) (s : State) : State :=
  s.issueDev ts k e (wordD 0x21 rd 0 0 0 0x00) (fun c =>
    c.onward k (fun t => t.xw rd (BitVec.ofNat 32 (c.get (F.TELLER_MBOXIN_MBOXIN k)))))

/-- MBOUT (R203, R238, R608): the door that owns the teller has its MBOX cause set. -/
def instrMbout (ts : Nat) (k : Fin 8) (e : Ecc) (ra : Fin 16) (obj : BitVec 6) (s : State) : State :=
  s.issueDev ts k e (wordD 0x21 0 ra 0 obj 0x01) (fun c =>
    let c1 := (c.put (F.TELLER_MBOXOUT_MBOXOUT k) ((c.teller k).opA ra obj)).onward k id
    match c1.owner (BitVec.ofNat 8 (0x38 + k.val)) with
    | .door d => c1.cause d cMbox
    | _ => c1)

/-- TCTL (R239). -/
def instrTctl (ts : Nat) (k : Fin 8) (e : Ecc) (ra : Fin 16) (obj : BitVec 6) (cmd : BitVec 3) (s : State) : State :=
  s.issueDev ts k e (wordD 0x22 0 ra 0 obj cmd.toNat) (fun c =>
    c.inRange k ((c.teller k).opA ra obj) 8 (fun a c =>
      if cmd = 0 ∨ 4 < cmd.toNat then c.raise k .range
      else c.asOwner k (c.programOwns [BitVec.ofNat 8 (0x38 + a.val)]) none (fun c =>
        c.queueReq k (.writes [⟨(F.TELLER_CTL_CMD a).reg, 7, cmd.setWidth 32⟩] false))))

/-! ### Rails (R240-R246) -/

/-- R240-R242: queue a rail operation on rail A. -/
def Dev.queueRail (s : Dev) (k : Fin 8) (ra : Fin 16) (obj : BitVec 6) (op : RailOp) : Dev :=
  s.inRange k ((s.teller k).opA ra obj) 48 (fun n c =>
    c.asOwner k (c.programOwns [BitVec.ofNat 8 n.val]) none (fun c => c.queueReq k (.rail n op)))

/-- ON. -/
def instrOn (ts : Nat) (k : Fin 8) (e : Ecc) (ra : Fin 16) (obj : BitVec 6) (s : State) : State :=
  s.issueDev ts k e (wordD 0x24 0 ra 0 obj 0) (fun c => c.queueRail k ra obj .on)

/-- OFF. -/
def instrOff (ts : Nat) (k : Fin 8) (e : Ecc) (ra : Fin 16) (obj : BitVec 6) (s : State) : State :=
  s.issueDev ts k e (wordD 0x25 0 ra 0 obj 0) (fun c => c.queueRail k ra obj .off)

/-- FOFF (R242). -/
def instrFoff (ts : Nat) (k : Fin 8) (e : Ecc) (ra : Fin 16) (obj : BitVec 6) (s : State) : State :=
  s.issueDev ts k e (wordD 0x26 0 ra 0 obj 0) (fun c => c.queueRail k ra obj .foff)

/-- R243-R245, R222: queue an operation on every rail of M[A]; an empty mask asks for nothing. DESIGN CHOICE (log entry 41): an
instruction that waits for a full queue keeps the set read at its first slot. -/
def Dev.queueRails (s : Dev) (k : Fin 8) (ra : Fin 16) (obj : BitVec 6) (on : Bool) : Dev :=
  s.inRange k ((s.teller k).opA ra obj) 64 (fun m c =>
    let set := c.maskSet m.val
    c.asOwner k (c.programOwns ((railsOf set).map (fun (n : Fin 48) => BitVec.ofNat 8 n.val))) none (fun c =>
      if set = 0 then c.onward k id else c.queueReq k (.rails set on)))

/-- ONM. -/
def instrOnm (ts : Nat) (k : Fin 8) (e : Ecc) (ra : Fin 16) (obj : BitVec 6) (s : State) : State :=
  s.issueDev ts k e (wordD 0x27 0 ra 0 obj 0) (fun c => c.queueRails k ra obj true)

/-- OFFM. -/
def instrOffm (ts : Nat) (k : Fin 8) (e : Ecc) (ra : Fin 16) (obj : BitVec 6) (s : State) : State :=
  s.issueDev ts k e (wordD 0x28 0 ra 0 obj 0) (fun c => c.queueRails k ra obj false)

/-- R246: the writes of a GATE. -/
def gateWrites (n : Fin 48) (set : RailSet) (seq : Bool) : List RegWrite :=
  [⟨(F.RAIL_GATEL_GATEL n).reg, 0xFFFFFFFF#32, set.extractLsb' 0 32⟩,
    ⟨(F.RAIL_GATEH_GATEH n).reg, 0xFFFF#32, (set.extractLsb' 32 16).setWidth 32⟩,
    ⟨(F.RAIL_CFG_SEQINREQ n).reg, 0x100#32, if seq then 0x100#32 else 0⟩]

/-- GATE (R246): `m` is the mask, `seq` the bit SUB[6]. -/
def instrGate (ts : Nat) (k : Fin 8) (e : Ecc) (ra : Fin 16) (obj : BitVec 6) (m : BitVec 6) (seq : Bool) (s : State) : State :=
  s.issueDev ts k e (wordD 0x29 0 ra 0 obj (m.toNat + (if seq then 64 else 0))) (fun c =>
    c.inRange k ((c.teller k).opA ra obj) 48 (fun n c =>
      c.asOwner k (c.programOwns [BitVec.ofNat 8 n.val]) none (fun c =>
        c.queueReq k (.writes (gateWrites n (c.maskSet m.toNat) seq) true))))

/-! ### Masks (R240, R247, R248) -/

/-- MSET (R247): `h` selects the upper register. -/
def instrMset (ts : Nat) (k : Fin 8) (e : Ecc) (ra rb : Fin 16) (obj : BitVec 6) (h : Bool) (s : State) : State :=
  s.issueDev ts k e (wordD 0x2D 0 ra rb obj (if h then 1 else 0)) (fun c =>
    c.inRange k ((c.teller k).opA ra obj) 64 (fun m c =>
      c.asOwner k (c.programOwns [0x7E#8]) none (fun c =>
        let v := (c.teller k).xr rb
        c.queueReq k (.writes [if h then ⟨(F.M_HI_RAILS m).reg, 0xFFFF#32, v &&& 0xFFFF#32⟩
          else ⟨(F.M_LO_RAILS m).reg, 0xFFFFFFFF#32, v⟩] true))))

/-- MLD. -/
def instrMld (ts : Nat) (k : Fin 8) (e : Ecc) (rd ra : Fin 16) (obj : BitVec 6) (h : Bool) (s : State) : State :=
  s.issueDev ts k e (wordD 0x2E rd ra 0 obj (if h then 1 else 0)) (fun c =>
    c.inRange k ((c.teller k).opA ra obj) 64 (fun m c =>
      let set := c.maskSet m.val
      c.onward k (fun t => t.xw rd (if h then (set.extractLsb' 32 16).setWidth 32 else set.extractLsb' 0 32))))

/-- R248: a rail on its way up. -/
def RailCode.starting : RailCode → Bool
  | .armed | .rising | .qualifying => true
  | _ => false

/-- R248: the flags of TSTM for a set of rails. -/
def Dev.testMask (s : Dev) (set : RailSet) (t : Teller) : Teller :=
  { t with
    z := s.allGood set
    n := (railsOf set).any (fun n => (s.rail n).code.starting)
    c := (railsOf set).any (fun n => (s.rail n).code == RailCode.faulted) }

/-- TSTM (R248). -/
def instrTstm (ts : Nat) (k : Fin 8) (e : Ecc) (ra : Fin 16) (obj : BitVec 6) (s : State) : State :=
  s.issueDev ts k e (wordD 0x2C 0 ra 0 obj 0) (fun c =>
    c.inRange k ((c.teller k).opA ra obj) 64 (fun m c => c.onward k (c.testMask (c.maskSet m.val))))

/-! ### Waits (R249-R254) -/

/-- WAIT (R250). -/
def instrWait (ts : Nat) (k : Fin 8) (e : Ecc) (ra : Fin 16) (imm : BitVec 18) (s : State) : State :=
  s.issueDev ts k e (wordI 0x23 0 ra imm.toNat) (fun c =>
    let t := c.teller k
    c.setTeller k (t.waitFor (.time (c.now + ((t.xr ra).toNat + imm.toNat) * 1000))))

/-- AWAIT (R251, R252). -/
def instrAwait (ts : Nat) (k : Fin 8) (e : Ecc) (ra rb : Fin 16) (obj : BitVec 6) (s : State) : State :=
  s.issueDev ts k e (wordD 0x2A 0 ra rb obj 0) (fun c =>
    c.inRange k ((c.teller k).opA ra obj) 64 (fun m c =>
      c.setTeller k ((c.teller k).waitFor (.await m (c.deadline (c.teller k) rb)))))

/-- WOFF (R251). -/
def instrWoff (ts : Nat) (k : Fin 8) (e : Ecc) (ra rb : Fin 16) (obj : BitVec 6) (s : State) : State :=
  s.issueDev ts k e (wordD 0x2B 0 ra rb obj 0) (fun c =>
    c.inRange k ((c.teller k).opA ra obj) 64 (fun m c =>
      c.setTeller k ((c.teller k).waitFor (.woff m (c.deadline (c.teller k) rb)))))

/-- WANG (R253). -/
def instrWang (ts : Nat) (k : Fin 8) (e : Ecc) (ra rb : Fin 16) (obj : BitVec 6) (s : State) : State :=
  s.issueDev ts k e (wordD 0x2F 0 ra rb obj 0) (fun c =>
    c.inRange k ((c.teller k).opA ra obj) 16 (fun g c =>
      c.setTeller k ((c.teller k).waitFor (.wang g false (c.deadline (c.teller k) rb)))))

end Sys2Proof.Machine
end

