-- ==== Sys2Proof/Machine/InstrActs.lean ====
section
/-! DEFINITION. Purses (R255-R259), records and probes (R260-R266), converters and capture (R267-R273), mode and
margining (R274-R276). -/

namespace Sys2Proof.Machine

/-! ### Purses (R255-R259) -/

/-- Request an amount from a budget and wait. -/
def Dev.askPurse (s : Dev) (k : Fin 8) (b : Budget) (amt : Nat) (w : Wait) : Dev :=
  (s.setTeller k ((s.teller k).waitFor w)).enterReq b (.teller k) amt (s.tellerRank k)

/-- SPEND (R256): `hold` selects the HOLD purse; a request for nothing is granted at once. -/
def instrSpend (ts : Nat) (k : Fin 8) (e : Ecc) (ra rb : Fin 16) (obj : BitVec 6) (hold : Bool) (s : State) : State :=
  s.issueDev ts k e (wordD 0x31 0 ra rb obj (if hold then 1 else 0)) (fun c =>
    c.asOwner k (c.programOwns [if hold then 0x79#8 else 0x78#8]) none (fun c =>
      let t := c.teller k
      let amt := t.opA ra obj
      if amt = 0 then c.onward k id
      else c.askPurse k (if hold then .hold else .inrush) amt (.spend (c.deadline t rb))))

/-- RESERVE (R257). -/
def instrReserve (ts : Nat) (k : Fin 8) (e : Ecc) (rd ra rb : Fin 16) (obj : BitVec 6) (s : State) : State :=
  s.issueDev ts k e (wordD 0x32 rd ra rb obj 0) (fun c =>
    c.asOwner k (c.programOwns [0x7A#8]) (some rd) (fun c =>
      let t := c.teller k
      c.askPurse k .heat (t.opA ra obj) (.reserve rd (c.deadline t rb))))

/-- A reservation number that a teller holds. -/
def HRes.hasNumber (h : HRes) (i : Nat) : Bool :=
  match h.who with
  | .teller _ j => j == i
  | _ => false

/-- RELEASE (R258, R327, R489). -/
def instrRelease (ts : Nat) (k : Fin 8) (e : Ecc) (ra : Fin 16) (obj : BitVec 6) (s : State) : State :=
  s.issueDev ts k e (wordD 0x33 0 ra 0 obj 0) (fun c =>
    c.inRange k ((c.teller k).opA ra obj) 256 (fun i c =>
      if i.val = 0 then c.raise k .range
      else c.asOwner k (c.programOwns [0x7A#8]) none (fun c =>
        if c.heatRes.any (fun h => h.hasNumber i.val) then
          (({ c with heatRes := c.heatRes.filter (fun h => !h.hasNumber i.val) }).coverCheck).onward k id
        else c.deny k none .noReservation)))

/-! ### Records (R260-R263) -/

/-- NOTE (R261): with the journal's queue full for it, the teller stalls. -/
def instrNote (ts : Nat) (k : Fin 8) (e : Ecc) (ra rb : Fin 16) (code : BitVec 14) (s : State) : State :=
  s.issueDev ts k e (wordN 0x34 ra rb code.toNat) (fun c =>
    let t := c.teller k
    let r := c.jRec (0x8000 + code.toNat) k.val (t.xr ra) (t.xr rb)
    if c.jq.length < 96 then (c.jPush r).onward k id else c.setTeller k { t with stall := some (.note r) })

/-- NOTE_STALL_RESUME (R261, R525): the journal's queue takes the record of a stalled NOTE. -/
def noteStallResume (ts : Nat) (k : Fin 8) (s : Dev) : Dev :=
  let s := s.advance ts
  match (s.teller k).stall with
  | some (.note r) =>
    if s.live ∧ s.mainAlive ∧ (s.teller k).st = .running ∧ s.jq.length < 96 then
      let s1 := s.jPush r
      (s1.setTeller k ((s1.teller k).unstall s1.now)).restartDue k
    else s
  | _ => s

/-- R262, R263: declare a program fault of a type: the folio where it is empty, the record, and for a dangerous one the
reaction. -/
def Dev.programFault (s : Dev) (k : Fin 8) (typ : Nat) (arg0 arg1 : Word) (dang : Bool) : Dev :=
  let takes := s.folioTakes typ k.val dang
  let s1 := (s.intoFolio typ k.val dang arg0 arg1).journal typ k.val arg0 arg1 takes false
  if dang then s1.dangerous typ else s1

/-- FAULT (R262). -/
def instrFault (ts : Nat) (k : Fin 8) (e : Ecc) (ra rb : Fin 16) (code : BitVec 13) (s : State) : State :=
  s.issueDev ts k e (wordN 0x35 ra rb code.toNat) (fun c =>
    let t := c.teller k
    (c.programFault k (0xC000 + code.toNat) (t.xr ra) (t.xr rb) false).onward k id)

/-- DFAULT (R262, R263). -/
def instrDfault (ts : Nat) (k : Fin 8) (e : Ecc) (ra rb : Fin 16) (code : BitVec 13) (s : State) : State :=
  s.issueDev ts k e (wordN 0x35 ra rb (0x2000 + code.toNat)) (fun c =>
    let t := c.teller k
    (c.programFault k (0xE000 + code.toNat) (t.xr ra) (t.xr rb) true).onward k id)

/-! ### PROBE (R264-R266) -/

/-- R264: the path of a class and object; none out of range. -/
def probePath (cls a : Nat) : Option Path :=
  match cls with
  | 0 => if h : a < 48 then some (.sense ⟨a, h⟩) else none
  | 1 => if h : a < 48 then some (.window ⟨a, h⟩) else none
  | 2 => if h : a < 6 then some (.conv ⟨a, h⟩) else none
  | 3 => if h : a < 24 then some (.isns ⟨a, h⟩) else none
  | 4 => if h : a < 24 then some (.tsns ⟨a, h⟩) else none
  | _ => none

/-- R264: the program owns the object of a probe. -/
def Dev.probeOwned (s : Dev) (cls a : Nat) : Bool :=
  match cls with
  | 0 | 1 => s.programOwns [BitVec.ofNat 8 a]
  | 2 => s.programOwns [BitVec.ofNat 8 (0x40 + a)]
  | _ => if h : a < 24 then ((s.ctlOf ⟨a, h⟩).map (fun n => s.programOwns [BitVec.ofNat 8 (0x30 + n.val)])).getD false else false

/-- R265, R552: ask for a probe and wait; where an error's probe of the path runs or waits the PROBE shares it; where no place is
free the verdict comes at once. -/
def Dev.askProbe (s : Dev) (k : Fin 8) (rd : Fin 16) (cls a : Nat) (want : Path) : Dev :=
  let path := s.servedBy want
  let s1 := s.setTeller k ((s.teller k).waitFor (.probe rd path))
  let p : Probe := ⟨path, 0, a, none, false, cls, some k, false, s.now,
    (s.probing ++ s.probes).any (fun q => q.path == path && q.typ != 0)⟩
  let s2 := s1.wantProbe p
  if (s2.probing ++ s2.probes).any (fun q => q == p) then s2 else s2.tellVerdict k path .inconclusive

/-- PROBE (R264-R266, R272). -/
def instrProbe (ts : Nat) (k : Fin 8) (e : Ecc) (rd ra : Fin 16) (obj : BitVec 6) (cls : BitVec 3) (s : State) : State :=
  s.issueDev ts k e (wordD 0x36 rd ra 0 obj cls.toNat) (fun c =>
    let a := (c.teller k).opA ra obj
    match probePath cls.toNat a with
    | none => c.raise k .range
    | some path => c.asOwner k (c.probeOwned cls.toNat a) (some rd) (fun c =>
        if c.eff = .watch then c.deny k (some rd) .asleep else c.askProbe k rd cls.toNat a path))

/-! ### Converters and capture (R267-R273) -/

/-- CAPT (R268, R272, R273, R434). -/
def instrCapt (ts : Nat) (k : Fin 8) (e : Ecc) (ra : Fin 16) (obj : BitVec 6) (s : State) : State :=
  s.issueDev ts k e (wordD 0x37 0 ra 0 obj 0) (fun c =>
    c.inRange k ((c.teller k).opA ra obj) 48 (fun n c =>
      let v := cvOf n
      c.asOwner k (c.programOwns [BitVec.ofNat 8 (0x40 + v.val)]) none (fun c =>
        let t : Trig := ⟨.teller k (c.teller k).pc, chOf n, true, c.stamp, c.arrival v⟩
        if c.eff = .watch then c.deny k none .asleep
        else if !c.capTakes v then c.deny k none .notArmed
        else if c.wouldDrop v t then (c.present v t).deny k none .trigOverrun
        else (c.present v t).onward k id)))

/-- INJ (R268, R269, R272). -/
def instrInj (ts : Nat) (k : Fin 8) (e : Ecc) (rd ra : Fin 16) (obj : BitVec 6) (ch : BitVec 4) (s : State) : State :=
  s.issueDev ts k e (wordD 0x38 rd ra 0 obj ch.toNat) (fun c =>
    c.inRange k ((c.teller k).opA ra obj) 6 (fun v c =>
      if 12 < ch.toNat ∨ (ch.toNat = 12 ∧ v.val < 4) then c.raise k .range
      else c.asOwner k (c.programOwns [BitVec.ofNat 8 (0x40 + v.val)]) (some rd) (fun c =>
        let t : Trig := ⟨.teller k (c.teller k).pc, ch.toNat, false, c.stamp, c.arrival v⟩
        if c.eff = .watch then c.deny k (some rd) .asleep
        else if c.wouldDrop v t then (c.present v t).deny k (some rd) .trigOverrun
        else
          let c1 := c.present v t
          c1.setTeller k ((c1.teller k).waitFor (.inj rd v t.arrive)))))

/-- CAL (R270, R272, R394). -/
def instrCal (ts : Nat) (k : Fin 8) (e : Ecc) (ra : Fin 16) (obj : BitVec 6) (s : State) : State :=
  s.issueDev ts k e (wordD 0x39 0 ra 0 obj 0) (fun c =>
    c.inRange k ((c.teller k).opA ra obj) 6 (fun v c =>
      c.asOwner k (c.programOwns [BitVec.ofNat 8 (0x40 + v.val)]) none (fun c =>
        if c.eff = .watch then c.deny k none .asleep
        else if c.calibrating v then c.deny k none .merged
        else (c.calRequest v).onward k id)))

/-- ARCH (R271, R272). -/
def instrArch (ts : Nat) (k : Fin 8) (e : Ecc) (ra : Fin 16) (obj : BitVec 6) (s : State) : State :=
  s.issueDev ts k e (wordD 0x3A 0 ra 0 obj 0) (fun c =>
    c.inRange k ((c.teller k).opA ra obj) 64 (fun a c =>
      let m := BitVec.ofNat 6 a.val
      if a.val = 0 then c.raise k .range
      else c.asOwner k (c.programOwns ((buffersOf m).map (fun v => BitVec.ofNat 8 (0x40 + v.val)))) none (fun c =>
        if c.eff = .watch then c.deny k none .asleep
        else match c.archRefusal m with
          | some r => (c.archRefused r).deny k none r
          | none => (c.archStart m false k.val).onward k id)))

/-! ### Mode and margining (R274-R276) -/

/-- MODE (R275). -/
def instrMode (ts : Nat) (k : Fin 8) (e : Ecc) (m : BitVec 2) (s : State) : State :=
  s.issueDev ts k e (wordD 0x3B 0 0 0 0 m.toNat) (fun c =>
    if m = 3 then c.raise k .range
    else c.asOwner k (c.programOwns [0x7B#8]) none (fun c =>
      c.queueReq k (.writes [⟨F.SYS_MODE_REQ.reg, 3, m.setWidth 32⟩] false)))

/-- R276: the range of a margin: the offset of a controller rail, or the code of a margin DAC. -/
def marginRange (n : Fin 48) (v : Int) : Bool :=
  if isCtl n then decide (-150 ≤ v ∧ v ≤ 150) else decide (-512 ≤ v ∧ v ≤ 511)

/-- MRGN (R276). -/
def instrMrgn (ts : Nat) (k : Fin 8) (e : Ecc) (ra rb : Fin 16) (obj : BitVec 6) (s : State) : State :=
  s.issueDev ts k e (wordD 0x3C 0 ra rb obj 0) (fun c =>
    c.inRange k ((c.teller k).opA ra obj) 48 (fun n c =>
      let v := (c.teller k).xr rb
      if !marginRange n v.toInt then c.raise k .range
      else c.asOwner k (c.programOwns [BitVec.ofNat 8 n.val]) none (fun c => c.queueReq k (.margin n (v.setWidth 10)))))

end Sys2Proof.Machine
end

