-- ==== Sys2Proof/Machine/MeanTellers.lean ====
section
/-! DEFINITION. Meanings of the commands: The tellers (05, 06). Each is one call of the operation that the rules describe. -/

namespace Sys2Proof.Machine

/-- NOP (R223). -/
def execNop (ts : Nat) (k : Fin 8) (e : Ecc) (s : State) : Host.Outcome State Fault Refusal :=
  .next (instrNop ts k e s)

/-- ADD (R223). -/
def execAdd (ts : Nat) (k : Fin 8) (e : Ecc) (rd ra rb : Fin 16) (s : State) : Host.Outcome State Fault Refusal :=
  .next (instrAdd ts k e rd ra rb s)

/-- SUB (R223). -/
def execSub (ts : Nat) (k : Fin 8) (e : Ecc) (rd ra rb : Fin 16) (s : State) : Host.Outcome State Fault Refusal :=
  .next (instrSub ts k e rd ra rb s)

/-- AND (R223). -/
def execAnd (ts : Nat) (k : Fin 8) (e : Ecc) (rd ra rb : Fin 16) (s : State) : Host.Outcome State Fault Refusal :=
  .next (instrAnd ts k e rd ra rb s)

/-- OR (R223). -/
def execOr (ts : Nat) (k : Fin 8) (e : Ecc) (rd ra rb : Fin 16) (s : State) : Host.Outcome State Fault Refusal :=
  .next (instrOr ts k e rd ra rb s)

/-- XOR (R223). -/
def execXor (ts : Nat) (k : Fin 8) (e : Ecc) (rd ra rb : Fin 16) (s : State) : Host.Outcome State Fault Refusal :=
  .next (instrXor ts k e rd ra rb s)

/-- SHL (R223). -/
def execShl (ts : Nat) (k : Fin 8) (e : Ecc) (rd ra rb : Fin 16) (s : State) : Host.Outcome State Fault Refusal :=
  .next (instrShl ts k e rd ra rb s)

/-- SHR (R223). -/
def execShr (ts : Nat) (k : Fin 8) (e : Ecc) (rd ra rb : Fin 16) (s : State) : Host.Outcome State Fault Refusal :=
  .next (instrShr ts k e rd ra rb s)

/-- SAR (R223). -/
def execSar (ts : Nat) (k : Fin 8) (e : Ecc) (rd ra rb : Fin 16) (s : State) : Host.Outcome State Fault Refusal :=
  .next (instrSar ts k e rd ra rb s)

/-- MUL (R223). -/
def execMul (ts : Nat) (k : Fin 8) (e : Ecc) (rd ra rb : Fin 16) (s : State) : Host.Outcome State Fault Refusal :=
  .next (instrMul ts k e rd ra rb s)

/-- CMP (R223). -/
def execCmp (ts : Nat) (k : Fin 8) (e : Ecc) (ra rb : Fin 16) (s : State) : Host.Outcome State Fault Refusal :=
  .next (instrCmp ts k e ra rb s)

/-- ADDI (R223). -/
def execAddi (ts : Nat) (k : Fin 8) (e : Ecc) (rd ra : Fin 16) (imm : BitVec 18) (s : State) :
    Host.Outcome State Fault Refusal :=
  .next (instrAddi ts k e rd ra imm s)

/-- ANDI (R223). -/
def execAndi (ts : Nat) (k : Fin 8) (e : Ecc) (rd ra : Fin 16) (imm : BitVec 18) (s : State) :
    Host.Outcome State Fault Refusal :=
  .next (instrAndi ts k e rd ra imm s)

/-- ORI (R223). -/
def execOri (ts : Nat) (k : Fin 8) (e : Ecc) (rd ra : Fin 16) (imm : BitVec 18) (s : State) :
    Host.Outcome State Fault Refusal :=
  .next (instrOri ts k e rd ra imm s)

/-- XORI (R223). -/
def execXori (ts : Nat) (k : Fin 8) (e : Ecc) (rd ra : Fin 16) (imm : BitVec 18) (s : State) :
    Host.Outcome State Fault Refusal :=
  .next (instrXori ts k e rd ra imm s)

/-- SHLI (R223). -/
def execShli (ts : Nat) (k : Fin 8) (e : Ecc) (rd ra : Fin 16) (n : BitVec 5) (s : State) :
    Host.Outcome State Fault Refusal :=
  .next (instrShli ts k e rd ra n s)

/-- SHRI (R223). -/
def execShri (ts : Nat) (k : Fin 8) (e : Ecc) (rd ra : Fin 16) (n : BitVec 5) (s : State) :
    Host.Outcome State Fault Refusal :=
  .next (instrShri ts k e rd ra n s)

/-- SARI (R223). -/
def execSari (ts : Nat) (k : Fin 8) (e : Ecc) (rd ra : Fin 16) (n : BitVec 5) (s : State) :
    Host.Outcome State Fault Refusal :=
  .next (instrSari ts k e rd ra n s)

/-- CMPI (R223). -/
def execCmpi (ts : Nat) (k : Fin 8) (e : Ecc) (ra : Fin 16) (imm : BitVec 18) (s : State) :
    Host.Outcome State Fault Refusal :=
  .next (instrCmpi ts k e ra imm s)

/-- LUI (R223). -/
def execLui (ts : Nat) (k : Fin 8) (e : Ecc) (rd : Fin 16) (imm : BitVec 18) (s : State) :
    Host.Outcome State Fault Refusal :=
  .next (instrLui ts k e rd imm s)

/-- CLRF (R223). -/
def execClrf (ts : Nat) (k : Fin 8) (e : Ecc) (f : BitVec 5) (s : State) : Host.Outcome State Fault Refusal :=
  .next (instrClrf ts k e f s)

/-- LD (R224). -/
def execLd (ts : Nat) (k : Fin 8) (e d : Ecc) (rd ra : Fin 16) (imm : BitVec 18) (s : State) :
    Host.Outcome State Fault Refusal :=
  .next (instrLd ts k e d rd ra imm s)

/-- ST (R224). -/
def execSt (ts : Nat) (k : Fin 8) (e : Ecc) (rd ra : Fin 16) (imm : BitVec 18) (s : State) :
    Host.Outcome State Fault Refusal :=
  .next (instrSt ts k e rd ra imm s)

/-- LDB (R224). -/
def execLdb (ts : Nat) (k : Fin 8) (e d : Ecc) (rd ra : Fin 16) (imm : BitVec 18) (s : State) :
    Host.Outcome State Fault Refusal :=
  .next (instrLdb ts k e d rd ra imm s)

/-- STB (R226). -/
def execStb (ts : Nat) (k : Fin 8) (e d : Ecc) (rd ra : Fin 16) (imm : BitVec 18) (s : State) :
    Host.Outcome State Fault Refusal :=
  .next (instrStb ts k e d rd ra imm s)

/-- STAMP (R227). -/
def execStamp (ts : Nat) (k : Fin 8) (e : Ecc) (ra : Fin 16) (imm : BitVec 18) (s : State) :
    Host.Outcome State Fault Refusal :=
  .next (instrStamp ts k e ra imm s)

/-- RDR (R228). -/
def execRdr (ts : Nat) (k : Fin 8) (e : Ecc) (rd ra : Fin 16) (imm : BitVec 16) (s : State) :
    Host.Outcome State Fault Refusal :=
  .next (instrRdr ts k e rd ra imm s)

/-- WRR (R229). -/
def execWrr (ts : Nat) (k : Fin 8) (e : Ecc) (rd ra : Fin 16) (imm : BitVec 16) (s : State) :
    Host.Outcome State Fault Refusal :=
  .next (instrWrr ts k e rd ra imm s)

/-- B (R232). -/
def execB (ts : Nat) (k : Fin 8) (e : Ecc) (c : Cond) (target : BitVec 16) (s : State) :
    Host.Outcome State Fault Refusal :=
  .next (instrB ts k e c target s)

/-- CALL (R233). -/
def execCall (ts : Nat) (k : Fin 8) (e : Ecc) (target : BitVec 16) (s : State) : Host.Outcome State Fault Refusal :=
  .next (instrCall ts k e target s)

/-- RET (R233). -/
def execRet (ts : Nat) (k : Fin 8) (e : Ecc) (s : State) : Host.Outcome State Fault Refusal :=
  .next (instrRet ts k e s)

/-- RETT (R234). -/
def execRett (ts : Nat) (k : Fin 8) (e : Ecc) (ra : Fin 16) (s : State) : Host.Outcome State Fault Refusal :=
  .next (instrRett ts k e ra s)

/-- HALT (R232). -/
def execHalt (ts : Nat) (k : Fin 8) (e : Ecc) (s : State) : Host.Outcome State Fault Refusal :=
  .next (instrHalt ts k e s)

/-- KICK (R195). -/
def execKick (ts : Nat) (k : Fin 8) (e : Ecc) (s : State) : Host.Outcome State Fault Refusal :=
  .next (instrKick ts k e s)

/-- SYNC (R235). -/
def execSync (ts : Nat) (k : Fin 8) (e : Ecc) (s : State) : Host.Outcome State Fault Refusal :=
  .next (instrSync ts k e s)

/-- SYNC_END (R235). -/
def execSyncEnd (ts : Nat) (k : Fin 8) (s : State) : Host.Outcome State Fault Refusal :=
  .next (s.lift (syncEnd ts k))

/-- WWAKE (R236). -/
def execWwake (ts : Nat) (k : Fin 8) (e : Ecc) (rd : Fin 16) (s : State) : Host.Outcome State Fault Refusal :=
  .next (instrWwake ts k e rd s)

/-- WWAKE_END (R236). -/
def execWwakeEnd (ts : Nat) (k : Fin 8) (s : State) : Host.Outcome State Fault Refusal :=
  .next (s.lift (wwakeEnd ts k))

/-- LOCK (R237). -/
def execLock (ts : Nat) (k : Fin 8) (e : Ecc) (s : State) : Host.Outcome State Fault Refusal :=
  .next (instrLock ts k e s)

/-- MBIN (R238). -/
def execMbin (ts : Nat) (k : Fin 8) (e : Ecc) (rd : Fin 16) (s : State) : Host.Outcome State Fault Refusal :=
  .next (instrMbin ts k e rd s)

/-- MBOUT (R238). -/
def execMbout (ts : Nat) (k : Fin 8) (e : Ecc) (ra : Fin 16) (obj : BitVec 6) (s : State) :
    Host.Outcome State Fault Refusal :=
  .next (instrMbout ts k e ra obj s)

/-- TCTL (R239). -/
def execTctl (ts : Nat) (k : Fin 8) (e : Ecc) (ra : Fin 16) (obj : BitVec 6) (cmd : BitVec 3) (s : State) :
    Host.Outcome State Fault Refusal :=
  .next (instrTctl ts k e ra obj cmd s)

/-- ON (R240). -/
def execOn (ts : Nat) (k : Fin 8) (e : Ecc) (ra : Fin 16) (obj : BitVec 6) (s : State) :
    Host.Outcome State Fault Refusal :=
  .next (instrOn ts k e ra obj s)

/-- OFF (R240). -/
def execOff (ts : Nat) (k : Fin 8) (e : Ecc) (ra : Fin 16) (obj : BitVec 6) (s : State) :
    Host.Outcome State Fault Refusal :=
  .next (instrOff ts k e ra obj s)

/-- FOFF (R242). -/
def execFoff (ts : Nat) (k : Fin 8) (e : Ecc) (ra : Fin 16) (obj : BitVec 6) (s : State) :
    Host.Outcome State Fault Refusal :=
  .next (instrFoff ts k e ra obj s)

/-- ONM (R243). -/
def execOnm (ts : Nat) (k : Fin 8) (e : Ecc) (ra : Fin 16) (obj : BitVec 6) (s : State) :
    Host.Outcome State Fault Refusal :=
  .next (instrOnm ts k e ra obj s)

/-- OFFM (R243). -/
def execOffm (ts : Nat) (k : Fin 8) (e : Ecc) (ra : Fin 16) (obj : BitVec 6) (s : State) :
    Host.Outcome State Fault Refusal :=
  .next (instrOffm ts k e ra obj s)

/-- GATE (R246). -/
def execGate (ts : Nat) (k : Fin 8) (e : Ecc) (ra : Fin 16) (obj m : BitVec 6) (seq : Bool) (s : State) :
    Host.Outcome State Fault Refusal :=
  .next (instrGate ts k e ra obj m seq s)

/-- MSET (R247). -/
def execMset (ts : Nat) (k : Fin 8) (e : Ecc) (ra rb : Fin 16) (obj : BitVec 6) (h : Bool) (s : State) :
    Host.Outcome State Fault Refusal :=
  .next (instrMset ts k e ra rb obj h s)

/-- MLD (R240). -/
def execMld (ts : Nat) (k : Fin 8) (e : Ecc) (rd ra : Fin 16) (obj : BitVec 6) (h : Bool) (s : State) :
    Host.Outcome State Fault Refusal :=
  .next (instrMld ts k e rd ra obj h s)

/-- TSTM (R248). -/
def execTstm (ts : Nat) (k : Fin 8) (e : Ecc) (ra : Fin 16) (obj : BitVec 6) (s : State) :
    Host.Outcome State Fault Refusal :=
  .next (instrTstm ts k e ra obj s)

/-- WAIT (R250). -/
def execWait (ts : Nat) (k : Fin 8) (e : Ecc) (ra : Fin 16) (imm : BitVec 18) (s : State) :
    Host.Outcome State Fault Refusal :=
  .next (instrWait ts k e ra imm s)

/-- WAIT_ELAPSED (R250). -/
def execWaitElapsed (ts : Nat) (k : Fin 8) (s : State) : Host.Outcome State Fault Refusal :=
  .next (s.lift (waitElapsed ts k))

/-- AWAIT (R252). -/
def execAwait (ts : Nat) (k : Fin 8) (e : Ecc) (ra rb : Fin 16) (obj : BitVec 6) (s : State) :
    Host.Outcome State Fault Refusal :=
  .next (instrAwait ts k e ra rb obj s)

/-- AWAIT_END (R252). -/
def execAwaitEnd (ts : Nat) (k : Fin 8) (s : State) : Host.Outcome State Fault Refusal :=
  .next (s.lift (awaitEnd ts k))

/-- WOFF (R251). -/
def execWoff (ts : Nat) (k : Fin 8) (e : Ecc) (ra rb : Fin 16) (obj : BitVec 6) (s : State) :
    Host.Outcome State Fault Refusal :=
  .next (instrWoff ts k e ra rb obj s)

/-- WOFF_END (R251). -/
def execWoffEnd (ts : Nat) (k : Fin 8) (s : State) : Host.Outcome State Fault Refusal :=
  .next (s.lift (woffEnd ts k))

/-- WANG (R253). -/
def execWang (ts : Nat) (k : Fin 8) (e : Ecc) (ra rb : Fin 16) (obj : BitVec 6) (s : State) :
    Host.Outcome State Fault Refusal :=
  .next (instrWang ts k e ra rb obj s)

/-- WANG_END (R253). -/
def execWangEnd (ts : Nat) (k : Fin 8) (s : State) : Host.Outcome State Fault Refusal :=
  .next (s.lift (wangEnd ts k))

/-- WAIT_TIMEOUT (R210). -/
def execWaitTimeout (ts : Nat) (k : Fin 8) (s : State) : Host.Outcome State Fault Refusal :=
  .next (s.lift (waitTimeout ts k))

/-- SPEND (R256). -/
def execSpend (ts : Nat) (k : Fin 8) (e : Ecc) (ra rb : Fin 16) (obj : BitVec 6) (hold : Bool) (s : State) :
    Host.Outcome State Fault Refusal :=
  .next (instrSpend ts k e ra rb obj hold s)

/-- RESERVE (R257). -/
def execReserve (ts : Nat) (k : Fin 8) (e : Ecc) (rd ra rb : Fin 16) (obj : BitVec 6) (s : State) :
    Host.Outcome State Fault Refusal :=
  .next (instrReserve ts k e rd ra rb obj s)

/-- RELEASE (R258). -/
def execRelease (ts : Nat) (k : Fin 8) (e : Ecc) (ra : Fin 16) (obj : BitVec 6) (s : State) :
    Host.Outcome State Fault Refusal :=
  .next (instrRelease ts k e ra obj s)

/-- NOTE (R261). -/
def execNote (ts : Nat) (k : Fin 8) (e : Ecc) (ra rb : Fin 16) (code : BitVec 14) (s : State) :
    Host.Outcome State Fault Refusal :=
  .next (instrNote ts k e ra rb code s)

/-- NOTE_STALL_RESUME (R261). -/
def execNoteStallResume (ts : Nat) (k : Fin 8) (s : State) : Host.Outcome State Fault Refusal :=
  .next (s.lift (noteStallResume ts k))

/-- FAULT (R262). -/
def execFault (ts : Nat) (k : Fin 8) (e : Ecc) (ra rb : Fin 16) (code : BitVec 13) (s : State) :
    Host.Outcome State Fault Refusal :=
  .next (instrFault ts k e ra rb code s)

/-- DFAULT (R263). -/
def execDfault (ts : Nat) (k : Fin 8) (e : Ecc) (ra rb : Fin 16) (code : BitVec 13) (s : State) :
    Host.Outcome State Fault Refusal :=
  .next (instrDfault ts k e ra rb code s)

/-- PROBE (R265). -/
def execProbe (ts : Nat) (k : Fin 8) (e : Ecc) (rd ra : Fin 16) (obj : BitVec 6) (cls : BitVec 3) (s : State) :
    Host.Outcome State Fault Refusal :=
  .next (instrProbe ts k e rd ra obj cls s)

/-- CAPT (R268). -/
def execCapt (ts : Nat) (k : Fin 8) (e : Ecc) (ra : Fin 16) (obj : BitVec 6) (s : State) :
    Host.Outcome State Fault Refusal :=
  .next (instrCapt ts k e ra obj s)

/-- INJ (R269). -/
def execInj (ts : Nat) (k : Fin 8) (e : Ecc) (rd ra : Fin 16) (obj : BitVec 6) (ch : BitVec 4) (s : State) :
    Host.Outcome State Fault Refusal :=
  .next (instrInj ts k e rd ra obj ch s)

/-- CAL (R270). -/
def execCal (ts : Nat) (k : Fin 8) (e : Ecc) (ra : Fin 16) (obj : BitVec 6) (s : State) :
    Host.Outcome State Fault Refusal :=
  .next (instrCal ts k e ra obj s)

/-- ARCH (R271). -/
def execArch (ts : Nat) (k : Fin 8) (e : Ecc) (ra : Fin 16) (obj : BitVec 6) (s : State) :
    Host.Outcome State Fault Refusal :=
  .next (instrArch ts k e ra obj s)

/-- MODE (R275). -/
def execMode (ts : Nat) (k : Fin 8) (e : Ecc) (m : BitVec 2) (s : State) : Host.Outcome State Fault Refusal :=
  .next (instrMode ts k e m s)

/-- MRGN (R276). -/
def execMrgn (ts : Nat) (k : Fin 8) (e : Ecc) (ra rb : Fin 16) (obj : BitVec 6) (s : State) :
    Host.Outcome State Fault Refusal :=
  .next (instrMrgn ts k e ra rb obj s)

/-- WATCHDOG (R195). -/
def execWatchdog (ts : Nat) (k : Fin 8) (s : State) : Host.Outcome State Fault Refusal :=
  .next (s.lift (watchdog ts k))

/-- QUEUE_STALL_RESUME (R186). -/
def execQueueStallResume (ts : Nat) (k : Fin 8) (s : State) : Host.Outcome State Fault Refusal :=
  .next (s.lift (queueStallResume ts k))

end Sys2Proof.Machine
end

