-- ==== Sys2Proof/Machine/MeanTime.lean ====
section
/-! DEFINITION. Meanings of the commands: The close, USEC, the tally, angle gates and shutters (01, 03). Each is one call of the operation that the rules describe. -/

namespace Sys2Proof.Machine

/-- CLOSE (R604). -/
def execClose (ts : Nat) (s : State) : Host.Outcome State Fault Refusal :=
  .next (s.lift (close ts))

/-- USEC_WRAP_COPY (R89). -/
def execUsecWrapCopy (ts : Nat) (s : State) : Host.Outcome State Fault Refusal :=
  .next (usecWrapCopy ts s)

/-- USEC_WRAP (R89). -/
def execUsecWrap (ts : Nat) (s : State) : Host.Outcome State Fault Refusal :=
  .next (usecWrap ts s)

/-- QUAD_COUNT (R98). -/
def execQuadCount (ts : Nat) (q : QStep) (stable : Nat) (s : State) : Host.Outcome State Fault Refusal :=
  .next (s.lift (quadCount ts q stable))

/-- INDEX_PULSE (R100). -/
def execIndexPulse (ts stable : Nat) (s : State) : Host.Outcome State Fault Refusal :=
  .next (s.lift (indexPulse ts stable))

/-- SYNC_EDGE (R104). -/
def execSyncEdge (ts : Nat) (rising : Bool) (stable : Nat) (s : State) : Host.Outcome State Fault Refusal :=
  .next (s.lift (syncEdge ts rising stable))

/-- SYNC_ANGLE_WRAP (R103). -/
def execSyncAngleWrap (ts : Nat) (s : State) : Host.Outcome State Fault Refusal :=
  .next (s.lift (syncAngleWrap ts))

/-- TALLY_FLYWHEEL (R106). -/
def execTallyFlywheel (ts : Nat) (s : State) : Host.Outcome State Fault Refusal :=
  .next (s.lift (tallyFlywheel ts))

/-- FLYWHEEL_EXHAUSTED (R106). -/
def execFlywheelExhausted (ts : Nat) (s : State) : Host.Outcome State Fault Refusal :=
  .next (s.lift (flywheelExhausted ts))

/-- TALLY_ERR_REPORT (R109). -/
def execTallyErrReport (ts : Nat) (k : TErr) (s : State) : Host.Outcome State Fault Refusal :=
  .next (s.lift (tallyErrReport ts k))

/-- ANGLE_GATE_FIRE (R113). -/
def execAngleGateFire (ts : Nat) (routes : List (Fin 16 × Fin 48)) (s : State) :
    Host.Outcome State Fault Refusal :=
  .next (s.lift (angleGateFire ts routes))

/-- SHUTTER_BLANK_START (R119). -/
def execShutterBlankStart (ts : Nat) (n : Fin 16) (s : State) : Host.Outcome State Fault Refusal :=
  .next (s.lift (shutterBlankStart ts n))

/-- SHUTTER_BLANK_END (R119). -/
def execShutterBlankEnd (ts : Nat) (n : Fin 16) (s : State) : Host.Outcome State Fault Refusal :=
  .next (s.lift (shutterBlankEnd ts n))

/-- SHUTTER_CAPPED (R120). -/
def execShutterCapped (ts : Nat) (n : Fin 16) (s : State) : Host.Outcome State Fault Refusal :=
  .next (s.lift (shutterCapped ts n))

end Sys2Proof.Machine
end

