-- ==== Sys2Proof/Machine/MeanWrites.lean ====
section
/-! DEFINITION. Meanings of the commands: Writes of registers (16, 18). Each is one call of the operation that the rules describe. -/

namespace Sys2Proof.Machine

/-- TELLER_HALT (R192). -/
def execTellerHalt (ts : Nat) (wr : Writer) (k : Fin 8) (s : State) : Host.Outcome State Fault Refusal :=
  .next (s.lift (tellerHaltWrite ts wr k))

/-- TELLER_RESUME (R192). -/
def execTellerResume (ts : Nat) (wr : Writer) (k : Fin 8) (s : State) : Host.Outcome State Fault Refusal :=
  .next (s.lift (tellerResumeWrite ts wr k))

/-- TELLER_RESTART (R192). -/
def execTellerRestart (ts : Nat) (wr : Writer) (k : Fin 8) (s : State) : Host.Outcome State Fault Refusal :=
  .next (s.lift (tellerRestartWrite ts wr k))

/-- TELLER_STEP (R192). -/
def execTellerStep (ts : Nat) (wr : Writer) (k : Fin 8) (s : State) : Host.Outcome State Fault Refusal :=
  .next (s.lift (tellerStepWrite ts wr k))

/-- LOCK_KEY (R155). -/
def execLockKey (ts : Nat) (wr : Writer) (s : State) : Host.Outcome State Fault Refusal :=
  .next (s.lift (lockKey ts wr))

/-- RAIL_CMD_ON (R589). -/
def execRailCmdOn (ts : Nat) (wr : Writer) (n : Fin 48) (s : State) : Host.Outcome State Fault Refusal :=
  .next (s.lift (railCmdOn ts wr n))

/-- RAIL_CMD_OFF (R589). -/
def execRailCmdOff (ts : Nat) (wr : Writer) (n : Fin 48) (s : State) : Host.Outcome State Fault Refusal :=
  .next (s.lift (railCmdOff ts wr n))

/-- RAIL_CMD_FOFF (R589). -/
def execRailCmdFoff (ts : Nat) (wr : Writer) (n : Fin 48) (s : State) : Host.Outcome State Fault Refusal :=
  .next (s.lift (railCmdFoff ts wr n))

/-- START_NORMAL (R357). -/
def execStartNormal (ts : Nat) (wr : Writer) (s : State) : Host.Outcome State Fault Refusal :=
  .next (s.lift (startNormal ts wr))

/-- RELEASE_FLT (R365). -/
def execReleaseFlt (ts : Nat) (wr : Writer) (s : State) : Host.Outcome State Fault Refusal :=
  .next (s.lift (releaseFltWrite ts wr))

/-- OWN_GIVE (R581). -/
def execOwnGive (ts : Nat) (wr : Writer) (res : BitVec 8) (dst : BitVec 3) (s : State) :
    Host.Outcome State Fault Refusal :=
  .next (s.lift (ownGive ts wr res dst))

/-- INJECTED_DWELL_REQUEST (R392). -/
def execInjectedDwellRequest (ts : Nat) (wr : Writer) (c : Fin 6) (ch : BitVec 4) (s : State) :
    Host.Outcome State Fault Refusal :=
  .next (s.lift (injectedDwellRequest ts wr c ch))

/-- BURST_REQUEST (R392). -/
def execBurstRequest (ts : Nat) (wr : Writer) (c : Fin 6) (ch : BitVec 4) (s : State) :
    Host.Outcome State Fault Refusal :=
  .next (s.lift (burstRequest ts wr c ch))

/-- CALIBRATION_REQUEST (R394). -/
def execCalibrationRequest (ts : Nat) (wr : Writer) (c : Fin 6) (s : State) : Host.Outcome State Fault Refusal :=
  .next (s.lift (calibrationRequest ts wr c))

/-- OPEN_WIRE_START (R404). -/
def execOpenWireStart (ts : Nat) (wr : Writer) (c : Fin 6) (ch : Fin 8) (s : State) :
    Host.Outcome State Fault Refusal :=
  .next (s.lift (openWireStart ts wr c ch))

/-- CAPTURE_ARM (R432). -/
def execCaptureArm (ts : Nat) (wr : Writer) (c : Fin 6) (s : State) : Host.Outcome State Fault Refusal :=
  .next (s.lift (captureArm ts wr c))

/-- CAPTURE_DISARM (R432). -/
def execCaptureDisarm (ts : Nat) (wr : Writer) (c : Fin 6) (s : State) : Host.Outcome State Fault Refusal :=
  .next (s.lift (captureDisarm ts wr c))

/-- REINSTATE (R473). -/
def execReinstate (ts : Nat) (wr : Writer) (c : Fin 8) (s : State) : Host.Outcome State Fault Refusal :=
  .next (s.lift (reinstateWrite ts wr c))

/-- ARCHIVE_GO (R537). -/
def execArchiveGo (ts : Nat) (wr : Writer) (m : BitVec 6) (s : State) : Host.Outcome State Fault Refusal :=
  .next (s.lift (archiveGo ts wr m))

/-- ARCHIVE_RESET (R536). -/
def execArchiveReset (ts : Nat) (wr : Writer) (s : State) : Host.Outcome State Fault Refusal :=
  .next (s.lift (archiveReset ts wr))

/-- STATEMENT_REQUEST (R590). -/
def execStatementRequest (ts : Nat) (d : Fin 4) (s : State) : Host.Outcome State Fault Refusal :=
  .next (s.lift (statementRequest ts d))

/-- STATEMENT_DROP (R593). -/
def execStatementDrop (ts : Nat) (d : Fin 4) (s : State) : Host.Outcome State Fault Refusal :=
  .next (s.lift (statementDrop ts d))

/-- PADD (R596). -/
def execPadd (ts : Nat) (d : Fin 4) (reg : BitVec 16) (s : State) : Host.Outcome State Fault Refusal :=
  .next (s.lift (paddWrite ts d reg))

/-- POST (R598). -/
def execPost (ts : Nat) (d : Fin 4) (s : State) : Host.Outcome State Fault Refusal :=
  .next (s.lift (postWrite ts d))

/-- DISCARD (R597). -/
def execDiscard (ts : Nat) (d : Fin 4) (s : State) : Host.Outcome State Fault Refusal :=
  .next (s.lift (discardWrite ts d))

/-- SUBST_END (R337). -/
def execSubstEnd (ts : Nat) (wr : Writer) (bits : Word) (s : State) : Host.Outcome State Fault Refusal :=
  .next (s.lift (substEnd ts wr bits))

/-- STAMPV_CLEAR (R423). -/
def execStampvClear (ts : Nat) (wr : Writer) (n : Fin 48) (s : State) : Host.Outcome State Fault Refusal :=
  .next (s.lift (stampvClear ts wr n))

/-- REGISTER_WRITE (R599). -/
def execRegisterWrite (ts : Nat) (wr : Writer) (reg : BitVec 16) (mask val : Word) (s : State) :
    Host.Outcome State Fault Refusal :=
  .next (s.lift (registerWrite ts wr reg mask val))

end Sys2Proof.Machine
end

