-- ==== Sys2Proof/Machine/Dispatch.lean ====
section
/-! DEFINITION. The dispatch: one arm per command, each one direct call of its meaning. -/

namespace Sys2Proof.Machine

/-- The effect of a command on everything but the queue. -/
def exec (i : Instr) (s : State) : Host.Outcome State Fault Refusal :=
  match i with
  | .supplyPresent ts => Sys2Proof.Machine.execSupplyPresent ts s
  | .supplyLost ts torn => Sys2Proof.Machine.execSupplyLost ts torn s
  | .vinRiseLockout ts => Sys2Proof.Machine.execVinRiseLockout ts s
  | .vdd5SoftStartDone ts ok => Sys2Proof.Machine.execVdd5SoftStartDone ts ok s
  | .supplyWindowRetry ts => Sys2Proof.Machine.execSupplyWindowRetry ts s
  | .pllLock ts dadr => Sys2Proof.Machine.execPllLock ts dadr s
  | .pllLockTimeout ts => Sys2Proof.Machine.execPllLockTimeout ts s
  | .calSetLoad ts => Sys2Proof.Machine.execCalSetLoad ts s
  | .bankLoad ts => Sys2Proof.Machine.execBankLoad ts s
  | .startUpSelftest ts fails corrected dev diag => Sys2Proof.Machine.execStartUpSelftest ts fails corrected dev diag s
  | .tellersStart ts uv ov => Sys2Proof.Machine.execTellersStart ts uv ov s
  | .bootVinDrop ts torn => Sys2Proof.Machine.execBootVinDrop ts torn s
  | .vinLoss ts => Sys2Proof.Machine.execVinLoss ts s
  | .orFail ts => Sys2Proof.Machine.execOrFail ts s
  | .vsupLow ts => Sys2Proof.Machine.execVsupLow ts s
  | .vdd5Uv ts => Sys2Proof.Machine.execVdd5Uv ts s
  | .vinHigh ts => Sys2Proof.Machine.execVinHigh ts s
  | .vinHighClear ts => Sys2Proof.Machine.execVinHighClear ts s
  | .vinLowWait ts => Sys2Proof.Machine.execVinLowWait ts s
  | .chgTimeout ts => Sys2Proof.Machine.execChgTimeout ts s
  | .holdOv ts => Sys2Proof.Machine.execHoldOv ts s
  | .chgWrite ts wr mask val => Sys2Proof.Machine.execChgWrite ts wr mask val s
  | .sagLevelUp ts => Sys2Proof.Machine.execSagLevelUp ts s
  | .sagLevelDown ts => Sys2Proof.Machine.execSagLevelDown ts s
  | .rebootRequest ts wr => Sys2Proof.Machine.execRebootRequest ts wr s
  | .thermalShutdown ts => Sys2Proof.Machine.execThermalShutdown ts s
  | .thermalOffEntry ts => Sys2Proof.Machine.execThermalOffEntry ts s
  | .wakePin ts => Sys2Proof.Machine.execWakePin ts s
  | .watchExitComplete ts => Sys2Proof.Machine.execWatchExitComplete ts s
  | .close ts => Sys2Proof.Machine.execClose ts s
  | .usecWrapCopy ts => Sys2Proof.Machine.execUsecWrapCopy ts s
  | .usecWrap ts => Sys2Proof.Machine.execUsecWrap ts s
  | .quadCount ts q stable => Sys2Proof.Machine.execQuadCount ts q stable s
  | .indexPulse ts stable => Sys2Proof.Machine.execIndexPulse ts stable s
  | .syncEdge ts rising stable => Sys2Proof.Machine.execSyncEdge ts rising stable s
  | .syncAngleWrap ts => Sys2Proof.Machine.execSyncAngleWrap ts s
  | .tallyFlywheel ts => Sys2Proof.Machine.execTallyFlywheel ts s
  | .flywheelExhausted ts => Sys2Proof.Machine.execFlywheelExhausted ts s
  | .tallyErrReport ts k => Sys2Proof.Machine.execTallyErrReport ts k s
  | .angleGateFire ts routes => Sys2Proof.Machine.execAngleGateFire ts routes s
  | .shutterBlankStart ts n => Sys2Proof.Machine.execShutterBlankStart ts n s
  | .shutterBlankEnd ts n => Sys2Proof.Machine.execShutterBlankEnd ts n s
  | .shutterCapped ts n => Sys2Proof.Machine.execShutterCapped ts n s
  | .railStart ts n => Sys2Proof.Machine.execRailStart ts n s
  | .railGoodCondMet ts n => Sys2Proof.Machine.execRailGoodCondMet ts n s
  | .railGoodCondLost ts n => Sys2Proof.Machine.execRailGoodCondLost ts n s
  | .railQualified ts n => Sys2Proof.Machine.execRailQualified ts n s
  | .fallTimeout ts n => Sys2Proof.Machine.execFallTimeout ts n s
  | .riseTimeout ts n => Sys2Proof.Machine.execRiseTimeout ts n s
  | .railOv ts n => Sys2Proof.Machine.execRailOv ts n s
  | .railUv ts n => Sys2Proof.Machine.execRailUv ts n s
  | .pgLoss ts n => Sys2Proof.Machine.execPgLoss ts n s
  | .pgChange ts n level => Sys2Proof.Machine.execPgChange ts n level s
  | .rstoRelease ts k => Sys2Proof.Machine.execRstoRelease ts k s
  | .seqOutRelease ts => Sys2Proof.Machine.execSeqOutRelease ts s
  | .seqInChange ts level => Sys2Proof.Machine.execSeqInChange ts level s
  | .nop ts k e => Sys2Proof.Machine.execNop ts k e s
  | .add ts k e rd ra rb => Sys2Proof.Machine.execAdd ts k e rd ra rb s
  | .sub ts k e rd ra rb => Sys2Proof.Machine.execSub ts k e rd ra rb s
  | .and ts k e rd ra rb => Sys2Proof.Machine.execAnd ts k e rd ra rb s
  | .or ts k e rd ra rb => Sys2Proof.Machine.execOr ts k e rd ra rb s
  | .xor ts k e rd ra rb => Sys2Proof.Machine.execXor ts k e rd ra rb s
  | .shl ts k e rd ra rb => Sys2Proof.Machine.execShl ts k e rd ra rb s
  | .shr ts k e rd ra rb => Sys2Proof.Machine.execShr ts k e rd ra rb s
  | .sar ts k e rd ra rb => Sys2Proof.Machine.execSar ts k e rd ra rb s
  | .mul ts k e rd ra rb => Sys2Proof.Machine.execMul ts k e rd ra rb s
  | .cmp ts k e ra rb => Sys2Proof.Machine.execCmp ts k e ra rb s
  | .addi ts k e rd ra imm => Sys2Proof.Machine.execAddi ts k e rd ra imm s
  | .andi ts k e rd ra imm => Sys2Proof.Machine.execAndi ts k e rd ra imm s
  | .ori ts k e rd ra imm => Sys2Proof.Machine.execOri ts k e rd ra imm s
  | .xori ts k e rd ra imm => Sys2Proof.Machine.execXori ts k e rd ra imm s
  | .shli ts k e rd ra n => Sys2Proof.Machine.execShli ts k e rd ra n s
  | .shri ts k e rd ra n => Sys2Proof.Machine.execShri ts k e rd ra n s
  | .sari ts k e rd ra n => Sys2Proof.Machine.execSari ts k e rd ra n s
  | .cmpi ts k e ra imm => Sys2Proof.Machine.execCmpi ts k e ra imm s
  | .lui ts k e rd imm => Sys2Proof.Machine.execLui ts k e rd imm s
  | .clrf ts k e f => Sys2Proof.Machine.execClrf ts k e f s
  | .ld ts k e d rd ra imm => Sys2Proof.Machine.execLd ts k e d rd ra imm s
  | .st ts k e rd ra imm => Sys2Proof.Machine.execSt ts k e rd ra imm s
  | .ldb ts k e d rd ra imm => Sys2Proof.Machine.execLdb ts k e d rd ra imm s
  | .stb ts k e d rd ra imm => Sys2Proof.Machine.execStb ts k e d rd ra imm s
  | .stamp ts k e ra imm => Sys2Proof.Machine.execStamp ts k e ra imm s
  | .rdr ts k e rd ra imm => Sys2Proof.Machine.execRdr ts k e rd ra imm s
  | .wrr ts k e rd ra imm => Sys2Proof.Machine.execWrr ts k e rd ra imm s
  | .b ts k e c target => Sys2Proof.Machine.execB ts k e c target s
  | .call ts k e target => Sys2Proof.Machine.execCall ts k e target s
  | .ret ts k e => Sys2Proof.Machine.execRet ts k e s
  | .rett ts k e ra => Sys2Proof.Machine.execRett ts k e ra s
  | .halt ts k e => Sys2Proof.Machine.execHalt ts k e s
  | .kick ts k e => Sys2Proof.Machine.execKick ts k e s
  | .sync ts k e => Sys2Proof.Machine.execSync ts k e s
  | .syncEnd ts k => Sys2Proof.Machine.execSyncEnd ts k s
  | .wwake ts k e rd => Sys2Proof.Machine.execWwake ts k e rd s
  | .wwakeEnd ts k => Sys2Proof.Machine.execWwakeEnd ts k s
  | .lock ts k e => Sys2Proof.Machine.execLock ts k e s
  | .mbin ts k e rd => Sys2Proof.Machine.execMbin ts k e rd s
  | .mbout ts k e ra obj => Sys2Proof.Machine.execMbout ts k e ra obj s
  | .tctl ts k e ra obj cmd => Sys2Proof.Machine.execTctl ts k e ra obj cmd s
  | .on ts k e ra obj => Sys2Proof.Machine.execOn ts k e ra obj s
  | .off ts k e ra obj => Sys2Proof.Machine.execOff ts k e ra obj s
  | .foff ts k e ra obj => Sys2Proof.Machine.execFoff ts k e ra obj s
  | .onm ts k e ra obj => Sys2Proof.Machine.execOnm ts k e ra obj s
  | .offm ts k e ra obj => Sys2Proof.Machine.execOffm ts k e ra obj s
  | .gate ts k e ra obj m seq => Sys2Proof.Machine.execGate ts k e ra obj m seq s
  | .mset ts k e ra rb obj h => Sys2Proof.Machine.execMset ts k e ra rb obj h s
  | .mld ts k e rd ra obj h => Sys2Proof.Machine.execMld ts k e rd ra obj h s
  | .tstm ts k e ra obj => Sys2Proof.Machine.execTstm ts k e ra obj s
  | .wait ts k e ra imm => Sys2Proof.Machine.execWait ts k e ra imm s
  | .waitElapsed ts k => Sys2Proof.Machine.execWaitElapsed ts k s
  | .await ts k e ra rb obj => Sys2Proof.Machine.execAwait ts k e ra rb obj s
  | .awaitEnd ts k => Sys2Proof.Machine.execAwaitEnd ts k s
  | .woff ts k e ra rb obj => Sys2Proof.Machine.execWoff ts k e ra rb obj s
  | .woffEnd ts k => Sys2Proof.Machine.execWoffEnd ts k s
  | .wang ts k e ra rb obj => Sys2Proof.Machine.execWang ts k e ra rb obj s
  | .wangEnd ts k => Sys2Proof.Machine.execWangEnd ts k s
  | .waitTimeout ts k => Sys2Proof.Machine.execWaitTimeout ts k s
  | .spend ts k e ra rb obj hold => Sys2Proof.Machine.execSpend ts k e ra rb obj hold s
  | .reserve ts k e rd ra rb obj => Sys2Proof.Machine.execReserve ts k e rd ra rb obj s
  | .release ts k e ra obj => Sys2Proof.Machine.execRelease ts k e ra obj s
  | .note ts k e ra rb code => Sys2Proof.Machine.execNote ts k e ra rb code s
  | .noteStallResume ts k => Sys2Proof.Machine.execNoteStallResume ts k s
  | .fault ts k e ra rb code => Sys2Proof.Machine.execFault ts k e ra rb code s
  | .dfault ts k e ra rb code => Sys2Proof.Machine.execDfault ts k e ra rb code s
  | .probe ts k e rd ra obj cls => Sys2Proof.Machine.execProbe ts k e rd ra obj cls s
  | .capt ts k e ra obj => Sys2Proof.Machine.execCapt ts k e ra obj s
  | .inj ts k e rd ra obj ch => Sys2Proof.Machine.execInj ts k e rd ra obj ch s
  | .cal ts k e ra obj => Sys2Proof.Machine.execCal ts k e ra obj s
  | .arch ts k e ra obj => Sys2Proof.Machine.execArch ts k e ra obj s
  | .mode ts k e m => Sys2Proof.Machine.execMode ts k e m s
  | .mrgn ts k e ra rb obj => Sys2Proof.Machine.execMrgn ts k e ra rb obj s
  | .watchdog ts k => Sys2Proof.Machine.execWatchdog ts k s
  | .queueStallResume ts k => Sys2Proof.Machine.execQueueStallResume ts k s
  | .tellerHalt ts wr k => Sys2Proof.Machine.execTellerHalt ts wr k s
  | .tellerResume ts wr k => Sys2Proof.Machine.execTellerResume ts wr k s
  | .tellerRestart ts wr k => Sys2Proof.Machine.execTellerRestart ts wr k s
  | .tellerStep ts wr k => Sys2Proof.Machine.execTellerStep ts wr k s
  | .lockKey ts wr => Sys2Proof.Machine.execLockKey ts wr s
  | .railCmdOn ts wr n => Sys2Proof.Machine.execRailCmdOn ts wr n s
  | .railCmdOff ts wr n => Sys2Proof.Machine.execRailCmdOff ts wr n s
  | .railCmdFoff ts wr n => Sys2Proof.Machine.execRailCmdFoff ts wr n s
  | .startNormal ts wr => Sys2Proof.Machine.execStartNormal ts wr s
  | .releaseFlt ts wr => Sys2Proof.Machine.execReleaseFlt ts wr s
  | .ownGive ts wr res dst => Sys2Proof.Machine.execOwnGive ts wr res dst s
  | .injectedDwellRequest ts wr c ch => Sys2Proof.Machine.execInjectedDwellRequest ts wr c ch s
  | .burstRequest ts wr c ch => Sys2Proof.Machine.execBurstRequest ts wr c ch s
  | .calibrationRequest ts wr c => Sys2Proof.Machine.execCalibrationRequest ts wr c s
  | .openWireStart ts wr c ch => Sys2Proof.Machine.execOpenWireStart ts wr c ch s
  | .captureArm ts wr c => Sys2Proof.Machine.execCaptureArm ts wr c s
  | .captureDisarm ts wr c => Sys2Proof.Machine.execCaptureDisarm ts wr c s
  | .reinstate ts wr c => Sys2Proof.Machine.execReinstate ts wr c s
  | .archiveGo ts wr m => Sys2Proof.Machine.execArchiveGo ts wr m s
  | .archiveReset ts wr => Sys2Proof.Machine.execArchiveReset ts wr s
  | .statementRequest ts d => Sys2Proof.Machine.execStatementRequest ts d s
  | .statementDrop ts d => Sys2Proof.Machine.execStatementDrop ts d s
  | .padd ts d reg => Sys2Proof.Machine.execPadd ts d reg s
  | .post ts d => Sys2Proof.Machine.execPost ts d s
  | .discard ts d => Sys2Proof.Machine.execDiscard ts d s
  | .substEnd ts wr bits => Sys2Proof.Machine.execSubstEnd ts wr bits s
  | .stampvClear ts wr n => Sys2Proof.Machine.execStampvClear ts wr n s
  | .registerWrite ts wr reg mask val => Sys2Proof.Machine.execRegisterWrite ts wr reg mask val s
  | .rreg ts d f addr count => Sys2Proof.Machine.execRreg ts d f addr count s
  | .wreg ts d f addr vals => Sys2Proof.Machine.execWreg ts d f addr vals s
  | .rwin ts d f addr count ecc => Sys2Proof.Machine.execRwin ts d f addr count ecc s
  | .wwin ts d f addr vals => Sys2Proof.Machine.execWwin ts d f addr vals s
  | .windowWriteDone ts d ecc => Sys2Proof.Machine.execWindowWriteDone ts d ecc s
  | .pstat ts d f => Sys2Proof.Machine.execPstat ts d f s
  | .calKey1 ts d v => Sys2Proof.Machine.execCalKey1 ts d v s
  | .calKey2 ts d v => Sys2Proof.Machine.execCalKey2 ts d v s
  | .calSetTimeout ts => Sys2Proof.Machine.execCalSetTimeout ts s
  | .spiFrameAbandon ts d => Sys2Proof.Machine.execSpiFrameAbandon ts d s
  | .smbusTimeout ts busy => Sys2Proof.Machine.execSmbusTimeout ts busy s
  | .alertResponse ts wins => Sys2Proof.Machine.execAlertResponse ts wins s
  | .canResponseSend ts => Sys2Proof.Machine.execCanResponseSend ts s
  | .eventFrameSend ts => Sys2Proof.Machine.execEventFrameSend ts s
  | .busOffRecovery ts => Sys2Proof.Machine.execBusOffRecovery ts s
  | .schedulerRun ts => Sys2Proof.Machine.execSchedulerRun ts s
  | .purseTimeout ts n => Sys2Proof.Machine.execPurseTimeout ts n s
  | .holdPurseUpdate ts => Sys2Proof.Machine.execHoldPurseUpdate ts s
  | .freshExpire ts => Sys2Proof.Machine.execFreshExpire ts s
  | .thermalReading ts die ntc tsns => Sys2Proof.Machine.execThermalReading ts die ntc tsns s
  | .throttleTrip ts zone level => Sys2Proof.Machine.execThrottleTrip ts zone level s
  | .throttleRelease ts zone level => Sys2Proof.Machine.execThrottleRelease ts zone level s
  | .tableRunStart ts => Sys2Proof.Machine.execTableRunStart ts s
  | .tableStep ts vin28 => Sys2Proof.Machine.execTableStep ts vin28 s
  | .tableStepWaitMet ts => Sys2Proof.Machine.execTableStepWaitMet ts s
  | .tableStuck ts => Sys2Proof.Machine.execTableStuck ts s
  | .tableCrcCheck ts bad => Sys2Proof.Machine.execTableCrcCheck ts bad s
  | .externalAssertion ts low => Sys2Proof.Machine.execExternalAssertion ts low s
  | .dwellPublish ts c settle codes temp => Sys2Proof.Machine.execDwellPublish ts c settle codes temp s
  | .triggerAccept ts c raw => Sys2Proof.Machine.execTriggerAccept ts c raw s
  | .injectedOperationEnd ts c raw => Sys2Proof.Machine.execInjectedOperationEnd ts c raw s
  | .pendingTriggerServe ts c raw => Sys2Proof.Machine.execPendingTriggerServe ts c raw s
  | .internalDwellServe ts c raw => Sys2Proof.Machine.execInternalDwellServe ts c raw s
  | .calibrationBegin ts c raw => Sys2Proof.Machine.execCalibrationBegin ts c raw s
  | .calibrationEnd ts c fs temp => Sys2Proof.Machine.execCalibrationEnd ts c fs temp s
  | .plausibilityDwell ts c => Sys2Proof.Machine.execPlausibilityDwell ts c s
  | .openWireSettle ts c => Sys2Proof.Machine.execOpenWireSettle ts c s
  | .openWireEnd ts c => Sys2Proof.Machine.execOpenWireEnd ts c s
  | .slowScanTick ts => Sys2Proof.Machine.execSlowScanTick ts s
  | .statsInterval ts => Sys2Proof.Machine.execStatsInterval ts s
  | .comparatorCrossing ts n ov level => Sys2Proof.Machine.execComparatorCrossing ts n ov level s
  | .windowSample ts levels => Sys2Proof.Machine.execWindowSample ts levels s
  | .windowTestStep ts n shows => Sys2Proof.Machine.execWindowTestStep ts n shows s
  | .tdacRestoreSettled ts c => Sys2Proof.Machine.execTdacRestoreSettled ts c s
  | .fbmonSample ts n fb => Sys2Proof.Machine.execFbmonSample ts n fb s
  | .phaseMonitorSample ts codes => Sys2Proof.Machine.execPhaseMonitorSample ts codes s
  | .onTimeRequest ts n fb amps => Sys2Proof.Machine.execOnTimeRequest ts n fb amps s
  | .onTimeEnd ts p amp => Sys2Proof.Machine.execOnTimeEnd ts p amp s
  | .rampComplete ts n => Sys2Proof.Machine.execRampComplete ts n s
  | .softStopEnd ts n => Sys2Proof.Machine.execSoftStopEnd ts n s
  | .shortSs ts n => Sys2Proof.Machine.execShortSs ts n s
  | .oc ts n => Sys2Proof.Machine.execOc ts n s
  | .stageFlt ts p => Sys2Proof.Machine.execStageFlt ts p s
  | .stageOt ts p => Sys2Proof.Machine.execStageOt ts p s
  | .stageOtw ts p => Sys2Proof.Machine.execStageOtw ts p s
  | .phaseOpen ts p => Sys2Proof.Machine.execPhaseOpen ts p s
  | .isnsFail ts p => Sys2Proof.Machine.execIsnsFail ts p s
  | .tsnsFail ts p => Sys2Proof.Machine.execTsnsFail ts p s
  | .imbal ts n => Sys2Proof.Machine.execImbal ts n s
  | .marginDacStep ts m => Sys2Proof.Machine.execMarginDacStep ts m s
  | .healthCheckpoint ts => Sys2Proof.Machine.execHealthCheckpoint ts s
  | .healthDayClose ts => Sys2Proof.Machine.execHealthDayClose ts s
  | .firstFaultCommit ts => Sys2Proof.Machine.execFirstFaultCommit ts s
  | .journalWrite ts => Sys2Proof.Machine.execJournalWrite ts s
  | .scrubRead ts e => Sys2Proof.Machine.execScrubRead ts e s
  | .ramScrub ts corrected ibad dbad => Sys2Proof.Machine.execRamScrub ts corrected ibad dbad s
  | .archiveCommitEnd ts => Sys2Proof.Machine.execArchiveCommitEnd ts s
  | .probeStart ts path => Sys2Proof.Machine.execProbeStart ts path s
  | .probeEnd ts path bad found => Sys2Proof.Machine.execProbeEnd ts path bad found s
  | .vaultClockWindow ts count => Sys2Proof.Machine.execVaultClockWindow ts count s
  | .clockXchk ts => Sys2Proof.Machine.execClockXchk ts s
  | .mainStop ts unlock => Sys2Proof.Machine.execMainStop ts unlock s
  | .vcoreFail ts above => Sys2Proof.Machine.execVcoreFail ts above s
  | .vvltFail ts above => Sys2Proof.Machine.execVvltFail ts above s
  | .refCompare ts dev => Sys2Proof.Machine.execRefCompare ts dev s
  | .refXchk ts => Sys2Proof.Machine.execRefXchk ts s
  | .gradient ts => Sys2Proof.Machine.execGradient ts s
  | .outMismatch ts code => Sys2Proof.Machine.execOutMismatch ts code s
  | .latentTestStart ts k => Sys2Proof.Machine.execLatentTestStart ts k s
  | .latentFltPulse ts low => Sys2Proof.Machine.execLatentFltPulse ts low s
  | .latentLate ts k => Sys2Proof.Machine.execLatentLate ts k s
  | .powerEntryMonitorSample ts vin hold vsup => Sys2Proof.Machine.execPowerEntryMonitorSample ts vin hold vsup s
  | .chargerModeChange ts => Sys2Proof.Machine.execChargerModeChange ts s
  | .vsupRecover ts => Sys2Proof.Machine.execVsupRecover ts s
  | .vdd1v8OutOfWindow ts ok torn => Sys2Proof.Machine.execVdd1v8OutOfWindow ts ok torn s
  | .demZeroCurrent ts p => Sys2Proof.Machine.execDemZeroCurrent ts p s
  | .tapInstruction ts code cells levels => Sys2Proof.Machine.execTapInstruction ts code cells levels s
  | .testLogicReset ts => Sys2Proof.Machine.execTestLogicReset ts s
  | .ignoredCanFrame ts counted => Sys2Proof.Machine.execIgnoredCanFrame ts counted s
  | .errorFrame ts transmits heavy => Sys2Proof.Machine.execErrorFrame ts transmits heavy s
  | .canBusIntegration ts => Sys2Proof.Machine.execCanBusIntegration ts s
  | .doorCStrayRead ts => Sys2Proof.Machine.execDoorCStrayRead ts s

end Sys2Proof.Machine
end

