-- ==== Sys2Proof/WellFormed.lean ====
section
/-! DEFINITION. Which commands are well formed: operands that no type bounds keep within what the device can meet. The
meanings are total all the same; a command that is not well formed stands for no event. -/

namespace Sys2Proof

open Sys2Proof.Machine

/-- 14-bit codes (R371). -/
def codesOk (l : List Nat) : Bool := l.all (fun c => decide (c < 16384))

/-- 12-bit codes (R466). -/
def monitorCodesOk (l : List Nat) : Bool := l.all (fun c => decide (c < 4096))

/-- A failure of the start-up self-test as the table of 15 gives it: test, object, part. -/
def selfFailOk (f : Fin 4 × Nat × Nat) : Bool :=
  match f.1 with
  | 0 => decide (f.2.1 < 48) && decide (f.2.2 % 16 ≤ 1) && decide (1 ≤ f.2.2 / 16) && decide (f.2.2 / 16 ≤ 4)
  | 1 => decide (f.2.1 < 6) && decide (1 ≤ f.2.2) && decide (f.2.2 ≤ 5)
  | 2 => decide (f.2.1 = 0) && decide (f.2.2 = 1)
  | 3 => decide (f.2.1 < 0x4000000) && decide (f.2.1 % 8 = 0) && decide (f.2.2 = 1)

/-- R566: a code that names an output pin. -/
def pinCodeOk (c : Nat) : Bool :=
  (decide (8 ≤ c) && decide (c < 48)) || (decide (0x40 ≤ c) && decide (c ≤ 0x49)) || (decide (0x50 ≤ c) && decide (c < 0x68))

/-- R547: a path that a probe can test. -/
def pathOk : Path → Bool
  | .iword a => decide (a < 65536)
  | .dword a => decide (a < 16384)
  | .lword a => decide (a < 0x4000000) && decide (a % 8 = 0)
  | .monitor t => t == 0x0109 || t == 0x0A12 || t == 0x0A13
  | .pin c => pinCodeOk c
  | .selftest t o => decide (t < 4) && (if t = 0 then decide (o < 48) else if t = 1 then decide (o < 6) else true)
  | _ => true

/-- A WREG or WWIN carries at most 255 words: COUNT is a byte (R616). -/
def countOk (l : List Word) : Bool := decide (l.length < 256)

/-- R620: an opcode other than the command's is one that no command has; R630, R636: an address of 7 bits on door C. -/
def frameOk (d : Fin 4) (f : Frame) : Bool :=
  f.op.all (fun (o : BitVec 6) => decide (o.toNat = 0) || decide (5 < o.toNat)) &&
    f.dest.all (fun (i : BitVec 11) => decide (d ≠ 2) || decide (i.toNat < 128))

/-- R371, R384: what a converter probe publishes: a result of 20 bits. -/
def diagOk (l : List (Fin 6 × Fin 3 × Nat)) : Bool := l.all (fun x => decide (x.2.2 < 2 ^ 20))

/-- The well-formedness of a command. -/
def Instr.wf : Instr → Bool
  | .startUpSelftest _ fails _ _ diag => fails.all selfFailOk && diagOk diag
  | .rreg _ d f _ _ => frameOk d f
  | .wreg _ d f _ vals => frameOk d f && countOk vals
  | .wwin _ d f _ vals => frameOk d f && countOk vals
  | .rwin _ d f _ count ecc => frameOk d f && decide (ecc.length ≤ count.toNat)
  | .windowWriteDone _ _ ecc => decide (ecc.length ≤ 2)
  | .pstat _ d f => frameOk d f
  | .thermalReading _ die ntc tsns => decide (die.length = 4) && decide (ntc.length = 4) && decide (tsns.length = 24)
  | .onTimeRequest _ _ _ amps => decide (amps.length = 24)
  | .windowSample _ levels => decide (levels.length = 48)
  | .dwellPublish _ _ settle codes _ => codesOk settle && codesOk codes
  | .triggerAccept _ _ raw => codesOk raw
  | .injectedOperationEnd _ _ raw => codesOk raw
  | .pendingTriggerServe _ _ raw => codesOk raw
  | .internalDwellServe _ _ raw => codesOk raw
  | .calibrationBegin _ _ raw => codesOk raw
  | .calibrationEnd _ _ fs _ => decide (fs.length = 16)
  | .phaseMonitorSample _ codes => decide (codes.length = 24) && monitorCodesOk codes
  | .ramScrub _ _ ibad dbad => ibad.all (fun a => decide (a < 65536)) && dbad.all (fun a => decide (a < 16384))
  | .probeStart _ path => pathOk path
  | .probeEnd _ path _ _ => pathOk path
  | .outMismatch _ code => pinCodeOk code
  | _ => true

end Sys2Proof
end

