-- ==== Sys2Proof/Machine/Pins.lean ====
section
/-! DEFINITION. The levels of the output pins (20, R681; 04, 09, 12, 13): each is a function of the state. -/

namespace Sys2Proof.Machine

/-- What an output pin does: high-impedance, driven low, driven high, the mid-level of a PWM pin, a gate held off, a gate
driven. -/
inductive Pin where
  | z | low | high | mid | off | on
deriving DecidableEq, Repr

/-- R681: the device drives its EN, PWM, RSTO, MD and SEQ_OUT pins: RUN, HOLD-UP or WATCH, and VSUP at 11.0 V or
above. -/
def Dev.drives (s : Dev) : Bool := s.live && !s.pwr.vsupLow

/-- R157: an EN pin at its active or inactive level: ENPOL = 1 is active high; open-drain leaves the high level to the
board. -/
def enLevel (active pol openDrain : Bool) : Pin :=
  if active == pol then (if openDrain then .z else .high) else .low

/-- R689, R690: the test access port has the pins, with VSUP at 11.0 V or above. -/
def Dev.tapDrives (s : Dev) : Bool := !s.pwr.vsupLow && s.tapTakes

/-- R690: a pin with a data cell `c` and its enable cell above it, in EXTEST: enable 0 leaves it Z, and an open-drain ball
releases for data 1. HIGHZ leaves every pin Z. -/
def Dev.cellPin (s : Dev) (c : Nat) (openDrain : Bool) : Pin :=
  if s.tapActive = 2 ∨ s.tapCells.getLsbD (c + 1) = false then .z
  else if s.tapCells.getLsbD c then (if openDrain then .z else .high) else .low

/-- R675, R690: the data cell of each output: the balls in order from A1 to Y20, each with its cells, from TDO on. -/
def pwmCell (p : Fin 24) : Nat := 2 * p.val
def rstoCell (k : Fin 8) : Nat := 48 + 2 * k.val
def seqOutCell : Nat := 66
def enCell (n : Fin 48) : Nat := 69 + 2 * (n.val - 8)
def alertCell (d : Fin 4) : Nat := if d = 0 then 203 else if d = 1 then 219 else 227
def sioCell (d : Fin 2) (i : Fin 4) : Nat := 192 + 16 * d.val + 3 * i.val
def sclCell : Nat := 222
def sdaCell : Nat := 225
def canTxCell : Nat := 232

/-- ENnn (R157, R681, R690); rails L00 to L07 have none. -/
def Dev.enPin (s : Dev) (n : Fin 48) : Pin :=
  if s.tapDrives && !isCtl n then s.cellPin (enCell n) false
  else if isCtl n || !s.drives || !s.flag (F.RAIL_CFG_CLAIM n) then .z
  else enLevel ((s.rail n).out == .on) (s.flag (F.RAIL_CFG_ENPOL n)) (s.flag (F.RAIL_CFG_ENMODE n))

/-- The low side of a phase that drives: high in an on-time, mid-level after a zero crossing, else low (R455, R460,
R465). -/
def Ph.level (x : Ph) : Pin := if x.onAt.isSome then .high else if x.mid then .mid else .low

/-- PWMpp (R449, R461, R462, R681, R690): with the OV live output shown there is no high. -/
def Dev.pwmPin (s : Dev) (p : Fin 24) : Pin :=
  if s.tapDrives then s.cellPin (pwmCell p) false
  else if !s.drives then .z
  else
    match s.drive p with
    | 0 => .z
    | 1 => .mid
    | 2 => (s.ph p).level
    | _ => if (s.ph p).dmid then .mid else .low

/-- RSTOk (R160-R163, R681, R690): active low; push-pull with DRIVE = 1. -/
def Dev.rstoPin (s : Dev) (k : Fin 8) : Pin :=
  if s.tapDrives then s.cellPin (rstoCell k) (!s.flag (F.RSTO_CFG_DRIVE k))
  else if !s.drives || !s.flag (F.RSTO_CFG_CLAIM k) then .z
  else if (s.get F.RSTO_STATUS_ASSERTED).testBit k then .low
  else if s.flag (F.RSTO_CFG_DRIVE k) then .high
  else .z

/-- MDm (R483, R491, R681): the code whose multiple of 0.390625 uA the pin sources; none is high-impedance. -/
def Dev.mdPin (s : Dev) (m : Fin 16) : Option Int :=
  if !s.drives || !s.flag (F.MD_CFG_CLAIM m) || s.flag (F.MD_CODE_VAULT m) then none
  else some (signed 10 (s.get (F.MD_CODE_PRESENT m)))

/-- SEQ_OUT (R165, R166, R681, R690). -/
def Dev.seqOutPin (s : Dev) : Pin :=
  if s.tapDrives then s.cellPin seqOutCell true
  else if !s.drives || !s.flag F.CASC_CFG_CLAIM || s.flag F.CASC_STATUS_SEQOUT then .z else .low

/-- FLT_N as this device drives it (R363-R365, R681). -/
def Dev.fltPin (s : Dev) : Pin := if s.pulls then .low else .z

/-- The device powers its gates: from BOOT on, with VSUP at 11.0 V or above (R681). -/
def Dev.gated (s : Dev) : Bool := s.dev != .unpowered && s.dev != .powerHold && !s.pwr.vsupLow

/-- OR_GATE (R63, R64, R66, R681). -/
def Dev.orGatePin (s : Dev) : Pin :=
  if !s.gated then .z else if s.dev == .holdUp && s.flag F.PWR_STATUS_OR_ON then .on else .off

/-- CHG_GATE (R59-R61, R681): `on` stands for switching. -/
def Dev.chgGatePin (s : Dev) : Pin :=
  if !s.gated then .z else if s.dev == .run && (s.chgMay && s.get F.PWR_STATUS_CHG != chgTimeout &&
    s.get F.PWR_STATUS_CHG != chgHoldOv) then .on else .off

/-- A door's alert is active (R609, R612). -/
def Dev.alert (s : Dev) (d : Fin 4) : Bool :=
  s.doorsUp && !s.muted && (s.get (F.DOOR_ACAUSE_CAUSE d) &&& s.get (F.DOOR_AEN_EN d)) != 0

/-- R628: STAT, which SPI door `d` sends on SIOx1 while the command byte of a frame arrives (R626). A frame still being
carried out has not ended. -/
def Dev.statByte (s : Dev) (d : Fin 4) : Byte :=
  let p := s.port d
  let bit (b : Bool) (n : Nat) : Nat := if b then n else 0
  BitVec.ofNat 8 (bit (decide ((s.get (F.DOOR_ACAUSE_CAUSE d) &&& s.get (F.DOOR_AEN_EN d)) ≠ 0)) 128 + s.dev.code % 8 * 16 +
    bit (s.eff == .watch) 8 + bit (p.wwin.isNone && (p.lastRes == resDone || p.lastRes == resEcc)) 4 + bit p.wwin.isSome 2 +
    bit (s.door d).hold 1)

/-- R58, R626-R628, R681: what doors A and B send on SIOx1 as a frame's command byte arrives; nothing while the doors do
not answer or the outputs are high-impedance. -/
def Dev.statSent (s : Dev) (d : Fin 4) : Option Byte :=
  if d.val < 2 ∧ s.doorsUp = true ∧ s.muted = false then some (s.statByte d) else none

/-- ALRT_A, ALRT_B and SMBALERT_C (R609, R610, R612, R681, R690); door D has no such pin. -/
def Dev.alertPin (s : Dev) (d : Fin 4) : Pin :=
  if d = 3 then .z
  else if s.tapDrives then s.cellPin (alertCell d) true
  else if s.alert d && !(d == 2 && s.smbRel) then .low else .z

/-! ### The host interfaces at rest (R627, R681)

Between frames, as between any two commands: what a door sends while a frame arrives is `Dev.statSent`, `Port.sent` and
`Can.sent`. -/

/-- SIOx0 to SIOx3 (R627, R681, R690): not driven while CSx_N is high. -/
def Dev.sioPin (s : Dev) (d : Fin 2) (i : Fin 4) : Pin := if s.tapDrives then s.cellPin (sioCell d i) false else .z

/-- SCL_C (R634, R681, R690): never driven high, and released between transactions. -/
def Dev.sclPin (s : Dev) : Pin := if s.tapDrives then s.cellPin sclCell true else .z

/-- SDA_C (R681, R690): released between transactions. -/
def Dev.sdaPin (s : Dev) : Pin := if s.tapDrives then s.cellPin sdaCell true else .z

/-- CANTX (R623, R644, R681, R690): recessive, which is high, from the instant at which the doors answer. -/
def Dev.canTxPin (s : Dev) : Pin :=
  if s.tapDrives then s.cellPin canTxCell false else if s.doorsUp && !s.pwr.vsupLow then .high else .z

/-- TDO (R681): driven only in the Shift-DR and Shift-IR states, in which no command of the table leaves the port; the bits it
shifts out are `tapIrOut` and `tapOut`. -/
def Dev.tdoPin (_ : Dev) : Pin := .z

end Sys2Proof.Machine
end

