-- ==== Sys2Proof/Safety.lean ====
section
/-! DEFINITION. The words the statements use: the canonical form of the addressed memories, the parts of the device that
a command may change, what a statement about a command says, and a teller's slot. -/

namespace Sys2Proof.Machine

/-! ### Memories -/

/-- Every addressed memory is in canonical form: addresses strictly rising, no entry equal to what an unlisted address
reads as. -/
def State.memWf (s : State) : Bool :=
  swf factoryByte s.ledger && swf (fun _ => 0) s.iram && swf (fun _ => 0) s.dram &&
    (List.finRange 6).all (fun c => swf (fun _ => 0) (s.bufs.get c))

/-- Every address that the ledger lists lies in the array (R500). -/
def State.ledgerIn (s : State) : Bool := s.ledger.all (fun p => decide (p.1 < ledgerSize))

/-! ### Frames -/

/-- The parts of the device: the fields of `Dev`, by name. Part `now` is the instant with what the registers held before it, part
`ledgBad` what the array's words read as with the writes in progress. -/
inductive Part where
  | now | fresh | dev | regs | rails | tellers | owners | doors | vault | usecOn | usec0 | shadowAt | bootno
  | bootnoOk | trims | rev | angle | tal | shutters | cvs | caps | stats | statAt | statLen | cvFast | tickAt
  | jq | jIn | jLost | folio | folioVer | ledgBad | v18ok | scrubAt | afill | wrapCopy | jck | folioDone
  | folioVdone | hday | hsaved | holder | hcopy | copyVer | hClean | calOpen | calKey | calDirty | probes
  | probing | lat | smbRel | evq | evOvf | evDropped | evSent | awake | watchExit | inrushUj | preqs | schedAt
  | holdO | holdE | holdAt | holdShort | heatRes | thUp | thDown | thTrip | thFloors | thHot | thCause | headMw
  | rstoAt | cascAt | seqIn | closeAt | sampled | vaultRails | vaultMargins | scs | phs | mdAt | mgEnd | pwr
  | checks | arch | iramBad | dramBad | ports | can | smbArl | tapIr | tapCells | tapIrOut | tapOut
deriving DecidableEq, Repr

/-- A part reads the same in two devices. -/
def Dev.same (s d : Dev) : Part → Prop
  | .now => d.now = s.now ∧ d.before = s.before | .fresh => d.fresh = s.fresh | .dev => d.dev = s.dev
  | .regs => d.regs = s.regs | .rails => d.rails = s.rails | .tellers => d.tellers = s.tellers
  | .owners => d.owners = s.owners | .doors => d.doors = s.doors | .vault => d.vault = s.vault
  | .usecOn => d.usecOn = s.usecOn | .usec0 => d.usec0 = s.usec0 | .shadowAt => d.shadowAt = s.shadowAt
  | .bootno => d.bootno = s.bootno | .bootnoOk => d.bootnoOk = s.bootnoOk | .trims => d.trims = s.trims
  | .rev => d.rev = s.rev | .angle => d.angle = s.angle | .tal => d.tal = s.tal
  | .shutters => d.shutters = s.shutters | .cvs => d.cvs = s.cvs | .caps => d.caps = s.caps
  | .stats => d.stats = s.stats | .statAt => d.statAt = s.statAt | .statLen => d.statLen = s.statLen
  | .cvFast => d.cvFast = s.cvFast | .tickAt => d.tickAt = s.tickAt | .jq => d.jq = s.jq
  | .jIn => d.jIn = s.jIn | .jLost => d.jLost = s.jLost | .folio => d.folio = s.folio
  | .folioVer => d.folioVer = s.folioVer | .ledgBad => d.ledgBad = s.ledgBad ∧ d.recent = s.recent
  | .v18ok => d.v18ok = s.v18ok | .scrubAt => d.scrubAt = s.scrubAt | .afill => d.afill = s.afill
  | .wrapCopy => d.wrapCopy = s.wrapCopy | .jck => d.jck = s.jck | .folioDone => d.folioDone = s.folioDone
  | .folioVdone => d.folioVdone = s.folioVdone | .hday => d.hday = s.hday | .hsaved => d.hsaved = s.hsaved
  | .holder => d.holder = s.holder | .hcopy => d.hcopy = s.hcopy | .copyVer => d.copyVer = s.copyVer
  | .hClean => d.hClean = s.hClean | .calOpen => d.calOpen = s.calOpen | .calKey => d.calKey = s.calKey
  | .calDirty => d.calDirty = s.calDirty | .probes => d.probes = s.probes | .probing => d.probing = s.probing
  | .lat => d.lat = s.lat | .smbRel => d.smbRel = s.smbRel | .evq => d.evq = s.evq
  | .evOvf => d.evOvf = s.evOvf | .evDropped => d.evDropped = s.evDropped | .evSent => d.evSent = s.evSent
  | .awake => d.awake = s.awake | .watchExit => d.watchExit = s.watchExit
  | .inrushUj => d.inrushUj = s.inrushUj | .preqs => d.preqs = s.preqs | .schedAt => d.schedAt = s.schedAt
  | .holdO => d.holdO = s.holdO | .holdE => d.holdE = s.holdE | .holdAt => d.holdAt = s.holdAt
  | .holdShort => d.holdShort = s.holdShort | .heatRes => d.heatRes = s.heatRes | .thUp => d.thUp = s.thUp
  | .thDown => d.thDown = s.thDown | .thTrip => d.thTrip = s.thTrip | .thFloors => d.thFloors = s.thFloors
  | .thHot => d.thHot = s.thHot | .thCause => d.thCause = s.thCause | .headMw => d.headMw = s.headMw
  | .rstoAt => d.rstoAt = s.rstoAt | .cascAt => d.cascAt = s.cascAt | .seqIn => d.seqIn = s.seqIn
  | .closeAt => d.closeAt = s.closeAt | .sampled => d.sampled = s.sampled
  | .vaultRails => d.vaultRails = s.vaultRails | .vaultMargins => d.vaultMargins = s.vaultMargins
  | .scs => d.scs = s.scs | .phs => d.phs = s.phs | .mdAt => d.mdAt = s.mdAt | .mgEnd => d.mgEnd = s.mgEnd
  | .pwr => d.pwr = s.pwr | .checks => d.checks = s.checks | .arch => d.arch = s.arch
  | .iramBad => d.iramBad = s.iramBad | .dramBad => d.dramBad = s.dramBad | .ports => d.ports = s.ports
  | .can => d.can = s.can | .smbArl => d.smbArl = s.smbArl | .tapIr => d.tapIr = s.tapIr
  | .tapCells => d.tapCells = s.tapCells | .tapIrOut => d.tapIrOut = s.tapIrOut
  | .tapOut => d.tapOut = s.tapOut

/-- From `s` to `d` nothing changes but the parts of the list. -/
def Dev.only (s : Dev) (ps : List Part) (d : Dev) : Prop := ∀ p, p ∉ ps → s.same d p

/-- No register field changes but those of the list (by the place at which State holds them). -/
def Dev.onlyRegs (s : Dev) (fs : List Fld) (d : Dev) : Prop := ∀ g : Fld, g.key ∉ fs.map Fld.key → d.get g = s.get g

/-! ### What a command does -/

/-- A command answers a next state in which `P` holds of the device, and it leaves the queue of waiting commands and the
addressed memories as they were. -/
def Gives (c : Instr) (s : State) (P : Dev → Prop) : Prop :=
  ∃ d : Dev, exec c s = .next { s with core := d } ∧ P d

/-- The instant of a command given as `ts`: time never runs backwards (log entry 1). -/
def State.at (s : State) (ts : Nat) : Nat := max s.core.now ts

/-- The parts that the declaration of an error can change (R544): its record, the folio, the alert causes, the entry to
the table, the probe and its verdict. -/
abbrev errorParts : List Part :=
  [.probing, .probes, .folioVer, .fresh, .jq, .jIn, .jLost, .regs, .smbRel, .evq, .evOvf, .evDropped, .folio, .lat, .tellers,
    .awake, .tal, .watchExit, .vault, .calOpen]

/-- The journal's queue takes the next record of the device (R525). -/
def Dev.takesRecord (s : Dev) : Bool := s.jLost == 0 && decide (s.jq.length < 128)

/-- From `s` to `d` a record has entered the journal's queue, where the queue takes one. -/
def Dev.records (s : Dev) (typ obj : Nat) (arg0 arg1 : Word) (d : Dev) : Prop :=
  s.takesRecord = true → ∃ r : JRec, (s.jIn, r) ∈ d.jq ∧ r.typ = typ ∧ r.obj = obj ∧ r.arg0 = arg0 ∧ r.arg1 = arg1

/-- From `s` to `d` the error recorded at once has the verdict INCONCLUSIVE, in the record after its own (R547, R548). -/
def Dev.inconclusive (s : Dev) (typ obj : Nat) (d : Dev) : Prop :=
  s.jLost = 0 → s.jq.length < 127 → ∃ r : JRec, (s.jIn + 1, r) ∈ d.jq ∧ r.typ = 0x0A01 ∧ r.obj = obj ∧ r.slotOf = some s.jIn ∧
    r.arg1 = BitVec.ofNat 32 (3 + typ * 65536)

/-- The vault takes an entry to the shutdown table: its table is loaded and idle (R357, R359, R362, R562). -/
def Dev.tableFree (s : Dev) : Bool :=
  s.vault.loaded && s.vault.run.isNone && s.vault.pend.isNone && !s.flag F.SAFE_STATUS_VAULTLOST

/-- From `s` to `d` the entry has been accepted at the instant `t`, where the vault takes one. -/
def Dev.enters (s : Dev) (e : Entry) (cause t : Nat) (d : Dev) : Prop :=
  s.tableFree = true → d.vault.pend = some ⟨e, cause, t, false⟩

/-- A cause bit stands at every door (R608). -/
def Dev.alerts (d : Dev) (bit : Nat) : Prop := ∀ x : Fin 4, (d.get (F.DOOR_ACAUSE_CAUSE x)).testBit bit = true

/-- The command is refused to door `x`: DOOR.WRES names the register and the reason and counts, the REFUSED cause (bit 3)
rises, and nothing else changes (R586, R605). -/
def Refuses (c : Instr) (s : State) (x : Fin 4) (reg why : Nat) : Prop := Gives c s (fun d =>
  d.get (F.DOOR_WRES_REG x) = reg ∧ d.get (F.DOOR_WRES_REASON x) = why ∧
    d.get (F.DOOR_WRES_COUNT x) = min (2 ^ (F.DOOR_WRES_COUNT x).w - 1) (s.core.get (F.DOOR_WRES_COUNT x) + 1) ∧
    (d.get (F.DOOR_ACAUSE_CAUSE x)).testBit 3 = true ∧ s.core.only [.now, .regs, .smbRel, .evq, .evOvf, .evDropped] d ∧
    s.core.onlyRegs [F.DOOR_WRES_REG x, F.DOOR_WRES_REASON x, F.DOOR_WRES_COUNT x, F.DOOR_ACAUSE_CAUSE x] d)

/-- No write of the array is in progress at this instant, of the device, a door or a commit. -/
def Dev.still (s : Dev) (t : Nat) : Bool :=
  s.recent.all (fun r => decide (r.words ≤ r.done t)) && s.arch.isNone && (List.finRange 4).all (fun x => (s.port x).wwin.isNone)

/-- A door's write or a commit is under way at the word `w`. -/
def State.awaits (s : State) (w : Nat) : Prop :=
  (∃ x f a vs, (s.core.port x).wwin = some (f, a, vs) ∧ w ∈ blockWords (s.core.originBlocks a vs.length ++ [hostBlock a vs])) ∨
    ∃ a, s.core.arch = some a ∧ w ∈ blockWords (s.archBlocks a) ++ arrayWords (copyArea 2).1 32

/-- From `s` to `d` the array's words stay as readable as they were, but for the word in progress at the instant `t` that the cut
leaves uncorrectable, where `torn` names it (R504, R506), and a word whose writing anew was undone. The copies of an open day, written as operation ends,
read again. -/
def State.tearsTo (s : State) (t : Nat) (torn : Option Nat) (d : Dev) : Prop :=
  (∀ w ∈ s.core.ledgBad, w ∈ d.ledgBad ∨ s.core.hday.isSome = true ∨ s.awaits w) ∧
  (∀ w ∈ d.ledgBad, w ∈ s.core.ledgBad ∨ (∃ r ∈ s.core.recent, w ∈ r.bad) ∨
    torn.map (fun a => a / 8 * 8) = some w ∧ ((∃ r ∈ s.core.recent, r.busy t = some w) ∨ s.awaits w)) ∧
  (∀ r ∈ s.core.recent, ∀ w, r.busy t = some w → torn.map (fun a => a / 8 * 8) = some w → s.core.hday = none →
    (∀ q ∈ s.core.recent, q = r ∨ q.busy t = none) → s.core.arch = none → (∀ x, (s.core.port x).wwin = none) → w ∈ d.ledgBad)

/-- From `s` to `u` the ledger as a supply that fails at the instant `t` leaves it, where neither a door's write nor a commit is under
way (R504, R506, R511): of one write in progress the words before its present one stand, those after it are as they were. -/
def State.cuts (s : State) (t : Nat) (u : State) : Prop :=
  s.core.arch = none → (∀ x, (s.core.port x).wwin = none) →
    (s.core.recent = [] → u.ledger = s.ledger) ∧
    ∀ r, s.core.recent = [r] → r.old.length ≤ r.len → ∀ a,
      (a < r.addr ∨ r.addr + r.old.length ≤ a ∨ a / 8 < r.addr / 8 + r.done t →
        sget factoryByte u.ledger a = sget factoryByte s.ledger a) ∧
      (r.addr ≤ a → a < r.addr + r.old.length → r.addr / 8 + r.done t < a / 8 →
        sget factoryByte u.ledger a = r.old.getD (a - r.addr) 0)

/-- The device begins a state without what its main region held (R22): the parts outside the list stand as after reset. A main
region that VCORE_FAIL holds in reset stays held until the device is UNPOWERED (R561). -/
def State.begins (s : State) (ts : Nat) (w : DevState) (torn : Option Nat) (regs : List Fld) (d : Dev) : Prop :=
  let held : Bool := s.core.vault.coreLost && w != .unpowered
  d.dev = w ∧ d.now = s.at ts ∧ d.pwr = { vsupLow := s.core.pwr.vsupLow } ∧
    d.vault = { lineLow := s.core.vault.lineLow, coreLost := held, mainHeld := held } ∧
    s.tearsTo (s.at ts) torn d ∧ d.recent = [] ∧ d.v18ok = s.core.v18ok ∧
    (s.core.still (s.at ts) = true → d.afill = s.core.afill ∧ d.jck = s.core.jck) ∧ Dev.reset.onlyRegs regs d ∧
    Dev.reset.only [.now, .fresh, .dev, .regs, .ledgBad, .v18ok, .scrubAt, .afill, .jck, .hsaved, .holder, .hcopy, .copyVer, .hClean,
      .vault, .pwr] d

/-! ### A teller's slot -/

/-- Teller k issues in a slot (in WATCH the watch teller alone, after a wake event: R37), reads its instruction word without an uncorrectable error, and the word is `w`. -/
def State.ready (s : State) (k : Fin 8) (e : Ecc) (w : Word) : Bool :=
  s.core.live && s.core.mainAlive && (s.core.teller k).st == .running && (s.core.teller k).stall == none &&
    (s.core.eff != .watch || (s.core.awake && s.core.isWatchTeller k)) && e != .uncorrectable && !s.core.iramBad.contains (s.core.teller k).pc.toNat &&
    sget (fun _ => (0 : Word)) s.iram (s.core.teller k).pc.toNat == w

/-- The machine in that slot: time has moved on, and the read of the instruction word is counted (R179). -/
def State.slot (s : State) (ts : Nat) (e : Ecc) : State := (s.advance ts).lift (fun c => c.ramRead e)

/-- The machine after an instruction that leaves teller k as `t` and everything else as it is; a teller under STEP then
halts (R192). -/
def State.done (s : State) (k : Fin 8) (t : Teller) : State := s.lift (fun c => c.setTeller k (t.stepped c.now))

/-- A teller goes on with the next instruction (R233). -/
def Teller.onto (t : Teller) : Teller := { t with pc := t.pc + 1 }

end Sys2Proof.Machine
end

