-- ==== Sys2Proof/Certificates/Slice0/Obligations.lean ====
section
/-! DEFINITION. The statements. -/

open Sys2Proof Sys2Proof.Machine

/-! ### The tellers (05, 06) -/

/-- R223, R205, R233: NOP, ADD, SUB, MUL, CMP, ADDI, CMPI, LUI and CLRF. The whole next state is given: X[RD], the flags
and the PC of the teller, and nothing else changes but time and the count of a corrected fetch. -/
def Obligations.TellerArithmetic : Prop :=
  ∀ (s : State) (ts : Nat) (k : Fin 8) (e : Ecc) (rd ra rb : Fin 16) (imm : BitVec 18) (f : BitVec 5),
    let t := s.core.teller k
    let a := t.xr ra
    let b := t.xr rb
    let i := imm.toInt
    (s.ready k e (wordR 0x01 0 0 0) = true →
      exec (.nop ts k e) s = .next ((s.slot ts e).done k t.onto)) ∧
    (s.ready k e (wordR 0x02 rd ra rb) = true →
      let r : Word := BitVec.ofNat 32 (a.toNat + b.toNat)
      exec (.add ts k e rd ra rb) s = .next ((s.slot ts e).done k
        { (t.xw rd r).onto with
            z := decide (r = 0)
            n := r.getLsbD 31
            c := decide (2 ^ 32 ≤ a.toNat + b.toNat) })) ∧
    (s.ready k e (wordR 0x03 rd ra rb) = true →
      let r : Word := BitVec.ofInt 32 ((a.toNat : Int) - b.toNat)
      exec (.sub ts k e rd ra rb) s = .next ((s.slot ts e).done k
        { (t.xw rd r).onto with
            z := decide (r = 0)
            n := r.getLsbD 31
            c := decide (a.toNat < b.toNat) })) ∧
    (s.ready k e (wordR 0x0A rd ra rb) = true →
      let r : Word := BitVec.ofNat 32 (a.toNat * b.toNat)
      exec (.mul ts k e rd ra rb) s = .next ((s.slot ts e).done k
        { (t.xw rd r).onto with
            z := decide (r = 0)
            n := r.getLsbD 31
            c := decide (2 ^ 32 ≤ a.toNat * b.toNat) })) ∧
    (s.ready k e (wordR 0x0B 0 ra rb) = true →
      exec (.cmp ts k e ra rb) s = .next ((s.slot ts e).done k
        { t.onto with
            z := decide (a = b)
            n := decide (a.toInt < b.toInt)
            c := decide (a.toNat < b.toNat) })) ∧
    (s.ready k e (wordI 0x0C rd ra imm.toNat) = true →
      let r : Word := BitVec.ofInt 32 ((a.toNat : Int) + i)
      exec (.addi ts k e rd ra imm) s = .next ((s.slot ts e).done k
        { (t.xw rd r).onto with
            z := decide (r = 0)
            n := r.getLsbD 31
            c := decide (2 ^ 32 ≤ a.toNat + (BitVec.ofInt 32 i).toNat) })) ∧
    (s.ready k e (wordI 0x13 0 ra imm.toNat) = true →
      exec (.cmpi ts k e ra imm) s = .next ((s.slot ts e).done k
        { t.onto with
            z := decide (a.toInt = i)
            n := decide (a.toInt < i)
            c := decide (a.toNat < (BitVec.ofInt 32 i).toNat) })) ∧
    (s.ready k e (wordI 0x14 rd 0 imm.toNat) = true →
      exec (.lui ts k e rd imm) s = .next ((s.slot ts e).done k
        (t.xw rd (BitVec.ofNat 32 (imm.toNat * 2 ^ 14))).onto)) ∧
    (s.ready k e (wordI 0x15 0 0 f.toNat) = true →
      exec (.clrf ts k e f) s = .next ((s.slot ts e).done k
        { t.onto with
            z := if f.getLsbD 0 then false else t.z
            n := if f.getLsbD 1 then false else t.n
            c := if f.getLsbD 2 then false else t.c
            t := if f.getLsbD 3 then false else t.t
            d := if f.getLsbD 4 then false else t.d }))

/-- R223: AND, OR, XOR, ANDI, ORI and XORI set Z and N alone; the immediate is zero-extended (R209).

R223: the shifts, by X[RB][4:0] or by IMM[4:0]; C is the last bit shifted out and stands for a shift of 0. -/
def Obligations.TellerLogic : Prop :=
  (∀ (s : State) (ts : Nat) (k : Fin 8) (e : Ecc) (rd ra rb : Fin 16) (imm : BitVec 18),
    let t := s.core.teller k
    let a := (t.xr ra).toNat
    let b := (t.xr rb).toNat
    let put (r : Word) : Teller := { (t.xw rd r).onto with
      z := decide (r = 0)
      n := decide (2 ^ 31 ≤ r.toNat) }
    (s.ready k e (wordR 0x04 rd ra rb) = true →
      exec (.and ts k e rd ra rb) s = .next ((s.slot ts e).done k (put (BitVec.ofNat 32 (a &&& b))))) ∧
    (s.ready k e (wordR 0x05 rd ra rb) = true →
      exec (.or ts k e rd ra rb) s = .next ((s.slot ts e).done k (put (BitVec.ofNat 32 (a ||| b))))) ∧
    (s.ready k e (wordR 0x06 rd ra rb) = true →
      exec (.xor ts k e rd ra rb) s = .next ((s.slot ts e).done k (put (BitVec.ofNat 32 (a ^^^ b))))) ∧
    (s.ready k e (wordI 0x0D rd ra imm.toNat) = true →
      exec (.andi ts k e rd ra imm) s = .next ((s.slot ts e).done k (put (BitVec.ofNat 32 (a &&& imm.toNat))))) ∧
    (s.ready k e (wordI 0x0E rd ra imm.toNat) = true →
      exec (.ori ts k e rd ra imm) s = .next ((s.slot ts e).done k (put (BitVec.ofNat 32 (a ||| imm.toNat))))) ∧
    (s.ready k e (wordI 0x0F rd ra imm.toNat) = true →
      exec (.xori ts k e rd ra imm) s = .next ((s.slot ts e).done k (put (BitVec.ofNat 32 (a ^^^ imm.toNat)))))) ∧
  (∀ (s : State) (ts : Nat) (k : Fin 8) (e : Ecc) (rd ra rb : Fin 16) (i : BitVec 5),
    let t := s.core.teller k
    let a := t.xr ra
    let m := (t.xr rb).toNat % 32
    let put (r : Word) (c : Bool) : Teller := { (t.xw rd r).onto with
      z := decide (r = 0)
      n := decide (2 ^ 31 ≤ r.toNat)
      c := c }
    let left (n : Nat) : Teller :=
      put (BitVec.ofNat 32 (a.toNat * 2 ^ n)) (if n = 0 then t.c else a.toNat.testBit (32 - n))
    let right (n : Nat) : Teller :=
      put (BitVec.ofNat 32 (a.toNat / 2 ^ n)) (if n = 0 then t.c else a.toNat.testBit (n - 1))
    let arith (n : Nat) : Teller :=
      put (BitVec.ofInt 32 (a.toInt / 2 ^ n)) (if n = 0 then t.c else a.toNat.testBit (n - 1))
    (s.ready k e (wordR 0x07 rd ra rb) = true →
      exec (.shl ts k e rd ra rb) s = .next ((s.slot ts e).done k (left m))) ∧
    (s.ready k e (wordR 0x08 rd ra rb) = true →
      exec (.shr ts k e rd ra rb) s = .next ((s.slot ts e).done k (right m))) ∧
    (s.ready k e (wordR 0x09 rd ra rb) = true →
      exec (.sar ts k e rd ra rb) s = .next ((s.slot ts e).done k (arith m))) ∧
    (s.ready k e (wordI 0x10 rd ra i.toNat) = true →
      exec (.shli ts k e rd ra i) s = .next ((s.slot ts e).done k (left i.toNat))) ∧
    (s.ready k e (wordI 0x11 rd ra i.toNat) = true →
      exec (.shri ts k e rd ra i) s = .next ((s.slot ts e).done k (right i.toNat))) ∧
    (s.ready k e (wordI 0x12 rd ra i.toNat) = true →
      exec (.sari ts k e rd ra i) s = .next ((s.slot ts e).done k (arith i.toNat))))

/-- R224-R227: the accesses to data RAM at a valid address whose word, where the access reads it, is sound. Words are
little endian (R6); a store changes the bytes at its address and no other byte. That ST and STAMP, which write their words whole, leave
them sound is log entry 15, the model's choice: R505 says so of the ledger only. -/
def Obligations.TellerDataRam : Prop :=
  ∀ (s : State) (ts : Nat) (k : Fin 8) (e d : Ecc) (rd ra : Fin 16) (imm : BitVec 18),
    let t := s.core.teller k
    let p := (t.xr ra + imm.signExtend 32).toInt
    let a := p.toNat
    let read (s : State) (i : Nat) : Nat := (sget (fun _ => (0 : Byte)) s.dram i).toNat
    let sound : Prop := d ≠ .uncorrectable ∧ s.core.dramBad.contains (a / 4) = false
    (s.ready k e (wordI 0x16 rd ra imm.toNat) = true → 0 ≤ p → p ≤ 0xFFFF → a % 4 = 0 → sound →
      exec (.ld ts k e d rd ra imm) s = .next (((s.slot ts e).lift (fun c => c.ramRead d)).done k
        (t.xw rd (BitVec.ofNat 32 (read s a + read s (a + 1) * 2 ^ 8 + read s (a + 2) * 2 ^ 16 + read s (a + 3) * 2 ^ 24))).onto)) ∧
    (s.ready k e (wordI 0x17 rd ra imm.toNat) = true → 0 ≤ p → p ≤ 0xFFFF → a % 4 = 0 →
      ∃ m, exec (.st ts k e rd ra imm) s = .next { ((s.slot ts e).lift (fun c =>
          { c with dramBad := c.dramBad.filter (fun x => x != a / 4) })).done k t.onto with dram := m } ∧
        ∀ i, (sget (fun _ => (0 : Byte)) m i).toNat =
          if a ≤ i ∧ i < a + 4 then (t.xr rd).toNat / 2 ^ (8 * (i - a)) % 256 else read s i) ∧
    (s.ready k e (wordI 0x18 rd ra imm.toNat) = true → 0 ≤ p → p ≤ 0xFFFF → sound →
      exec (.ldb ts k e d rd ra imm) s = .next (((s.slot ts e).lift (fun c => c.ramRead d)).done k
        (t.xw rd (BitVec.ofNat 32 (read s a))).onto)) ∧
    (s.ready k e (wordI 0x19 rd ra imm.toNat) = true → 0 ≤ p → p ≤ 0xFFFF → sound →
      ∃ m, exec (.stb ts k e d rd ra imm) s = .next { ((s.slot ts e).lift (fun c => c.ramRead d)).done k t.onto with dram := m } ∧
        ∀ i, (sget (fun _ => (0 : Byte)) m i).toNat = if i = a then (t.xr rd).toNat % 256 else read s i) ∧
    (s.ready k e (wordI 0x30 0 ra imm.toNat) = true → 0 ≤ p → p + 15 ≤ 0xFFFF → a % 4 = 0 →
      ∃ m b, exec (.stamp ts k e ra imm) s = .next { ((s.slot ts e).lift (fun c =>
          { c with dramBad := b })).done k t.onto with dram := m } ∧
        (∀ w, w ∈ b ↔ w ∈ s.core.dramBad ∧ ¬ (a / 4 ≤ w ∧ w < a / 4 + 4)) ∧
        ∀ i, (sget (fun _ => (0 : Byte)) m i).toNat =
          if a ≤ i ∧ i < a + 16 then (s.slot ts e).core.stamp.bits.toNat / 2 ^ (8 * (i - a)) % 256 else read s i)

/-- R228, R10, R240, R248, R238, R203, R195: RDR, MLD, TSTM, MBIN and KICK read and count in their slot; MBOUT writes
TELLER[k].MBOXOUT and sets the MBOX cause (bit 7) of the door that owns the teller. -/
def Obligations.TellerReads : Prop :=
  ∀ (s : State) (ts : Nat) (k : Fin 8) (e : Ecc) (rd ra : Fin 16) (imm : BitVec 16) (obj : BitVec 6) (h : Bool),
    let t := s.core.teller k
    let u := s.slot ts e
    let m := ((t.xr ra).toNat + obj.toNat) % 2 ^ 32
    let set := u.core.maskSet m
    (s.ready k e (wordI 0x1A rd ra imm.toNat) = true → (t.xr ra).toNat + imm.toNat ≤ 0xFFFF →
      exec (.rdr ts k e rd ra imm) s = .next (u.done k (t.xw rd (u.core.readReg ((t.xr ra).toNat + imm.toNat))).onto)) ∧
    (s.ready k e (wordD 0x2E rd ra 0 obj (if h then 1 else 0)) = true → m ≤ 63 →
      exec (.mld ts k e rd ra obj h) s = .next (u.done k
        (t.xw rd (BitVec.ofNat 32 (if h then set.toNat / 2 ^ 32 else set.toNat))).onto)) ∧
    (s.ready k e (wordD 0x2C 0 ra 0 obj 0) = true → m ≤ 63 →
      exec (.tstm ts k e ra obj) s = .next (u.done k
        { t.onto with
            z := decide (∀ n : Fin 48, set.getLsbD n = true → (s.core.rail n).code = .good)
            n := decide (∃ n : Fin 48, set.getLsbD n = true ∧ ((s.core.rail n).code = .armed ∨
              (s.core.rail n).code = .rising ∨ (s.core.rail n).code = .qualifying))
            c := decide (∃ n : Fin 48, set.getLsbD n = true ∧ (s.core.rail n).code = .faulted) })) ∧
    (s.ready k e (wordD 0x21 rd 0 0 0 0x00) = true →
      exec (.mbin ts k e rd) s = .next (u.done k
        (t.xw rd (BitVec.ofNat 32 (u.core.get (F.TELLER_MBOXIN_MBOXIN k)))).onto)) ∧
    (s.ready k e (wordD 0x20 0 0 0 0 0x01) = true →
      exec (.kick ts k e) s = .next (u.done k
        { t.onto with
            wdogNs := 0
            runAt := s.at ts })) ∧
    (s.ready k e (wordD 0x21 0 ra 0 obj 0x01) = true →
      Gives (.mbout ts k e ra obj) s (fun d =>
        d.get (F.TELLER_MBOXOUT_MBOXOUT k) = m ∧
        d.tellers = (u.done k t.onto).core.tellers ∧
        (∀ x : Fin 4, s.core.owner (BitVec.ofNat 8 (0x38 + k.val)) = .door x →
          (d.get (F.DOOR_ACAUSE_CAUSE x)).testBit 7 = true) ∧
        s.core.only [.now, .regs, .tellers, .smbRel, .evq, .evOvf, .evDropped] d ∧
        s.core.onlyRegs [F.TELLER_MBOXOUT_MBOXOUT k, F.SAFE_RAMECC_CORR, F.DOOR_ACAUSE_CAUSE 0, F.DOOR_ACAUSE_CAUSE 1,
          F.DOOR_ACAUSE_CAUSE 2, F.DOOR_ACAUSE_CAUSE 3] d))

/-- R213, R232-R234: B takes its branch exactly on the condition of its COND field; CALL pushes PC + 1; RET pops; RETT
ends the trap state and leaves the call depth; HALT halts at the next instruction with EXC clear, and what the teller had
asked of the purses is withdrawn (R193). -/
def Obligations.TellerControl : Prop :=
  ∀ (s : State) (ts : Nat) (k : Fin 8) (e : Ecc) (c : Cond) (ra : Fin 16) (target : BitVec 16),
    let t := s.core.teller k
    let u := s.slot ts e
    let taken : Prop := match c with
      | .al => True
      | .eq => t.z = true
      | .ne => t.z = false
      | .lt => t.n = true
      | .ge => t.n = false
      | .le => t.n = true ∨ t.z = true
      | .gt => t.n = false ∧ t.z = false
      | .lo => t.c = true
      | .hs => t.c = false
      | .ls => t.c = true ∨ t.z = true
      | .hi => t.c = false ∧ t.z = false
      | .ts => t.t = true
      | .tc => t.t = false
      | .ds => t.d = true
      | .dc => t.d = false
    (s.ready k e (wordJ 0x1C c.code target) = true → taken →
      exec (.b ts k e c target) s = .next (u.done k { t with pc := target })) ∧
    (s.ready k e (wordJ 0x1C c.code target) = true → ¬ taken →
      exec (.b ts k e c target) s = .next (u.done k t.onto)) ∧
    (s.ready k e (wordJ 0x1D 0 target) = true → t.stack.length < 16 →
      exec (.call ts k e target) s = .next (u.done k
        { t with
            stack := (t.pc + 1) :: t.stack
            pc := target })) ∧
    (∀ p rest, s.ready k e (wordJ 0x1E 0 0) = true → t.stack = p :: rest →
      exec (.ret ts k e) s = .next (u.done k
        { t with
            stack := rest
            pc := p })) ∧
    (s.ready k e (wordR 0x1F 0 ra 0) = true → t.trapped = true →
      exec (.rett ts k e ra) s = .next (u.done k
        { t with
            trapped := false
            pc := BitVec.ofNat 16 (t.xr ra).toNat })) ∧
    (s.ready k e (wordD 0x20 0 0 0 0 0x00) = true →
      exec (.halt ts k e) s = .next ((u.done k
        { t.onto with
            st := .halted
            exc := false
            wait := none
            stall := none
            step := false
            wdogNs := t.wdogNs + (s.at ts - t.runAt) }).lift (fun d =>
          { d with preqs := d.preqs.filter (fun q => q.who != .teller k) })))

/-- R196-R198, R217, R258, R278: an exception of a teller outside its trap handler, with CFG.EXC = 1, sends it to its trap
entry; with CFG.EXC = 0 it halts the teller, and with CFG.EXC = 2 it also is the dangerous fault TELLER_EXC. One inside the handler is a
DOUBLE, which halts the teller whatever EXC says, dangerous too with CFG.EXC = 2. EXCINFO holds the cause and the PC; X, the flags and the
memories stand. Shown for CALL at depth 16, RET at depth 0, RETT outside the handler, an illegal word, a word that does not read, a misaligned
and an out-of-range data address, an uncorrectable data word, a rail number above 47, MODE with m = 3, RELEASE of 0 or above 255.

R195, R197, R199, R217: a RUNNING teller that has counted WDOG milliseconds without waiting or KICK raises WATCHDOG
(cause 7): it goes to its trap entry with EXC = 1 and halts with EXC = 0; in its trap handler it is a DOUBLE (cause 10)
and halts. -/
def Obligations.TellerExceptions : Prop :=
  (∀ (s : State) (ts : Nat) (k : Fin 8) (e d : Ecc) (rd ra : Fin 16) (imm : BitVec 18) (obj : BitVec 6)
      (target : BitVec 16) (v : Word),
    let t := s.core.teller k
    let a := (t.xr ra + imm.signExtend 32).toInt
    let halts (cause : Nat) : Teller := { t with
      cause := cause
      epc := t.pc
      st := .halted
      exc := true
      wait := none
      stall := none
      step := false
      wdogNs := t.wdogNs + (s.at ts - t.runAt) }
    let halted (c : Instr) (cause : Nat) : Prop := Gives c s (fun x => x.teller k = halts cause ∧
      (∀ j, j ≠ k → x.teller j = s.core.teller j) ∧
      s.core.only [.now, .regs, .tellers, .iramBad, .dramBad, .jq, .jIn, .jLost, .fresh, .probes, .probing, .folioVer,
        .smbRel, .evq, .evOvf, .evDropped, .preqs] x)
    let raises (c : Instr) (cause : Nat) : Prop :=
      (t.trapped = false → s.core.get (F.TELLER_CFG_EXC k) = 1 →
        Gives c s (fun x => x.teller k = ({ t with
            cause := cause
            epc := t.pc
            trapped := true
            stack := []
            pc := t.trap
            wdogNs := 0
            runAt := s.at ts } : Teller).stepped (s.at ts) ∧
          (∀ j, j ≠ k → x.teller j = s.core.teller j) ∧
          s.core.only [.now, .regs, .tellers, .iramBad, .dramBad, .jq, .jIn, .jLost, .fresh, .probes, .probing, .folioVer,
            .smbRel, .evq, .evOvf, .evDropped] x)) ∧
      (t.trapped = false → s.core.get (F.TELLER_CFG_EXC k) = 0 → halted c cause) ∧
      (t.trapped = true → s.core.get (F.TELLER_CFG_EXC k) < 2 → halted c 10) ∧
      (s.core.get (F.TELLER_CFG_EXC k) = 2 →
        let n := if t.trapped then 10 else cause
        Gives c s (fun x => (x.teller k).st = .halted ∧ (x.teller k).exc = true ∧ (x.teller k).cause = n ∧ (x.teller k).epc = t.pc ∧
          s.core.records 0x0801 k (BitVec.ofNat 32 (n + t.pc.toNat * 2 ^ 16)) 2 x ∧ s.core.enters .dangerous 0x0801 (s.at ts) x ∧
          x.alerts 4 ∧ s.core.only (.now :: .iramBad :: .dramBad :: .preqs :: errorParts) x))
    (s.ready k e (wordJ 0x1D 0 target) = true → 16 ≤ t.stack.length → raises (.call ts k e target) 5) ∧
    (s.ready k e (wordJ 0x1E 0 0) = true → t.stack = [] → raises (.ret ts k e) 6) ∧
    (s.ready k e (wordR 0x1F 0 ra 0) = true → t.trapped = false → raises (.rett ts k e ra) 1) ∧
    (s.ready k e v = true → legalWord v.toNat = false → raises (.nop ts k e) 1) ∧
    (s.ready k .clean v = true → raises (.nop ts k .uncorrectable) 2) ∧
    (s.ready k e (wordI 0x16 rd ra imm.toNat) = true → 0 ≤ a → a ≤ 0xFFFF → a.toNat % 4 ≠ 0 →
      raises (.ld ts k e d rd ra imm) 4) ∧
    (s.ready k e (wordI 0x17 rd ra imm.toNat) = true → a < 0 ∨ 0xFFFF < a → raises (.st ts k e rd ra imm) 9) ∧
    (s.ready k e (wordI 0x19 rd ra imm.toNat) = true → 0 ≤ a → a ≤ 0xFFFF →
      raises (.stb ts k e .uncorrectable rd ra imm) 3) ∧
    (s.ready k e (wordD 0x24 0 ra 0 obj 0) = true → 48 ≤ ((t.xr ra).toNat + obj.toNat) % 2 ^ 32 →
      raises (.on ts k e ra obj) 9) ∧
    (s.ready k e (wordD 0x33 0 ra 0 obj 0) = true →
      ((t.xr ra).toNat + obj.toNat) % 2 ^ 32 = 0 ∨ 255 < ((t.xr ra).toNat + obj.toNat) % 2 ^ 32 → raises (.release ts k e ra obj) 9) ∧
    (s.ready k e (wordD 0x3B 0 0 0 0 3) = true → raises (.mode ts k e 3) 9)) ∧
  (∀ (s : State) (ts : Nat) (k : Fin 8),
    let t := s.core.teller k
    let halts (cause : Nat) : Teller := { t with
      cause := cause
      epc := t.pc
      st := .halted
      exc := true
      wait := none
      stall := none
      step := false
      wdogNs := t.wdogNs + (s.at ts - t.runAt) }
    let parts : List Part := [.now, .regs, .tellers, .jq, .jIn, .jLost, .fresh, .preqs, .folioVer, .smbRel, .evq, .evOvf, .evDropped]
    s.core.live = true → s.core.mainAlive = true → s.core.eff ≠ .watch ∨ s.core.awake = true → t.st = .running → t.stall = none → 0 < s.core.get (F.TELLER_CFG_WDOG k) →
    s.core.get (F.TELLER_CFG_WDOG k) * 1000000 ≤ t.wdogNs + (s.at ts - t.runAt) →
    (t.trapped = false → s.core.get (F.TELLER_CFG_EXC k) = 1 → Gives (.watchdog ts k) s (fun d =>
      d.teller k = ({ t with
        cause := 7
        epc := t.pc
        trapped := true
        stack := []
        pc := t.trap
        wdogNs := 0
        runAt := s.at ts } : Teller).stepped (s.at ts) ∧
      s.core.records 0x0801 k (BitVec.ofNat 32 (7 + t.pc.toNat * 2 ^ 16)) 1 d ∧
      (∀ j, j ≠ k → d.teller j = s.core.teller j) ∧ s.core.only parts d)) ∧
    (t.trapped = false → s.core.get (F.TELLER_CFG_EXC k) = 0 → Gives (.watchdog ts k) s (fun d =>
      d.teller k = halts 7 ∧ (∀ j, j ≠ k → d.teller j = s.core.teller j) ∧ s.core.only parts d)) ∧
    (t.trapped = true → s.core.get (F.TELLER_CFG_EXC k) = 1 → Gives (.watchdog ts k) s (fun d =>
      d.teller k = halts 10 ∧ (∀ j, j ≠ k → d.teller j = s.core.teller j) ∧ s.core.only parts d)))

/-- R235, R236, R249-R253, R195: a wait instruction takes its teller to WAITING, ends the watchdog's count and leaves the
PC; WAIT lasts X[RA] + IMM microseconds, the others at most X[RB], and without a limit for X[RB] = 0 (R210). After WWAKE
the watch teller of WATCH runs only when a wake event has come (R37). -/
def Obligations.TellerWaits : Prop :=
  ∀ (s : State) (ts : Nat) (k : Fin 8) (e : Ecc) (rd ra rb : Fin 16) (imm : BitVec 18) (obj : BitVec 6),
    let t := s.core.teller k
    let u := s.slot ts e
    let m := ((t.xr ra).toNat + obj.toNat) % 2 ^ 32
    let limit : Option Nat := if t.xr rb = 0 then none else some (s.at ts + (t.xr rb).toNat * 1000)
    let waits (w : Wait) : Teller := { t with
      st := .waiting
      wait := some w
      wdogNs := 0 }
    (s.ready k e (wordD 0x20 0 0 0 0 0x02) = true →
      exec (.sync ts k e) s = .next (u.done k (waits (.sync false)))) ∧
    (s.ready k e (wordD 0x20 rd 0 0 0 0x03) = true →
      exec (.wwake ts k e rd) s = .next ((u.done k (waits (.wwake rd
        (decide (s.core.eff = .watch ∧ s.core.get F.SYS_MODE_WTELLER = k)) false))).lift (fun d =>
          { d with awake := false }))) ∧
    (s.ready k e (wordI 0x23 0 ra imm.toNat) = true →
      exec (.wait ts k e ra imm) s = .next (u.done k
        (waits (.time (s.at ts + ((t.xr ra).toNat + imm.toNat) * 1000))))) ∧
    (∀ h : m < 64, s.ready k e (wordD 0x2A 0 ra rb obj 0) = true →
      exec (.await ts k e ra rb obj) s = .next (u.done k (waits (.await ⟨m, h⟩ limit)))) ∧
    (∀ h : m < 64, s.ready k e (wordD 0x2B 0 ra rb obj 0) = true →
      exec (.woff ts k e ra rb obj) s = .next (u.done k (waits (.woff ⟨m, h⟩ limit)))) ∧
    (∀ h : m < 16, s.ready k e (wordD 0x2F 0 ra rb obj 0) = true →
      exec (.wang ts k e ra rb obj) s = .next (u.done k (waits (.wang ⟨m, h⟩ false limit))))

/-- R210, R211, R215, R235, R236, R249-R253: the ends of waits. The teller runs on at the next instruction; T is cleared
by the condition and set by the timeout, and the condition prevails when both hold; WWAKE writes its causes to X[RD], and in
WATCH its teller has been woken (R37). -/
def Obligations.TellerWaitEnds : Prop :=
  ∀ (s : State) (ts : Nat) (k : Fin 8) (rd : Fin 16) (m : Fin 64) (g : Fin 16) (u : Nat) (l : Option Nat),
    let t := s.core.teller k
    let waits (w : Wait) : Prop := s.core.live = true ∧ s.core.mainAlive = true ∧ t.st = .waiting ∧ t.wait = some w
    let set := s.core.maskSet m
    let good : Prop := ∀ n : Fin 48, set.getLsbD n = true → (s.core.rail n).code = .good
    let idle : Prop := ∀ n : Fin 48, set.getLsbD n = true →
      (s.core.rail n).code = .off ∨ (s.core.rail n).code = .unused
    let on (t : Teller) : Teller := { t.onto with
      st := .running
      wait := none
      runAt := s.at ts }
    let ends (t' : Teller) : Host.Outcome State Fault Refusal := .next ((s.advance ts).done k (on t'))
    (waits (.sync true) → exec (.syncEnd ts k) s = ends { t with t := false }) ∧
    (waits (.wwake rd true false) → t.causes ≠ 0 → exec (.wwakeEnd ts k) s = .next (((s.advance ts).done k (on
        { (t.xw rd (t.causes.setWidth 32)) with
          z := false
          t := false
          causes := 0 })).lift (fun d => { d with awake := true }))) ∧
    (waits (.wwake rd false true) → exec (.wwakeEnd ts k) s = ends { (t.xw rd 0) with
        z := true
        t := false
        causes := 0 }) ∧
    (waits (.time u) → u ≤ s.at ts → exec (.waitElapsed ts k) s = ends { t with t := false }) ∧
    (waits (.await m l) → good → exec (.awaitEnd ts k) s = ends { t with t := false }) ∧
    (waits (.woff m l) → idle → exec (.woffEnd ts k) s = ends { t with t := false }) ∧
    (waits (.wang g true l) → exec (.wangEnd ts k) s = ends { t with t := false }) ∧
    (waits (.await m (some u)) → u ≤ s.at ts → ¬ good → exec (.waitTimeout ts k) s = ends { t with t := true }) ∧
    (waits (.await m (some u)) → u ≤ s.at ts → good → exec (.waitTimeout ts k) s = ends { t with t := false }) ∧
    (waits (.woff m (some u)) → u ≤ s.at ts → ¬ idle → exec (.waitTimeout ts k) s = ends { t with t := true }) ∧
    (waits (.wang g false (some u)) → u ≤ s.at ts → exec (.waitTimeout ts k) s = ends { t with t := true })

/-- R183, R222: the queuing instructions, where the operand is in range, the program owns the target and the teller's
queue has a free entry: the request enters the queue with the operands of issue and the instruction's PC, and the teller
goes on. -/
def Obligations.TellerQueues : Prop :=
  ∀ (s : State) (ts : Nat) (k : Fin 8) (e : Ecc) (rd ra rb : Fin 16) (obj m6 : BitVec 6) (cmd : BitVec 3) (md : BitVec 2)
      (h sq : Bool) (imm : BitVec 16),
    let t := s.core.teller k
    let u := s.slot ts e
    let a := ((t.xr ra).toNat + obj.toNat) % 2 ^ 32
    let owns (r : Nat) : Prop := s.core.owner (BitVec.ofNat 8 r) = .program
    let queues (b : TReqBody) : Host.Outcome State Fault Refusal :=
      .next (u.done k { t.onto with queue := t.queue ++ [⟨t.pc, b⟩] })
    let set := u.core.maskSet a
    let gate := u.core.maskSet m6.toNat
    t.queue.length < 64 →
    (s.ready k e (wordD 0x20 0 0 0 0 0x04) = true → exec (.lock ts k e) s = queues .lock) ∧
    (s.ready k e (wordD 0x22 0 ra 0 obj cmd.toNat) = true → a < 8 → 1 ≤ cmd.toNat → cmd.toNat ≤ 4 → owns (0x38 + a) →
      exec (.tctl ts k e ra obj cmd) s = queues (.writes [⟨0x1801 + 64 * a, 7, cmd.setWidth 32⟩] false)) ∧
    (∀ r : a < 48, owns a →
      (s.ready k e (wordD 0x24 0 ra 0 obj 0) = true → exec (.on ts k e ra obj) s = queues (.rail ⟨a, r⟩ .on)) ∧
      (s.ready k e (wordD 0x25 0 ra 0 obj 0) = true → exec (.off ts k e ra obj) s = queues (.rail ⟨a, r⟩ .off)) ∧
      (s.ready k e (wordD 0x26 0 ra 0 obj 0) = true → exec (.foff ts k e ra obj) s = queues (.rail ⟨a, r⟩ .foff)) ∧
      (s.ready k e (wordD 0x29 0 ra 0 obj (m6.toNat + if sq then 64 else 0)) = true →
        exec (.gate ts k e ra obj m6 sq) s = queues (.writes
          [⟨0x404 + 64 * a, 0xFFFFFFFF#32, BitVec.ofNat 32 gate.toNat⟩,
            ⟨0x405 + 64 * a, 0xFFFF#32, BitVec.ofNat 32 (gate.toNat / 2 ^ 32)⟩,
            ⟨0x400 + 64 * a, 0x100#32, if sq then 0x100#32 else 0⟩] true)) ∧
      (s.ready k e (wordD 0x3C 0 ra rb obj 0) = true → a < 8 → -150 ≤ (t.xr rb).toInt → (t.xr rb).toInt ≤ 150 →
        exec (.mrgn ts k e ra rb obj) s = queues (.margin ⟨a, r⟩ ((t.xr rb).setWidth 10))) ∧
      (s.ready k e (wordD 0x3C 0 ra rb obj 0) = true → 8 ≤ a → -512 ≤ (t.xr rb).toInt → (t.xr rb).toInt ≤ 511 →
        exec (.mrgn ts k e ra rb obj) s = queues (.margin ⟨a, r⟩ ((t.xr rb).setWidth 10)))) ∧
    (a < 64 → set ≠ 0 → (∀ n : Fin 48, set.getLsbD n = true → owns n) →
      (s.ready k e (wordD 0x27 0 ra 0 obj 0) = true → exec (.onm ts k e ra obj) s = queues (.rails set true)) ∧
      (s.ready k e (wordD 0x28 0 ra 0 obj 0) = true → exec (.offm ts k e ra obj) s = queues (.rails set false))) ∧
    (s.ready k e (wordD 0x2D 0 ra rb obj (if h then 1 else 0)) = true → a < 64 → owns 0x7E →
      exec (.mset ts k e ra rb obj h) s = queues (.writes [if h then ⟨0x2001 + 2 * a, 0xFFFF#32, t.xr rb &&& 0xFFFF#32⟩
        else ⟨0x2000 + 2 * a, 0xFFFFFFFF#32, t.xr rb⟩] true)) ∧
    (s.ready k e (wordD 0x3B 0 0 0 0 md.toNat) = true → md ≠ 3 → owns 0x7B →
      exec (.mode ts k e md) s = queues (.writes [⟨0x0005, 3, md.setWidth 32⟩] false)) ∧
    (s.ready k e (wordI 0x1B rd ra imm.toNat) = true →
      let n := (t.xr ra).toNat + imm.toNat
      let x := u.core.writeAt (.teller k) t.pc ⟨n, 0xFFFFFFFF#32, t.xr rd⟩
      (n ≤ 0xFFFF → n ≠ 0x00C0 → writables n ≠ [] → x.stated = true → u.core.voffOver x = false → n ≠ 0x1D05 →
        (∃ r, u.core.resource n = some r ∧ s.core.owner r = .program) →
        exec (.wrr ts k e rd ra imm) s = queues (wrrBody n (t.xr rd))) ∧
      (n ≤ 0xFFFF → n ≠ 0x00C0 → writables n = [] → exec (.wrr ts k e rd ra imm) s = .next (u.done k t.onto)) ∧
      (n = 0x00C0 → (t.xr rd).toNat % 256 < 0x46 → x.stated = true → owns ((t.xr rd).toNat % 256) →
        exec (.wrr ts k e rd ra imm) s = queues (.give (t.xr rd))))

/-- R218, R189: an ownership check that fails with STRICT = 0 denies the instruction: nothing is queued, asked or begun, D
is set, LASTREF holds NOT_OWNER (0x02) and the PC, a result register becomes 0, and the teller goes on. -/
def Obligations.TellerDenied : Prop :=
  ∀ (s : State) (ts : Nat) (k : Fin 8) (e : Ecc) (rd ra rb : Fin 16) (obj m6 : BitVec 6) (cmd cls : BitVec 3) (md : BitVec 2)
      (ch : BitVec 4) (h sq : Bool),
    let t := s.core.teller k
    let u := s.slot ts e
    let a := ((t.xr ra).toNat + obj.toNat) % 2 ^ 32
    let lacks (r : Nat) : Prop := s.core.owner (BitVec.ofNat 8 r) ≠ .program
    let no (t : Teller) : Teller := { t.onto with
      d := true
      refWhy := 2
      refPc := t.pc }
    let denied : Host.Outcome State Fault Refusal := .next (u.done k (no t))
    let denied0 : Host.Outcome State Fault Refusal := .next (u.done k (no (t.xw rd 0)))
    s.core.get (F.TELLER_CFG_STRICT k) = 0 →
    (∀ w, a < 48 → lacks a →
      (s.ready k e (wordD 0x24 0 ra 0 obj 0) = true → exec (.on ts k e ra obj) s = denied) ∧
      (s.ready k e (wordD 0x25 0 ra 0 obj 0) = true → exec (.off ts k e ra obj) s = denied) ∧
      (s.ready k e (wordD 0x26 0 ra 0 obj 0) = true → exec (.foff ts k e ra obj) s = denied) ∧
      (w = m6.toNat + (if sq then 64 else 0) → s.ready k e (wordD 0x29 0 ra 0 obj w) = true →
        exec (.gate ts k e ra obj m6 sq) s = denied) ∧
      (s.ready k e (wordD 0x3C 0 ra rb obj 0) = true → a < 8 → -150 ≤ (t.xr rb).toInt → (t.xr rb).toInt ≤ 150 →
        exec (.mrgn ts k e ra rb obj) s = denied) ∧
      (s.ready k e (wordD 0x36 rd ra 0 obj cls.toNat) = true → cls.toNat ≤ 1 →
        exec (.probe ts k e rd ra obj cls) s = denied0)) ∧
    (∀ n : Fin 48, a < 64 → (u.core.maskSet a).getLsbD n = true → lacks n →
      (s.ready k e (wordD 0x27 0 ra 0 obj 0) = true → exec (.onm ts k e ra obj) s = denied) ∧
      (s.ready k e (wordD 0x28 0 ra 0 obj 0) = true → exec (.offm ts k e ra obj) s = denied)) ∧
    (s.ready k e (wordD 0x22 0 ra 0 obj cmd.toNat) = true → a < 8 → 1 ≤ cmd.toNat → cmd.toNat ≤ 4 → lacks (0x38 + a) →
      exec (.tctl ts k e ra obj cmd) s = denied) ∧
    (s.ready k e (wordD 0x2D 0 ra rb obj (if h then 1 else 0)) = true → a < 64 → lacks 0x7E →
      exec (.mset ts k e ra rb obj h) s = denied) ∧
    (s.ready k e (wordD 0x3B 0 0 0 0 md.toNat) = true → md ≠ 3 → lacks 0x7B → exec (.mode ts k e md) s = denied) ∧
    (s.ready k e (wordD 0x31 0 ra rb obj (if h then 1 else 0)) = true → lacks (if h then 0x79 else 0x78) →
      exec (.spend ts k e ra rb obj h) s = denied) ∧
    (s.ready k e (wordD 0x32 rd ra rb obj 0) = true → lacks 0x7A → exec (.reserve ts k e rd ra rb obj) s = denied0) ∧
    (s.ready k e (wordD 0x37 0 ra 0 obj 0) = true → a < 48 → lacks (0x40 + a / 8) → exec (.capt ts k e ra obj) s = denied) ∧
    (a < 6 → lacks (0x40 + a) →
      (s.ready k e (wordD 0x38 rd ra 0 obj ch.toNat) = true → ch.toNat ≤ 11 ∨ (ch.toNat = 12 ∧ 4 ≤ a) →
        exec (.inj ts k e rd ra obj ch) s = denied0) ∧
      (s.ready k e (wordD 0x39 0 ra 0 obj 0) = true → exec (.cal ts k e ra obj) s = denied)) ∧
    (∀ c : Fin 6, s.ready k e (wordD 0x3A 0 ra 0 obj 0) = true → a < 64 → a.testBit c = true → lacks (0x40 + c) →
      exec (.arch ts k e ra obj) s = denied)

/-- R186, R239, R261, R525: an instruction that finds its teller's queue of 64 full, and a NOTE that finds 96 records waiting,
stall the teller at their PC; when the queue takes the request or the record, the teller goes on, or starts anew where it has
asked to be restarted meanwhile (that the stalled request is then dropped with the queue is log entry 38, the model's choice). -/
def Obligations.TellerStalls : Prop :=
  ∀ (s : State) (ts : Nat) (k : Fin 8) (e : Ecc) (ra rb : Fin 16) (obj : BitVec 6) (code : BitVec 14) (r : TReq) (j : JRec),
    let t := s.core.teller k
    let u := s.slot ts e
    let a := ((t.xr ra).toNat + obj.toNat) % 2 ^ 32
    let runs : Prop := s.core.live = true ∧ s.core.mainAlive = true ∧ t.st = .running
    (∀ h : a < 48, s.ready k e (wordD 0x24 0 ra 0 obj 0) = true → s.core.owner (BitVec.ofNat 8 a) = .program →
      64 ≤ t.queue.length → exec (.on ts k e ra obj) s = .next (u.lift (fun d => d.setTeller k
        { t with stall := some (.queue ⟨t.pc, .rail ⟨a, h⟩ .on⟩) }))) ∧
    (s.ready k e (wordN 0x34 ra rb code.toNat) = true → 96 ≤ s.core.jq.length →
      exec (.note ts k e ra rb code) s = .next (u.lift (fun d => d.setTeller k
        { t with stall := some (.note ⟨0x8000 + code.toNat, k, false, false, s.core.vault.shadow, u.core.recStamp,
            t.xr ra, t.xr rb, none⟩) }))) ∧
    (runs → t.again = true → t.stall = some (.queue r) → t.queue.length < 64 → Gives (.queueStallResume ts k) s (fun d =>
      (d.teller k).pc = t.entry ∧ (d.teller k).stall = none ∧ (d.teller k).stack = [] ∧ (d.teller k).queue = [] ∧
      (d.teller k).again = false)) ∧
    (runs → t.again = true → t.stall = some (.note j) → s.core.jq.length < 96 → Gives (.noteStallResume ts k) s (fun d =>
      (d.teller k).pc = t.entry ∧ (d.teller k).stall = none ∧ (d.teller k).again = false)) ∧
    (runs → t.again = false → t.stall = some (.queue r) → t.queue.length < 64 →
      exec (.queueStallResume ts k) s = .next ((s.advance ts).done k
        { t.onto with
            stall := none
            queue := t.queue ++ [r] })) ∧
    (runs → t.again = false → t.stall = some (.note j) → s.core.jq.length < 96 → s.core.jLost = 0 →
      exec (.noteStallResume ts k) s = .next (((s.advance ts).done k { t.onto with stall := none }).lift (fun d =>
        { d with
            jq := d.jq ++ [(d.jIn, j)]
            jIn := d.jIn + 1 })))

/-- R255-R258, R327: SPEND and RESERVE enter their request under the teller's rank and wait; a SPEND of 0 is granted at
once; RELEASE gives up a reservation the program holds, and of a number it does not hold sets D with NO_RESERVATION
(0x21). Its RANGE for 0 or above 255 is a clause of TellerExceptions. -/
def Obligations.TellerPurses : Prop :=
  ∀ (s : State) (ts : Nat) (k : Fin 8) (e : Ecc) (rd ra rb : Fin 16) (obj : BitVec 6) (h : Bool),
    let t := s.core.teller k
    let u := s.slot ts e
    let a := ((t.xr ra).toNat + obj.toNat) % 2 ^ 32
    let limit : Option Nat := if t.xr rb = 0 then none else some (s.at ts + (t.xr rb).toNat * 1000)
    let owns (r : Nat) : Prop := s.core.owner (BitVec.ofNat 8 r) = .program
    let asks (b : Budget) (w : Wait) : Host.Outcome State Fault Refusal := .next ((u.done k { t with
      st := .waiting
      wait := some w
      wdogNs := 0 }).lift (fun d => { d with preqs := d.preqs ++ [⟨b, .teller k, a, u.core.tellerRank k, u.core.usec.toNat, true⟩] }))
    let holds (i : Nat) (x : HRes) : Prop := ∃ j, x.who = .teller j i
    (s.ready k e (wordD 0x31 0 ra rb obj (if h then 1 else 0)) = true → owns (if h then 0x79 else 0x78) →
      (0 < a → exec (.spend ts k e ra rb obj h) s = asks (if h then .hold else .inrush) (.spend limit)) ∧
      (a = 0 → exec (.spend ts k e ra rb obj h) s = .next (u.done k t.onto))) ∧
    (s.ready k e (wordD 0x32 rd ra rb obj 0) = true → owns 0x7A →
      exec (.reserve ts k e rd ra rb obj) s = asks .heat (.reserve rd limit)) ∧
    (s.ready k e (wordD 0x33 0 ra 0 obj 0) = true → 1 ≤ a → a ≤ 255 → owns 0x7A →
      ((∃ x ∈ s.core.heatRes, holds a x) → Gives (.release ts k e ra obj) s (fun d =>
        (∀ x, x ∈ d.heatRes ↔ x ∈ s.core.heatRes ∧ ¬ holds a x) ∧
        (u.done k t.onto).core.only [.heatRes, .mgEnd] d)) ∧
      ((¬ ∃ x ∈ s.core.heatRes, holds a x) → exec (.release ts k e ra obj) s = .next (u.done k
        { t.onto with
            d := true
            refWhy := 0x21
            refPc := t.pc })))

/-- R261, R262, R263, R513: NOTE queues its record with the STAMP of its slot; FAULT enters the empty folio and the journal, and
asks for no entry to the shutdown table; DFAULT also requests DANGEROUS, the FAULT cause (bit 4) of every door set. The
teller goes on. A dangerous fault takes the folio, before it is committed, from a FAULT of the same instant. -/
def Obligations.TellerRecords : Prop :=
  ∀ (s : State) (ts : Nat) (k : Fin 8) (e : Ecc) (ra rb : Fin 16) (code : BitVec 14) (fc : BitVec 13),
    let t := s.core.teller k
    let u := s.slot ts e
    let record (typ : Nat) (ff : Bool) : JRec :=
      ⟨typ, k, ff, false, s.core.vault.shadow, u.core.recStamp, t.xr ra, t.xr rb, none⟩
    let earlier : Prop := ∀ f, s.core.folio = some f → f.at_ < s.at ts
    s.core.jLost = 0 → s.core.jq.length < 96 →
    (s.ready k e (wordN 0x34 ra rb code.toNat) = true →
      exec (.note ts k e ra rb code) s = .next ((u.done k t.onto).lift (fun d =>
        { d with
            jq := d.jq ++ [(d.jIn, record (0x8000 + code.toNat) false)]
            jIn := d.jIn + 1 }))) ∧
    (s.ready k e (wordN 0x35 ra rb fc.toNat) = true → earlier → Gives (.fault ts k e ra rb fc) s (fun d =>
      d.jq = s.core.jq ++ [(s.core.jIn, record (0xC000 + fc.toNat) s.core.folio.isNone)] ∧
      (s.core.folio.isSome = true → d.folio = s.core.folio) ∧
      (s.core.folio = none → ∃ f, d.folio = some f ∧ f.kind = 0xC000 + fc.toNat ∧ f.obj = k ∧ f.dangerous = false ∧
        f.arg0 = t.xr ra ∧ f.arg1 = t.xr rb ∧ f.stamp = u.core.recStamp) ∧
      (u.done k t.onto).core.only [.jq, .jIn, .folio] d)) ∧
    (s.ready k e (wordN 0x35 ra rb (0x2000 + fc.toNat)) = true → earlier → s.core.eff ≠ .watch →
      s.core.get F.SAFE_STATUS_VAULTLOST = 0 → s.core.vault.loaded = true → s.core.vault.run = none → s.core.vault.pend = none →
      Gives (.dfault ts k e ra rb fc) s (fun d =>
        d.jq = s.core.jq ++ [(s.core.jIn, record (0xE000 + fc.toNat) s.core.folio.isNone)] ∧
        d.vault = { s.core.vault with pend := some ⟨.dangerous, 0xE000 + fc.toNat, s.at ts, false⟩ } ∧
        (∀ x : Fin 4, (d.get (F.DOOR_ACAUSE_CAUSE x)).testBit 4 = true) ∧
        (u.done k t.onto).core.only [.jq, .jIn, .folio, .regs, .smbRel, .evq, .evOvf, .evDropped, .vault, .calOpen] d)) ∧
    (∀ f, s.core.folio = some f → f.at_ = s.at ts → f.dangerous = false → s.core.folioDone = false →
      s.ready k e (wordN 0x35 ra rb (0x2000 + fc.toNat)) = true → Gives (.dfault ts k e ra rb fc) s (fun d =>
        (∃ g, d.folio = some g ∧ g.kind = 0xE000 + fc.toNat ∧ g.obj = k ∧ g.dangerous = true) ∧
        (∀ q ∈ d.jq, q.1 < s.core.jIn → q.2.ff = false) ∧ (s.core.jIn, record (0xE000 + fc.toNat) true) ∈ d.jq))

/-- R264-R273: where the program owns the object and WATCH is not in effect, CAL requests a calibration, INJ presents its
dwell and waits, CAPT presents its burst, ARCH starts its commit and PROBE asks for its probe and waits; in WATCH each of
them has no effect, sets D and writes LASTREF with ASLEEP (0x05), and INJ and PROBE write 0 to X[RD]. -/
def Obligations.TellerActs : Prop :=
  ∀ (s : State) (ts : Nat) (k : Fin 8) (e : Ecc) (rd ra : Fin 16) (obj : BitVec 6) (ch : BitVec 4) (cls : BitVec 3),
    let t := s.core.teller k
    let u := s.slot ts e
    let a := ((t.xr ra).toNat + obj.toNat) % 2 ^ 32
    let owns (r : Nat) : Prop := s.core.owner (BitVec.ofNat 8 r) = .program
    let no (t : Teller) : Teller := { t.onto with
      d := true
      refWhy := 5
      refPc := t.pc }
    let asleep : Host.Outcome State Fault Refusal := .next (u.done k (no t))
    let asleep0 : Host.Outcome State Fault Refusal := .next (u.done k (no (t.xw rd 0)))
    let waits (w : Wait) : Teller := { t with
      st := .waiting
      wait := some w
      wdogNs := 0 }
    let trig (c : Fin 6) (n : Nat) (burst : Bool) : Trig := ⟨.teller k t.pc, n, burst, u.core.stamp, u.core.arrival c⟩
    (∀ h : a < 48, s.ready k e (wordD 0x37 0 ra 0 obj 0) = true → owns (0x40 + a / 8) →
      (s.core.eff = .watch → exec (.capt ts k e ra obj) s = asleep) ∧
      (s.core.eff ≠ .watch →
        let c : Fin 6 := ⟨a / 8, by omega⟩
        s.core.get (F.CAP_STATUS_STATE c) = 1 → u.core.cvBusy c (trig c (a % 8) true) = false → (s.core.cv c).op = .scan →
        exec (.capt ts k e ra obj) s = .next ((u.done k t.onto).lift (fun d =>
          d.setCv c { s.core.cv c with arriving := some (trig c (a % 8) true) })))) ∧
    (∀ h : a < 6, owns (0x40 + a) →
      let c : Fin 6 := ⟨a, h⟩
      (s.ready k e (wordD 0x38 rd ra 0 obj ch.toNat) = true → ch.toNat ≤ 11 ∨ (ch.toNat = 12 ∧ 4 ≤ a) →
        (s.core.eff = .watch → exec (.inj ts k e rd ra obj ch) s = asleep0) ∧
        (s.core.eff ≠ .watch → u.core.cvBusy c (trig c ch.toNat false) = false → (s.core.cv c).op = .scan →
          exec (.inj ts k e rd ra obj ch) s = .next ((u.done k (waits (.inj rd c (u.core.arrival c)))).lift (fun d =>
            d.setCv c { s.core.cv c with arriving := some (trig c ch.toNat false) })))) ∧
      (s.ready k e (wordD 0x39 0 ra 0 obj 0) = true →
        (s.core.eff = .watch → exec (.cal ts k e ra obj) s = asleep) ∧
        (s.core.eff ≠ .watch → (s.core.cv c).op = .cal ∨ (s.core.cv c).calPend = true →
          exec (.cal ts k e ra obj) s = .next (u.done k
            { t.onto with
                d := true
                refWhy := 9
                refPc := t.pc })) ∧
        (s.core.eff ≠ .watch → (s.core.cv c).op = .scan → (s.core.cv c).calPend = false → (s.core.cv c).arriving = none →
          (s.core.cv c).pend = none →
          exec (.cal ts k e ra obj) s = .next ((u.done k t.onto).lift (fun d =>
            d.setCv c { s.core.cv c with
              calPend := true
              calWait := 0
              owes := false }))))) ∧
    (s.ready k e (wordD 0x3A 0 ra 0 obj 0) = true → 0 < a → a < 64 → (∀ c : Fin 6, a.testBit c = true → owns (0x40 + c)) →
      (s.core.eff = .watch → exec (.arch ts k e ra obj) s = asleep) ∧
      (s.core.eff ≠ .watch → u.core.archRefusal (BitVec.ofNat 6 a) = none → Gives (.arch ts k e ra obj) s (fun d =>
        d.arch = some ⟨BitVec.ofNat 6 a, false, k, u.core.stamp⟩ ∧ d.tellers = (u.done k t.onto).core.tellers ∧
        (∀ c : Fin 6, a.testBit c = true → d.get (F.CAP_STATUS_ARCH c) = 1) ∧
        (∀ c : Fin 6, a.testBit c = true → s.core.get (F.CAP_STATUS_STATE c) = 1 → d.get (F.CAP_STATUS_STATE c) = 3) ∧
        (u.done k t.onto).core.only [.arch, .regs, .caps, .cvs, .holdO, .heatRes] d)) ∧
      (∀ r, s.core.eff ≠ .watch → u.core.archRefusal (BitVec.ofNat 6 a) = some r → Gives (.arch ts k e ra obj) s (fun d =>
        d.arch = s.core.arch ∧ d.get F.LEDG_ARCHSTAT_LASTREF = r.code ∧ d.get F.LEDG_EVENT_ARCH_REFUSED = 1 ∧
        d.teller k = ({ t.onto with
          d := true
          refWhy := r.code
          refPc := t.pc } : Teller).stepped (s.at ts)))) ∧
    (∀ h : a < 48, s.ready k e (wordD 0x36 rd ra 0 obj 0) = true → owns a →
      (s.core.eff = .watch → exec (.probe ts k e rd ra obj 0) s = asleep0) ∧
      (s.core.eff ≠ .watch → s.core.probing = [] → s.core.probes.length < 16 →
        exec (.probe ts k e rd ra obj 0) s = .next ((u.done k (waits (.probe rd (.sense ⟨a, h⟩)))).lift (fun d =>
          { d with probes := d.probes ++ [⟨.sense ⟨a, h⟩, 0, a, none, false, 0, some k, false, s.at ts,
            s.core.probes.any (fun q => q.path == .sense ⟨a, h⟩ && q.typ != 0)⟩] }))))

/-! ### Rails (04) -/

/-- R140, R53, R141, R306, R565, R683: a rail leaves ARMED for RISING exactly when its conditions hold together, and then its output
switches on; where one of them does not hold, only time moves. They are: the interlock and SEQ_IN, the grants (nothing asked for
needs none, R306), VIN as R53 and R565 judge it, no table run, and a main region that works. -/
def Obligations.RailStart : Prop :=
  ∀ (s : State) (ts : Nat) (n : Fin 48),
    let r := s.core.rail n
    let vin := if s.core.get F.SAFE_STATUS_MONLOST = 1 then (s.core.cv 5).valid12.getD 0 else s.core.get F.PWR_VIN_V
    let ready : Prop := r.code = .armed ∧ s.core.live = true ∧ s.core.mainAlive = true ∧ s.core.get F.SAFE_STATUS_CLKFAIL = 0 ∧
      s.core.vault.run = none ∧ s.core.vault.pend = none ∧
      (∀ m : Fin 48, (s.core.gateSet n).getLsbD m = true → (s.core.rail m).code = .good) ∧
      (s.core.get (F.RAIL_CFG_SEQINREQ n) = 1 → s.core.seqIn = true) ∧
      (r.inrush = .granted ∨ (r.inrush = .none ∧ s.core.get (F.RAIL_BUDGET_INRUSH n) = 0)) ∧
      (s.core.get (F.RAIL_BUDGET_HEAT n) = 0 ∨ r.heat = .granted) ∧ s.core.get F.PWR_START_VSTART * 1000 ≤ vin
    (ready → Gives (.railStart ts n) s (fun d =>
      (d.rail n).code = .rising ∧ (d.rail n).out = .on ∧ (d.rail n).stateAt = s.at ts ∧ (d.rail n).riseAt = s.at ts ∧
      (d.rail n).chat = [] ∧ (∀ m, m ≠ n → d.rail m = s.core.rail m) ∧
      (n.val < 8 → d.get (F.SC_STATUS_OP n) = 2 ∧ s.core.only [.now, .rails, .hday, .regs, .scs, .phs] d) ∧
      (8 ≤ n.val → s.core.only [.now, .rails, .hday] d))) ∧
    (¬ ready → exec (.railStart ts n) s = .next (s.advance ts))

/-- R54, R133, R143, R144: RISING and QUALIFYING follow the composite good condition; each change is counted, and the change
that exceeds CHAT_N within CHAT_W declares CHATTER instead; a condition that held before RISING has not changed. QUALIFYING becomes GOOD when the condition has held for QUAL
without a break since the state was entered. -/
def Obligations.RailQualifies : Prop :=
  ∀ (s : State) (ts : Nat) (n : Fin 48),
    let r := s.core.rail n
    let changes := ((s.at ts :: r.chat).filter (fun t =>
      decide (s.at ts ≤ t + s.core.get (F.RAIL_FILT_CHAT_W n) * 1000000))).length
    let next (c : RailCode) : Rail := { r with
      code := c
      stateAt := s.at ts
      chat := s.at ts :: r.chat }
    s.core.mainAlive = true →
    (r.code = .rising → s.core.goodCond n = true →
      (8 ≤ n.val → r.brokeAt < r.riseAt → exec (.railGoodCondMet ts n) s =
        .next ((s.advance ts).lift (fun d => d.setRail n { next .qualifying with chat := r.chat }))) ∧
      (n.val < 8 ∨ r.riseAt ≤ r.brokeAt → changes ≤ s.core.get (F.RAIL_FILT_CHAT_N n) → exec (.railGoodCondMet ts n) s =
        .next ((s.advance ts).lift (fun d => d.setRail n (next .qualifying)))) ∧
      (n.val < 8 ∨ r.riseAt ≤ r.brokeAt → s.core.get (F.RAIL_FILT_CHAT_N n) < changes → s.core.tableRuns = false → Gives (.railGoodCondMet ts n) s (fun d =>
        (d.rail n).code = .faulted ∧ (d.rail n).fault = 5 ∧ d.get (F.RAIL_EVENT_CHATTER n) = 1))) ∧
    (r.code = .qualifying → s.core.goodCond n = false →
      (changes ≤ s.core.get (F.RAIL_FILT_CHAT_N n) → exec (.railGoodCondLost ts n) s =
        .next ((s.advance ts).lift (fun d => d.setRail n (next .rising)))) ∧
      (s.core.get (F.RAIL_FILT_CHAT_N n) < changes → s.core.tableRuns = false → Gives (.railGoodCondLost ts n) s (fun d =>
        (d.rail n).code = .faulted ∧ (d.rail n).fault = 5 ∧ d.get (F.RAIL_EVENT_CHATTER n) = 1))) ∧
    (r.code = .qualifying → s.core.goodCond n = true →
      max r.stateAt r.brokeAt + s.core.get (F.RAIL_TIMING_QUAL n) * 10000 ≤ s.at ts →
      Gives (.railQualified ts n) s (fun d =>
        (d.rail n).code = .good ∧ (d.rail n).stateAt = s.at ts ∧
        (∀ m, m ≠ n → (d.rail m).code = (s.core.rail m).code ∧ (d.rail m).out = (s.core.rail m).out) ∧
        s.core.only [.now, .rails, .hday, .regs, .rstoAt, .cascAt, .pwr, .jq, .jIn, .jLost] d ∧
        (s.core.vinOk = true → d.rail n = { r with
            code := .good
            stateAt := s.at ts
            refAt := s.at ts
            uvScan := false } ∧
          (∀ m, m ≠ n → d.rail m = s.core.rail m) ∧ s.core.only [.now, .rails, .hday, .regs, .rstoAt, .cascAt] d))) ∧
    (r.code = .qualifying → s.at ts < max r.stateAt r.brokeAt + s.core.get (F.RAIL_TIMING_QUAL n) * 10000 →
      exec (.railQualified ts n) s = .next (s.advance ts))

/-- R147, R148, R683, R722: RISE_TIMEOUT, UV, PG_LOSS and the reaction codes: the event, the record with the state before the
fault, FAULTED with the fault's code, and the output left on (HOLD, DANGEROUS, and any after CLOCK_XCHK, R683) or falling
(OFF, FASTOFF); with DANGEROUS the entry of the shutdown table. -/
def Obligations.RailFaults : Prop :=
  ∀ (s : State) (ts : Nat) (n : Fin 48),
    let r := s.core.rail n
    let faults (c : Instr) (code react : Nat) (ev : Fld) : Prop :=
      Gives c s (fun d =>
        (d.rail n).code = .faulted ∧ (d.rail n).fault = code ∧ d.get ev = 1 ∧
        (react = 0 ∨ react = 3 ∨ s.core.get F.SAFE_STATUS_CLKFAIL = 1 → (d.rail n).out = .on) ∧
        (react = 1 ∨ react = 2 → s.core.get F.SAFE_STATUS_CLKFAIL = 0 → (d.rail n).out = .falling ∧ (d.rail n).offAt = s.at ts) ∧
        (∃ x ∈ d.jq, x.1 = s.core.jIn ∧ x.2.typ = 0x0300 + code ∧ x.2.obj = n ∧ x.2.arg0 = s.core.meas n ∧
          x.2.arg1 = BitVec.ofNat 32 r.code.code ∧ x.2.probe = true) ∧
        (react = 3 → d.vault.pend = some ⟨.dangerous, 0x0300 + code, s.at ts, false⟩ ∧
          ∀ x : Fin 4, (d.get (F.DOOR_ACAUSE_CAUSE x)).testBit 4 = true))
    s.core.live = true → s.core.mainAlive = true → s.core.vault.run = none → s.core.vault.pend = none → s.core.vault.loaded = true →
    s.core.get F.SAFE_STATUS_VAULTLOST = 0 → r.out = .on → s.core.jLost = 0 → s.core.jq.length < 128 → s.core.eff ≠ .watch →
    (∀ a, s.core.get (F.RAIL_REACT_RISE n) = a → a ≤ 3 → r.code = .rising ∨ r.code = .qualifying →
      r.riseAt + s.core.get (F.RAIL_TIMING_RISETO n) * 1000000 ≤ s.at ts → 8 ≤ n.val ∨ s.core.get (F.SC_STATUS_OP n) = 3 →
      faults (.riseTimeout ts n) 4 a (F.RAIL_EVENT_RISE_TIMEOUT n)) ∧
    (∀ a t, s.core.get (F.RAIL_REACT_UV n) = a → a ≤ 3 → r.code = .good → r.uvLive = true → r.uvAt = some t →
      max t r.stateAt + s.core.get (F.RAIL_FILT_UVFILT n) * 100 ≤ s.at ts →
      faults (.railUv ts n) 2 a (F.RAIL_EVENT_UV n)) ∧
    (∀ a t, s.core.get (F.RAIL_REACT_PG n) = a → a ≤ 3 → r.code = .good → 8 ≤ n.val → s.core.get (F.RAIL_CFG_PGUSE n) = 1 →
      r.pg ≠ s.core.flag (F.RAIL_CFG_PGPOL n) → r.pgAt = some t →
      t + s.core.get (F.RAIL_FILT_UVFILT n) * 100 ≤ s.at ts →
      faults (.pgLoss ts n) 3 a (F.RAIL_EVENT_PG_LOSS n))

/-- R147, R149, R545: OV that has stood for OVFILT is a dangerous fault in every state but UNUSED: the rail enters FAULTED
and its output is left to the vault, FAULT rises on every door, and the table is entered at DANGEROUS. -/
def Obligations.RailOv : Prop :=
  ∀ (s : State) (ts : Nat) (n : Fin 48) (t : Nat),
    let r := s.core.rail n
    r.code ≠ .unused → r.ovLive = true → r.ovAt = some t → t + s.core.get (F.RAIL_FILT_OVFILT n) * 100 ≤ s.at ts →
    s.core.live = true → s.core.eff ≠ .watch → s.core.vault.run = none → s.core.vault.pend = none → s.core.vault.loaded = true →
    s.core.get F.SAFE_STATUS_VAULTLOST = 0 →
    Gives (.railOv ts n) s (fun d =>
      (d.rail n).code = .faulted ∧ (r.code ≠ .faulted → (d.rail n).fault = 1) ∧ (d.rail n).out = r.out ∧
      (d.rail n).ovAt = none ∧ d.get (F.RAIL_EVENT_OV n) = 1 ∧ d.vault.pend = some ⟨.dangerous, 0x0301, s.at ts, false⟩ ∧
      ∀ x : Fin 4, (d.get (F.DOOR_ACAUSE_CAUSE x)).testBit 4 = true)

/-- R135, R143, R158, R150, R161, R165-R168, R668, R683: the recorded FALL_TIMEOUT, the acceptance of a PG level with its short excursions,
the release of a reset output and of SEQ_OUT, and the acceptance of SEQ_IN with the fall it records in RUN. The model's choices: FALLTO
counts from the entry to FALLING (log entry 37), and the entry that a fall of SEQ_IN starts is accepted at the instant of the fall, in RUN
alone (log entry 41). -/
def Obligations.RailSides : Prop :=
  ∀ (s : State) (ts : Nat) (n : Fin 48) (k : Fin 8) (level : Bool),
    let r := s.core.rail n
    let held : Bool := s.core.goodCond n && (s.core.setRail n { r with pg := level }).goodCond n
    (r.code = .falling ∨ (r.code = .faulted ∧ r.out = .falling) → r.fallDone = false →
      r.offAt + s.core.get (F.RAIL_TIMING_FALLTO n) * 1000000 ≤ s.at ts → Gives (.fallTimeout ts n) s (fun d =>
        d.rail n = { r with fallDone := true } ∧ d.get (F.RAIL_EVENT_FALL_TIMEOUT n) = 1 ∧
        (∀ m, m ≠ n → d.rail m = s.core.rail m) ∧ s.core.only [.now, .rails, .regs, .jq, .jIn, .jLost] d ∧
        s.core.onlyRegs [F.RAIL_EVENT_FALL_TIMEOUT n, F.LEDG_JLOST_LOST, F.LEDG_EVENT_JLOST] d)) ∧
    (s.core.live = true → 8 ≤ n.val → r.pg ≠ level → (∀ p ∈ s.core.probing, p.path ≠ .windowPg n) →
      (level ≠ s.core.flag (F.RAIL_CFG_PGPOL n) → exec (.pgChange ts n level) s = .next ((s.advance ts).lift (fun d =>
        d.setRail n { r with
          pg := level
          pgAt := some (s.at ts)
          brokeAt := if held then r.brokeAt else s.at ts }))) ∧
      (level = s.core.flag (F.RAIL_CFG_PGPOL n) → Gives (.pgChange ts n level) s (fun d =>
        d.rail n = { r with
          pg := level
          pgAt := none
          brokeAt := if held then r.brokeAt else s.at ts } ∧
        d.get (F.RAIL_COUNT_PGSHORT n) =
          (if (∃ t, r.pgAt = some t ∧ s.at ts < t + s.core.get (F.RAIL_FILT_UVFILT n) * 100) ∧ r.code = .good ∧ s.core.get (F.RAIL_CFG_PGUSE n) = 1 then
            min 65535 (s.core.get (F.RAIL_COUNT_PGSHORT n) + 1) else s.core.get (F.RAIL_COUNT_PGSHORT n)) ∧
        (∀ m, m ≠ n → d.rail m = s.core.rail m) ∧ s.core.only [.now, .rails, .regs, .hday] d ∧
        s.core.onlyRegs [F.RAIL_COUNT_PGSHORT n] d))) ∧
    (s.core.get (F.RSTO_CFG_CLAIM k) = 1 → s.core.get (F.RSTO_CFG_MODE k) = 0 → s.core.live = true →
      (s.core.mainAlive = false ∨ s.core.get F.SAFE_STATUS_CLKFAIL = 1 → exec (.rstoRelease ts k) s = .next (s.advance ts)) ∧
      (s.core.mainAlive = true → s.core.get F.SAFE_STATUS_CLKFAIL = 0 →
      (s.core.get F.RSTO_STATUS_STRETCHING).testBit k = true → s.core.vault.rsto.getLsbD k = false →
      (∀ m : Fin 48, (rstoMask s.core k).getLsbD m = true → (s.core.rail m).code = .good) →
      s.core.rstoAt.get k + (s.core.get (F.RSTO_CFG_STRETCH k) * 1000000 - 10000) ≤ s.at ts →
      Gives (.rstoRelease ts k) s (fun d =>
        (d.get F.RSTO_STATUS_ASSERTED).testBit k = false ∧ (d.get F.RSTO_STATUS_STRETCHING).testBit k = false ∧
        s.core.only [.now, .regs] d ∧ s.core.onlyRegs [F.RSTO_STATUS_ASSERTED, F.RSTO_STATUS_STRETCHING] d))) ∧
    (s.core.get F.CASC_CFG_CLAIM = 1 → s.core.live = true → cascMask s.core ≠ 0 →
      (∀ m : Fin 48, (cascMask s.core).getLsbD m = true → (s.core.rail m).code = .good) → s.core.vault.run = none →
      s.core.vault.pend = none → s.core.mainAlive = true → s.core.get F.SAFE_STATUS_CLKFAIL = 0 →
      s.core.cascAt + s.core.get F.CASC_CFG_OUTDLY * 100000 ≤ s.at ts →
      (∀ m : Fin 48, (cascMask s.core).getLsbD m = true →
        (s.core.rail m).stateAt + s.core.get F.CASC_CFG_OUTDLY * 100000 ≤ s.at ts) →
      exec (.seqOutRelease ts) s = .next ((s.advance ts).lift (fun d => d.put F.CASC_STATUS_SEQOUT 1))) ∧
    (s.core.mainAlive = false ∨ s.core.get F.SAFE_STATUS_CLKFAIL = 1 → exec (.seqOutRelease ts) s = .next (s.advance ts)) ∧
    (s.core.dev = .run → s.core.seqIn = !level → s.core.vault.run = none → s.core.vault.pend = none → s.core.vault.loaded = true →
      s.core.get F.SAFE_STATUS_VAULTLOST = 0 → Gives (.seqInChange ts level) s (fun d =>
        d.seqIn = level ∧ d.get F.CASC_STATUS_SEQIN = (if level then 1 else 0) ∧
        (level = false → d.get F.CASC_STATUS_INFALL = 1) ∧
        d.vault.pend = (if level = false ∧ s.core.get F.CASC_CFG_INACT = 1 then some ⟨.normal, 0x010B, s.at ts, false⟩ else none) ∧
        (s.core.vinOk = true → s.core.only [.now, .seqIn, .regs, .jq, .jIn, .jLost, .vault, .calOpen] d) ∧
        s.core.only [.now, .seqIn, .regs, .jq, .jIn, .jLost, .vault, .calOpen, .rails, .pwr] d))

/-! ### Power entry and start-up (02, 01) -/

/-- R22, R50, R52, R79, R504, R506, R511, R561: the supply and the VIN thresholds move the device between UNPOWERED, POWER-HOLD and BOOT;
what the main region held stands as after reset, and where VIN or the supply is lost the volatile memories list nothing (log entry 11,
the model's choice). Of a write of the array in progress then the words before its present one stand, those behind it are as they
were, and the present one may be left uncorrectable (when a word begins is log entry 13, the model's choice). A device that failed its
third restart stays at step 3 until it is UNPOWERED.

R56, R58, R697, R534: VSUP below 11.0 V takes the drive from every output and ends an archive commit, whose buffers it
releases and whose fill it leaves; VSUP back at 11.0 V restores the drive (that the low supply changes nothing else of the device is
log entry 26, the model's choice); VDD1V8 leaves its window, and no further word begins (R506: the one in progress may be left
uncorrectable), or re-enters it, and those that waited go on. -/
def Obligations.PowerSupply : Prop :=
  (∀ (s : State) (ts : Nat) (torn : Option Nat),
    let off (t : State) : Prop := t.pending = s.pending ∧ t.iram = [] ∧ t.dram = [] ∧ t.bufs = Vector.replicate 6 [] ∧
      s.cuts (s.at ts) t
    (s.core.dev = .unpowered → Gives (.supplyPresent ts) s (fun d => s.begins ts .powerHold none [] d)) ∧
    (s.core.dev ≠ .unpowered → ∃ t, exec (.supplyLost ts torn) s = .next t ∧ off t ∧ s.begins ts .unpowered torn [] t.core) ∧
    (s.core.dev = .powerHold → Gives (.vinRiseLockout ts) s (fun d =>
      s.begins ts .boot none [F.SYS_STATE_BOOTSTEP] d ∧ d.get F.SYS_STATE_BOOTSTEP = 1)) ∧
    (s.core.dev = .boot →
      (s.core.pwr.stuck = false → ∃ t, exec (.bootVinDrop ts torn) s = .next t ∧ off t ∧ s.begins ts .powerHold torn [] t.core) ∧
      (s.core.pwr.stuck = true → exec (.bootVinDrop ts torn) s = .next (s.advance ts)))) ∧
  (∀ (s : State) (ts : Nat) (ok : Bool) (torn : Option Nat),
    (s.core.dev ≠ .unpowered → s.core.pwr.vsupLow = false →
      (s.core.arch = none → exec (.vsupLow ts) s = .next ((s.advance ts).lift (fun d =>
        { d with pwr := { d.pwr with vsupLow := true } }))) ∧
      (∀ a, s.core.arch = some a → Gives (.vsupLow ts) s (fun d =>
        d.arch = none ∧ d.pwr = { s.core.pwr with vsupLow := true } ∧ d.pulls = false ∧
        (∀ c : Fin 6, a.mask.getLsbD c = true → d.get (F.CAP_STATUS_ARCH c) = 0) ∧
        s.core.records 0x0A04 0 (BitVec.ofNat 32 s.core.afill.1) (BitVec.ofNat 32 a.mask.toNat) d ∧
        s.core.only [.now, .pwr, .arch, .heatRes, .caps, .regs, .jq, .jIn, .jLost] d))) ∧
    (s.core.pwr.vsupLow = true → exec (.vsupRecover ts) s = .next ((s.advance ts).lift (fun d =>
      { d with pwr := { d.pwr with vsupLow := false } }))) ∧
    (s.core.v18ok = ok → exec (.vdd1v8OutOfWindow ts ok torn) s = .next (s.advance ts)) ∧
    (s.core.v18ok = false → Gives (.vdd1v8OutOfWindow ts true torn) s (fun d => d.v18ok = true ∧ d.ledgBad = s.core.ledgBad ∧
      (∀ r ∈ d.recent, r.stopped = none) ∧ s.core.only [.now, .ledgBad, .v18ok] d)) ∧
    (s.core.v18ok = true → s.core.recent = [] → exec (.vdd1v8OutOfWindow ts false torn) s = .next ((s.advance ts).lift (fun d =>
      { d with v18ok := false }))) ∧
    (s.core.v18ok = true → ∃ t : State, exec (.vdd1v8OutOfWindow ts false torn) s = .next t ∧ t.core.v18ok = false ∧
      (∀ a ∈ s.core.ledgBad, a ∈ t.core.ledgBad) ∧ (∀ r ∈ t.core.recent, r.stopped.isSome = true) ∧
      (∀ r ∈ s.core.recent, ∀ w, r.busy (s.at ts) = some w → torn.map (fun a => a / 8 * 8) = some w →
        (∀ q ∈ s.core.recent, q = r ∨ q.busy (s.at ts) = none) → w ∈ t.core.ledgBad) ∧
      s.core.only [.now, .ledgBad, .v18ok] t.core ∧ t.iram = s.iram ∧ t.dram = s.dram ∧ t.bufs = s.bufs ∧ t.pending = s.pending))

/-- R12, R57, R63-R65, R74, R547: VDD5_UV is a dangerous fault; VIN loss in RUN, with or without a working main region, begins
HOLD-UP with the OR switch on, the sag governor at level 1 and the table's entry at VIN_LOSS; OR_FAIL is recorded once, with
its verdict INCONCLUSIVE. -/
def Obligations.PowerLoss : Prop :=
  ∀ (s : State) (ts t : Nat),
    (s.core.live = true → s.core.mainAlive = true → Gives (.vdd5Uv ts) s (fun d =>
      d.get F.PWR_EVENT_VDD5_UV = 1 ∧ s.core.records 0x0109 0 (s.core.stored 0x100) (s.core.stored 0x101) d ∧
      s.core.enters .dangerous 0x0109 (s.at ts) d ∧ d.alerts 4 ∧ d.eff ≠ .watch ∧ s.core.only (.now :: errorParts) d)) ∧
    (s.core.dev = .run → Gives (.vinLoss ts) s (fun d =>
      d.dev = .holdUp ∧ d.get F.PWR_STATUS_VINLOSS = 1 ∧ d.get F.PWR_STATUS_OR_ON = 1 ∧ d.sag = 1 ∧ d.eff ≠ .watch ∧
      s.core.records 0x010D 0 (s.core.stored 0x100) (s.core.stored 0x101) d ∧ s.core.enters .vinLoss 0x010D (s.at ts) d ∧
      d.holdO = 0 ∧ d.holdAt = s.at ts ∧ d.calOpen = none ∧
      s.core.only [.now, .dev, .regs, .tellers, .awake, .tal, .watchExit, .lat, .cvs, .smbRel, .evq, .evOvf, .evDropped, .jq, .jIn, .jLost,
        .pwr, .holdE, .holdAt, .holdO, .holdShort, .calOpen, .vault] d)) ∧
    (s.core.pwr.orAt = some t → t + 20000 ≤ s.at ts → s.core.dev = .holdUp → s.core.mainAlive = true → s.core.pwr.orDone = false →
      s.core.get F.PWR_HOLDCFG_VFLOOR * 1000 < s.core.get F.PWR_HOLDV_V → Gives (.orFail ts) s (fun d =>
        d.get F.PWR_EVENT_OR_FAIL = 1 ∧ d.pwr = { s.core.pwr with orDone := true } ∧
        s.core.records 0x010A 0 (s.core.stored 0x100) (s.core.stored 0x101) d ∧ s.core.inconclusive 0x010A 0 d ∧
        s.core.only [.now, .regs, .jq, .jIn, .jLost, .fresh, .pwr] d))

/-- R49, R53, R54, R64, R66, R547: the 10 us sample stores VIN and HOLD in 100 uV and counts the samples above 82.0 V and below
80.0 V; ten above set VIN_HIGH and stop the charger, a hundred below clear it; a rail that waits for VSTART is recorded again
at each whole second. The OR switch follows VSUP and HOLD in HOLD-UP whatever has become of the main region. -/
def Obligations.PowerMonitor : Prop :=
  ∀ (s : State) (ts vin hold vsup t : Nat),
    let v := min vin 0xFFFFF
    let stopped : Prop := s.core.get F.PWR_STATUS_CHG = 4 ∨ s.core.get F.PWR_STATUS_CHG = 5
    (s.core.monUp = true → Gives (.powerEntryMonitorSample ts vin hold vsup) s (fun d =>
      d.get F.PWR_VIN_V = v ∧ d.get F.PWR_VIN_VALID = 1 ∧ d.get F.PWR_HOLDV_V = min hold 0xFFFFF ∧
      d.get F.PWR_HOLDV_VALID = 1 ∧ d.get F.PWR_VIN_SEQ = (s.core.get F.PWR_VIN_SEQ + 1) % 2 ^ F.PWR_VIN_SEQ.w ∧
      d.pwr.high = (if 820000 < v then s.core.pwr.high + 1 else 0) ∧ d.pwr.low = (if v < 800000 then s.core.pwr.low + 1 else 0) ∧
      (s.core.dev = .holdUp → vsup + 200 < hold → d.get F.PWR_STATUS_OR_ON = 1) ∧
      (s.core.dev = .holdUp → hold < vsup → d.get F.PWR_STATUS_OR_ON ≠ 1) ∧
      s.core.only [.now, .regs, .pwr, .rails, .jq, .jIn, .jLost] d)) ∧
    (s.core.monUp = true → 10 ≤ s.core.pwr.high → s.core.flag F.PWR_STATUS_VIN_HIGH = false → Gives (.vinHigh ts) s (fun d =>
      d.get F.PWR_STATUS_VIN_HIGH = 1 ∧ d.get F.PWR_EVENT_VIN_HIGH = 1 ∧
      s.core.records 0x0104 0 (s.core.stored 0x100) (s.core.stored 0x101) d ∧ s.core.inconclusive 0x0104 0 d ∧
      (¬ stopped → d.get F.PWR_STATUS_CHG = 0) ∧ s.core.only [.now, .regs, .jq, .jIn, .jLost, .fresh, .pwr] d)) ∧
    (s.core.monUp = false → Gives (.powerEntryMonitorSample ts vin hold vsup) s (fun d =>
      (s.core.dev = .holdUp → vsup + 200 < hold → d.get F.PWR_STATUS_OR_ON = 1) ∧
      (s.core.dev = .holdUp → hold < vsup → d.get F.PWR_STATUS_OR_ON ≠ 1) ∧
      s.core.only [.now, .regs, .pwr] d ∧ s.core.onlyRegs [F.PWR_STATUS_OR_ON] d)) ∧
    (s.core.monUp = true → 100 ≤ s.core.pwr.low → s.core.flag F.PWR_STATUS_VIN_HIGH = true → Gives (.vinHighClear ts) s (fun d =>
      d.get F.PWR_STATUS_VIN_HIGH = 0 ∧ s.core.only [.now, .regs, .pwr] d ∧
      s.core.onlyRegs [F.PWR_STATUS_VIN_HIGH, F.PWR_STATUS_CHG] d)) ∧
    (s.core.pwr.lowAt = some t → s.core.live = true → s.core.mainAlive = true → t + s.core.pwr.lowN * 1000000000 ≤ s.at ts →
      (∃ n, (s.core.rail n).waitVin = true) → Gives (.vinLowWait ts) s (fun d =>
        d.pwr = { s.core.pwr with lowN := s.core.pwr.lowN + 1 } ∧
        s.core.records 0x0105 0 (s.core.stored 0x100) (s.core.stored 0x101) d ∧
        s.core.only [.now, .regs, .jq, .jIn, .jLost, .pwr] d))

/-- R59-R61, R547: the charger's modes by VIN, HOLD and the sag level; it stops on TIMEOUT and HOLD_OV, with the verdict
INCONCLUSIVE, and stays stopped until a write of PWR.CHG. Where several modes hold, DROPOUT comes before CV, HALF and CC (log entry 26, the model's
choice). -/
def Obligations.Charger : Prop :=
  ∀ (s : State) (ts t : Nat),
    let chg := s.core.get F.PWR_STATUS_CHG
    let vin := s.core.get F.PWR_VIN_V
    let vcv := s.core.get F.PWR_CHG_VCV * 1000
    let hv := s.core.get F.PWR_HOLDV_V
    let may : Prop := s.core.dev = .run ∧ s.core.get F.PWR_CHG_EN = 1 ∧ s.core.get F.PWR_STATUS_VINLOSS ≠ 1 ∧
      s.core.get F.PWR_STATUS_VIN_HIGH ≠ 1 ∧ s.core.sag < 2
    let stops (c : Instr) (mode typ : Nat) (ev : Fld) : Prop := Gives c s (fun d =>
      d.get F.PWR_STATUS_CHG = mode ∧ d.get ev = 1 ∧ s.core.records typ 0 (s.core.stored 0x101) (s.core.stored 0x105) d ∧
      s.core.inconclusive typ 0 d ∧ s.core.only [.now, .regs, .jq, .jIn, .jLost, .fresh] d ∧
      s.core.onlyRegs [F.PWR_STATUS_CHG, ev, F.LEDG_JLOST_LOST, F.LEDG_EVENT_JLOST] d)
    s.core.live = true → s.core.mainAlive = true →
    (chg = 4 ∨ chg = 5 → exec (.chargerModeChange ts) s = .next (s.advance ts)) ∧
    (chg ≠ 4 → chg ≠ 5 → Gives (.chargerModeChange ts) s (fun d =>
      (¬ may → d.get F.PWR_STATUS_CHG = 0) ∧
      (may → d.get F.PWR_STATUS_CHG = (if vin < vcv + 30000 then 3 else if vcv ≤ hv then 2 else if s.core.sag = 1 then 6 else 1)) ∧
      s.core.only [.now, .regs, .pwr] d ∧ s.core.onlyRegs [F.PWR_STATUS_CHG] d)) ∧
    (chg ≠ 0 → chg ≠ 4 → chg ≠ 5 → s.core.pwr.reached = false →
      s.core.pwr.chgAt + s.core.get F.PWR_CHG_TMAX * 1000000000 ≤ s.at ts → stops (.chgTimeout ts) 4 0x0107 F.PWR_EVENT_CHG_TIMEOUT) ∧
    (chg ≠ 0 → chg ≠ 4 → chg ≠ 5 → s.core.pwr.ovAt = some t → t + 1000000 ≤ s.at ts →
      stops (.holdOv ts) 5 0x0108 F.PWR_EVENT_HOLD_OV)

/-- R68, R73: the sag governor's level by the last VIN reading, its slope and the time of its recovery, each change with
its record and cause; where VIN has long recovered it may fall from 2 to 0 at once (log entry 26, the model's choice). -/
def Obligations.SagGovernor : Prop :=
  ∀ (s : State) (ts t : Nat),
    let v := s.core.get F.PWR_VIN_V
    let sagV := s.core.get F.PWR_SAG_SAGV * 1000
    let deep := s.core.get F.PWR_SAG_SAGV * 1000 - s.core.get F.PWR_SAG_DEPTH * 5000
    let fast : Prop := ∃ f, s.core.pwr.fastAt = some f ∧ f + 50000 ≤ s.at ts
    let moves (c : Instr) (l cause : Nat) : Prop := Gives c s (fun d =>
      d.sag = l ∧ (l = 1 → d.get F.PWR_EVENT_SAG1 = 1) ∧ (l = 2 → d.get F.PWR_EVENT_SAG2 = 1) ∧
      s.core.records 0x0106 0 (BitVec.ofNat 32 l) (BitVec.ofNat 32 cause) d ∧
      s.core.only [.now, .regs, .lat, .jq, .jIn, .jLost, .pwr] d)
    s.core.sagActs = true →
    (s.core.sag < 2 → v < deep → moves (.sagLevelUp ts) 2 0) ∧
    (s.core.sag < 2 → deep ≤ v → v < sagV → fast → moves (.sagLevelUp ts) 2 1) ∧
    (s.core.sag = 0 → deep ≤ v → v < sagV → ¬ fast → moves (.sagLevelUp ts) 1 0) ∧
    (s.core.sag = 0 → sagV ≤ v → fast → moves (.sagLevelUp ts) 1 1) ∧
    (s.core.sag = 2 → s.core.pwr.rec1At = some t → t + 1000000 ≤ s.at ts → moves (.sagLevelDown ts) 1 2) ∧
    (s.core.sag = 1 → s.core.pwr.rec0At = some t → t + 1000000 ≤ s.at ts → s.core.get F.SAFE_STATUS_MONLOST ≠ 1 →
      moves (.sagLevelDown ts) 0 2)

/-- R56, R79, R84, R85, R86, R561, R680, R706: boot steps 2 and 3: the supply windows with their wait of 100 ms and three restarts,
after the third of which FLT_N is low and the device stays; the PLL's lock, which starts USEC at 0 with the vault's shadow
count (its alignment before the first close is log entry 43, the model's choice) and samples the straps, and its timeout, 0.5 ms after the
PLL's start, which the crystal oscillator puts off by up to 0.4 ms (R705). A vault that is lost does not pull FLT_N low (R562). -/
def Obligations.BootSupply : Prop :=
  ∀ (s : State) (ts t : Nat) (ok : Bool) (dadr : Fin 8),
    let step := s.core.get F.SYS_STATE_BOOTSTEP
    let stuck : Bool := decide (3 ≤ s.core.pwr.tries)
    let held (d : Dev) : Dev := { d with
      vault := { d.vault with
        mainHeld := true
        drive := if stuck = true ∧ d.vault.drive = none ∧ s.core.get F.SAFE_STATUS_VAULTLOST = 0 then some .bootFail else d.vault.drive }
      pwr := { d.pwr with
        waitAt := some d.now
        stuck := stuck } }
    s.core.dev = .boot →
    (step = 1 ∨ step = 2 → s.core.pwr.waitAt = none → exec (.vdd5SoftStartDone ts ok) s = .next ((s.advance ts).lift (fun d =>
      let a := { d.put F.SYS_STATE_BOOTSTEP 3 with pwr := { d.pwr with stepAt := d.now } }
      if ok then a else held a))) ∧
    (step = 3 → s.core.pwr.waitAt = some t → s.core.pwr.stuck = false → t + 100000000 ≤ s.at ts →
      exec (.supplyWindowRetry ts) s = .next ((s.advance ts).lift (fun d =>
        { d.put F.SYS_STATE_BOOTSTEP 2 with
          vault := { d.vault with mainHeld := d.vault.coreLost }
          pwr := { d.pwr with
            waitAt := none
            tries := d.pwr.tries + 1 } }))) ∧
    (s.core.pwr.stuck = true → exec (.supplyWindowRetry ts) s = .next (s.advance ts)) ∧
    (step = 3 → s.core.mainAlive = true → s.core.pwr.waitAt = none → s.core.usecOn = false → s.at ts ≤ s.core.pwr.stepAt + 500000 →
      Gives (.pllLock ts dadr) s (fun d => d.usecOn = true ∧ d.usec = 0 ∧ d.shadowAt = s.at ts ∧ d.get F.DPROT_STRAP_S = dadr ∧
        d.get F.SYS_STATE_BOOTSTEP = 4 ∧ s.core.only [.now, .usecOn, .usec0, .shadowAt, .regs] d ∧
        s.core.onlyRegs [F.DPROT_STRAP_S, F.SYS_STATE_BOOTSTEP] d)) ∧
    (s.core.pwr.stepAt + 900000 < s.at ts → exec (.pllLock ts dadr) s = .next (s.advance ts)) ∧
    (step = 3 → s.core.pwr.waitAt = none → s.core.pwr.stepAt + 900000 ≤ s.at ts →
      exec (.pllLockTimeout ts) s = .next ((s.advance ts).lift held)) ∧
    (s.at ts < s.core.pwr.stepAt + 500000 → exec (.pllLockTimeout ts) s = .next (s.advance ts))

/-- R87, R88, R502, R503, R512, R659, R80, R697: boot step 4, which waits for VDD1V8: BOOTNO follows the newer valid copy, or becomes 1 where neither is
valid; the folio of the new BOOTNO becomes empty; the calibration set passes and step 5 begins, or the boot fails with
cause 1 (that BOOTNO is counted then too is log entry 31, the model's choice). An uncorrectable word among those that the step reads is
counted and journalled. Nothing of the array changes but the copies and the folio. -/
def Obligations.BootCalibrationSet : Prop :=
  ∀ (s : State) (ts : Nat),
    s.core.dev = .boot → s.core.get F.SYS_STATE_BOOTSTEP = 4 → s.core.mainAlive = true → s.core.bootnoOk = false →
    (s.core.v18ok = false → exec (.calSetLoad ts) s = .next (s.advance ts)) ∧
    (s.core.v18ok = true → ∃ t : State, exec (.calSetLoad ts) s = .next t ∧ t.core.bootnoOk = true ∧
      t.core.bootno = (match s.newerCopy with
        | some (_, v) => BitVec.ofNat 32 (nextBootno v)
        | none => 1) ∧
      (s.newerCopy = none → t.core.get F.LEDG_EVENT_BOOTNO_LOST = 1) ∧
      (∀ w, s.core.ledgBad = [w] → bootReads w = true → t.core.get F.LEDG_EVENT_ECC_UNCORR = 1 ∧
        t.core.get F.LEDG_ECC_UNCORR = min (2 ^ F.LEDG_ECC_UNCORR.w - 1) (s.core.get F.LEDG_ECC_UNCORR + 1) ∧
        s.core.records 0x0A03 0 (BitVec.ofNat 32 w) 0 t.core) ∧
      t.core.get F.LEDG_FFSLOT_SLOT = t.core.bootno.toNat % 4096 ∧
      (∀ i, i < 256 → sget factoryByte t.ledger (t.core.folioAddr + i) = 0) ∧
      (t.calOk = true → t.core.dev = .boot ∧ t.core.get F.SYS_STATE_BOOTSTEP = 5) ∧
      (t.calOk = false → t.core.dev = .bootFail ∧ t.core.get F.SYS_STATE_FAILCAUSE = 1 ∧
        (s.core.get F.SAFE_STATUS_VAULTLOST = 0 → t.core.vault.drive.isSome = true)) ∧
      (∀ a, ¬ (0x208100 ≤ a ∧ a < 0x208120) → ¬ (t.core.folioAddr ≤ a ∧ a < t.core.folioAddr + 256) →
        sget factoryByte t.ledger a = sget factoryByte s.ledger a) ∧
      t.iram = s.iram ∧ t.dram = s.dram ∧ t.bufs = s.bufs ∧ t.pending = s.pending)

/-- R294-R297, R80: boot step 5: the first candidate bank that passes every check is loaded: its code stands in
instruction RAM and its data in data RAM, and step 6 begins; where none passes, the boot fails with cause 2. -/
def Obligations.BootBank : Prop :=
  ∀ (s : State) (ts : Nat),
    let u := s.advance ts
    s.core.dev = .boot → s.core.get F.SYS_STATE_BOOTSTEP = 5 → s.core.mainAlive = true →
    ((∀ b ∈ s.candidates, u.bankCode b ≠ none) → Gives (.bankLoad ts) s (fun d =>
      d.dev = .bootFail ∧ d.get F.SYS_STATE_FAILCAUSE = 2 ∧
      (s.core.get F.SAFE_STATUS_VAULTLOST = 0 → d.vault.drive.isSome = true))) ∧
    (∀ x b y, s.candidates = x ++ b :: y → (∀ c ∈ x, u.bankCode c ≠ none) → u.bankCode b = none →
      ∃ t : State, exec (.bankLoad ts) s = .next t ∧ t.core.dev = .boot ∧ t.core.get F.SYS_STATE_BOOTSTEP = 6 ∧
        t.core.get F.SYS_STATE_BANK = (if b then 1 else 0) ∧ t.core.get F.SYS_STATE_FALLBACK = (if x = [] then 0 else 1) ∧
        (∀ i, (sget (fun _ => (0 : Word)) t.iram i).toNat =
          if i < s.img b 0x1C 4 then s.img b (s.img b 0x18 4 + 4 * i) 4 else 0) ∧
        (∀ i, sget (fun _ => (0 : Byte)) t.dram i =
          if i < s.img b 0x24 4 then s.ledgerByte (bankBase b + s.img b 0x20 4 + i) else 0) ∧
        t.core.iramBad = [] ∧ t.core.dramBad = [] ∧ (∀ c : Fin 6, (t.core.cv c).calPend = true) ∧ t.ledger = s.ledger ∧
        t.bufs = s.bufs ∧ t.pending = s.pending)

/-- R76, R80, R191, R362, R403, R427, R507, R508, R528, R557, R563: boot step 7 ends with the journal's head found, SWAPSKIP at every rail,
the vault's comparison and a probe's result published, a failure declared as SELFTEST, and a word that the scrub of its four
regions finds uncorrectable, or knows to be, declared as ECC_UNCORR too and marked so; a comparison beyond 1.5 % and a converter's reading
beyond its limit are failures; boot step 8 ends in RUN with the vault's table in service and the tellers that
the image marks at their entry points, their state as RESTART leaves it. -/
def Obligations.BootEnd : Prop :=
  ∀ (s : State) (ts corrected : Nat) (fails : List (Fin 4 × Nat × Nat)) (dev : Int) (diag : List (Fin 6 × Fin 3 × Nat)) (uv ov : RailSet),
    s.core.dev = .boot → s.core.mainAlive = true →
    (s.core.get F.SYS_STATE_BOOTSTEP = 7 → Gives (.startUpSelftest ts fails corrected dev diag) s (fun d =>
      d.get F.SYS_STATE_BOOTSTEP = 8 ∧ d.get F.LEDG_STATUS_JREADY = 1 ∧ (∀ n : Fin 48, d.get (F.RAIL_WSTATUS_SWAPSKIP n) = 1) ∧
      (s.core.selfTests fails dev diag = [] → s.core.ledgBad = [] → s.core.only [.now, .regs, .checks, .cvs, .hday] d) ∧
      (150 < dev.natAbs → ((2 : Fin 4), 0, 1) ∈ s.core.selfTests fails dev diag) ∧
      (∀ (c : Fin 6) (v : Nat), diag = [(c, 1, v)] → 20 < v → ((1 : Fin 4), c.val, 4) ∈ s.core.selfTests fails dev diag) ∧
      (∀ w ∈ s.core.ledgBad, w % 8 = 0 → s.core.bootScrubs w = true → ∃ f ∈ s.core.selfTests fails dev diag, f.1 = 3 ∧ f.2.1 / 8 * 8 = w) ∧
      (s.core.vaultUp = true → s.core.usecOn = true → d.get F.VLT_REF_DEV = (dev % 65536).toNat ∧
        d.get F.VLT_STATUS_REFOK = (if dev.natAbs ≤ 150 then 1 else 0)) ∧
      (∀ (c : Fin 6) (i : Fin 3) (v : Nat), diag = [(c, i, v)] → d.get (F.CV_DIAGRES c i) % 2 ^ 20 = v % 2 ^ 20) ∧
      (∀ f, s.core.selfTests fails dev diag = [f] → s.core.ledgBad = [] → f.1 ≠ 3 → s.core.records 0x0A1C f.1 (BitVec.ofNat 32 f.2.1) (BitVec.ofNat 32 f.2.2) d) ∧
      (∀ f, s.core.selfTests fails dev diag = [f] → (∀ w ∈ s.core.ledgBad, w < journalBase) → f.1 = 3 → f.2.1 / 8 * 8 ∈ d.ledgBad ∧
        s.core.records 0x0A03 0 (BitVec.ofNat 32 (f.2.1 / 8 * 8)) 0 d ∧
        (s.core.jLost = 0 → s.core.jq.length < 120 → ∃ q ∈ d.jq, q.2.typ = 0x0A1C ∧ q.2.obj = 3 ∧ q.2.arg0 = BitVec.ofNat 32 f.2.1)) ∧
      s.core.only (.now :: .ledgBad :: .checks :: .cvs :: .hday :: errorParts) d)) ∧
    (s.core.get F.SYS_STATE_BOOTSTEP = 8 → s.core.bootProbing = false → Gives (.tellersStart ts uv ov) s (fun d =>
      d.dev = .run ∧ d.vault.loaded = true ∧ d.statAt = s.at ts ∧ d.closeAt = s.at ts ∧
      ∀ k : Fin 8, s.img (s.core.flag F.SYS_STATE_BANK) (0x44 + 8 * k.val) 1 / 8 % 2 = 1 →
        (d.teller k).pc = (d.teller k).entry ∧ (d.teller k).st ≠ .halted ∧ (d.teller k).stack = [] ∧ (d.teller k).queue = [] ∧
        (∀ r : Fin 16, (d.teller k).xr r = 0) ∧ (d.teller k).exc = false ∧ (d.teller k).trapped = false))

/-- R25, R28, R166: a reboot request of the owner of the system resource in RUN enters the table at NORMAL, SEQ_OUT low, with
the reboot to follow; in BOOT-FAIL any door's request enters BOOT at once. -/
def Obligations.Reboot : Prop :=
  ∀ (s : State) (ts : Nat) (wr : Writer) (x : Fin 4),
    (s.core.dev = .run → s.core.mainAlive = true → s.core.owner 0x7B = wr.owner → s.core.tableFree = true →
      exec (.rebootRequest ts wr) s = .next ((s.advance ts).lift (fun d => { d.put F.CASC_STATUS_SEQOUT 0 with
        calOpen := none
        vault := { d.vault with
          reboot := true
          pend := some ⟨.normal, 0, d.now, false⟩ } }))) ∧
    (s.core.dev = .bootFail → Gives (.rebootRequest ts (.door x)) s (fun d =>
      s.begins ts .boot none [F.SYS_STATE_BOOTSTEP] d ∧ d.get F.SYS_STATE_BOOTSTEP = 1))

/-- R26, R27, R364: the device thermal shutdown is a dangerous fault with FLT_N asserted; when its table is over, or 50
ms after, the device is in THERMAL-OFF with FLT_N held low, but by a lost vault (R562), and its memories list nothing (log entry 11, the
model's choice). -/
def Obligations.ThermalShutdown : Prop :=
  ∀ (s : State) (ts t : Nat) (i : Fin 4),
    (s.core.vaultUp = true → s.core.vault.thermal = none → s.core.checks.sd.get i = 8 →
      (∀ j : Fin 4, j < i → s.core.checks.sd.get j ≠ 8) → Gives (.thermalShutdown ts) s (fun d =>
        d.vault.thermal = some (s.at ts) ∧ d.vault.drive.isSome = true ∧ s.core.enters .dangerous 0x0A1E (s.at ts) d ∧
        d.alerts 4 ∧ s.core.only (.now :: errorParts) d ∧
        s.core.records 0x0A1E i (BitVec.ofInt 32 (s.core.checks.sdT.get i)) (BitVec.ofNat 32
          (bits ((List.finRange 4).map (fun j => decide (0 < s.core.checks.sd.get j))))) d)) ∧
    (s.core.vault.thermal = some t → s.core.vault.loaded = false ∨ s.core.tableRuns = false ∨ t + 50000000 ≤ s.at ts →
      ∃ r : State, exec (.thermalOffEntry ts) s = .next r ∧ r.core.dev = .thermalOff ∧ 
        r.core.vault.drive = (if s.core.get F.SAFE_STATUS_VAULTLOST = 0 then some .thermalOff else none) ∧
        r.core.rails = Dev.reset.rails ∧ r.core.tellers = Dev.reset.tellers ∧ r.core.regs = [] ∧ r.core.jq = [] ∧
        r.iram = [] ∧ r.dram = [] ∧ r.bufs = Vector.replicate 6 [] ∧ r.pending = s.pending)

/-- R37, R42, R44, R45, R201, R419: WAKE_N in WATCH records its wake event and, with WAKEXIT = 1, begins the exit to GUARD; when the
exit is complete every converter scans from slot 0, but for one whose probe dwell is still running, and no teller is
suspended. -/
def Obligations.WatchExit : Prop :=
  ∀ (s : State) (ts : Nat),
    let probed (c : Fin 6) : Bool := match (s.core.cv c).op with
      | .own _ => true
      | _ => false
    s.core.live = true → s.core.mainAlive = true →
    (s.core.eff = .watch → Gives (.wakePin ts) s (fun d =>
      d.get F.SYS_WAKE_WAKEPIN = 1 ∧ s.core.only [.now, .regs, .tellers, .awake, .tal, .watchExit, .lat, .cvs, .smbRel, .evq, .evOvf, .evDropped] d ∧
      d.awake = true ∧ (s.core.get F.SYS_MODE_WAKEXIT = 1 → d.eff = .guard ∧ d.get F.SYS_MODE_REQ = 0 ∧ d.watchExit = true) ∧
      (s.core.get F.SYS_MODE_WAKEXIT ≠ 1 → d.eff = .watch))) ∧
    (s.core.watchExit = true → Gives (.watchExitComplete ts) s (fun d =>
      d.watchExit = false ∧
      (∀ c : Fin 6, probed c = false → (d.cv c).op = .scan ∧ (d.cv c).slot = 0 ∧ (d.cv c).began = s.at ts) ∧
      (∀ c : Fin 6, probed c = true → (d.cv c).op = (s.core.cv c).op ∧ (d.cv c).began = (s.core.cv c).began) ∧
      (∀ k : Fin 8, (s.core.teller k).held ≠ .suspended → (d.teller k).st ≠ .suspended) ∧
      ((∀ (n : Fin 48) (ov : Bool), s.core.flag (routeCap n ov) = false) →
        ∀ k : Fin 8, (s.core.teller k).st ≠ .suspended → d.teller k = s.core.teller k) ∧
      s.core.only [.now, .watchExit, .cvs, .regs, .rails, .tellers, .preqs, .smbRel, .evq, .evOvf, .evDropped] d))

/-! ### Steps and reset -/

/-- A step takes the command at the front of the queue and carries it out with the rest of the queue; on an empty queue
the block idles (log entry 3). -/
def Obligations.StepRunsFront : Prop :=
  ∀ (s : State) (c : Instr) (rest : List Instr),
    (s.pending = c :: rest → step s = exec c { s with pending := rest }) ∧ (s.pending = [] → step s = .next s)

/-- R22, R651, R658, R721: after reset the device is UNPOWERED; every register field reads its reset value; every rail is
UNUSED, every teller HALTED and no resource owned; the ledger reads as the factory left it; no command waits, and every
memory has its canonical form. -/
def Obligations.ResetState : Prop :=
  State.reset.core.dev = .unpowered ∧ (∀ f : Fld, State.reset.core.get f = fieldReset f.key) ∧
    (∀ n : Fin 48, (State.reset.core.rail n).code = .unused ∧ (State.reset.core.rail n).out = .off) ∧
    (∀ k : Fin 8, (State.reset.core.teller k).st = .halted) ∧ (∀ r : BitVec 8, State.reset.core.owner r = .none) ∧
    (∀ a, sget factoryByte State.reset.ledger a = factoryByte a) ∧ State.reset.copyValid 0 = true ∧
    State.reset.copyValid 1 = true ∧ State.reset.pending = [] ∧ State.reset.memWf = true ∧
    State.reset.ledgerIn = true

/-- Every step keeps the canonical form of the ledger, of instruction RAM, of data RAM and of the capture buffers. -/
def Obligations.MemoryFormKept : Prop :=
  ∀ s t : State, s.memWf = true → step s = .next t → t.memWf = true

/-! ### Closes and time (01, 03) -/

/-- R17, R19, R20, R31, R32, R35, R85, R184, R185, R220, R587, R590, R592, R601, R602, R604: a close comes 10.24 us after the last (in WATCH
51.2 us), not before; it empties the tellers' queues and aligns the vault's shadow count, which stands apart once the vault stamps with it.
A door's requested statement of at least 0.2 us is copied, SGEN counts it and the STMT cause (bit 1) rises; a posting that
had overflowed is answered with result 2, COUNT (0x0A). A posting is applied, or refused whole with the reason and index of its first
refused entry (both shown for RAIL[n].TIMING); a teller's request for what another owns sets D and LASTREF; of two requests of a teller
for the same fields the later stands, with no flag; of two tellers' the higher-ranked one's stands and the other learns TELLER_RANK. The
effective mode follows the request, AUDIT as heat, throttling and the sag governor allow; a request for WATCH takes the device there where
the conditions hold, and is refused with MODE_REFUSED (0x1D) where they do not, and with it the posting that holds it (log entry 17, the
model's choice). -/
def Obligations.Close : Prop :=
  ∀ (s : State) (ts at_ : Nat) (x : Fin 4) (n m : Fin 48) (j k : Fin 8) (v w : Word) (pc qc : BitVec 16),
    let u := (s.advance ts).core
    let due := s.core.closeAt + (if s.core.eff = .watch then 51200 else 10240)
    let asked (x : Fin 4) : Prop := ∃ t, (s.core.door x).sreq = some t ∧ t + 200 ≤ s.at ts
    let noTeller : Prop := ∀ k : Fin 8, (s.core.teller k).queue = []
    let noDoor : Prop := ∀ y : Fin 4, (s.core.door y).queue = []
    let item (q : DoorItem) : Prop := noTeller ∧ (∀ y : Fin 4, y ≠ x → (s.core.door y).queue = []) ∧
      (s.core.door x).queue = [(at_, q)] ∧ at_ + 200 ≤ s.at ts ∧ (s.core.door x).povf = false
    let write (n : Fin 48) (v : Word) : RegWrite := ⟨0x402 + 0x40 * n, 0xFFFFFFFF, v⟩
    let asks (k : Fin 8) (qs : List (BitVec 16 × Word)) : Prop :=
      (s.core.teller k).queue = qs.map (fun q => ⟨q.1, .writes [write n q.2] false⟩)
    let field (v : Word) (lo w : Nat) : Nat := v.toNat / 2 ^ lo % 2 ^ w
    let inside (v : Word) : Prop := 1 ≤ field v 0 14 ∧ field v 0 14 ≤ 10000 ∧ 1 ≤ field v 14 10 ∧ field v 14 10 ≤ 1000 ∧ 1 ≤ field v 24 8
    let taken (v : Word) (d : Dev) : Prop := d.get (F.RAIL_TIMING_QUAL n) = field v 0 14 ∧
      d.get (F.RAIL_TIMING_RISETO n) = field v 14 10 ∧ d.get (F.RAIL_TIMING_FALLTO n) = field v 24 8
    let stands (d : Dev) : Prop := ∀ f ∈ [F.RAIL_TIMING_QUAL n, F.RAIL_TIMING_RISETO n, F.RAIL_TIMING_FALLTO n], d.get f = s.core.get f
    let refused (d : Dev) (why i : Nat) : Prop := d.get (F.DOOR_PRES_RESULT x) = 2 ∧ d.get (F.DOOR_PRES_READY x) = 1 ∧
      d.get (F.DOOR_PRES_REASON x) = why ∧ d.get (F.DOOR_PRES_INDEX x) = i ∧ (d.door x).entries = [] ∧
      (d.get (F.DOOR_ACAUSE_CAUSE x)).testBit 3 = true
    let wmode : RegWrite := ⟨0x0005, 3, 2⟩
    let closes (P : Dev → Prop) : Prop := Gives (.close ts) s P
    let steady : Prop := s.core.mgEnd = 0 ∧ s.core.eff ≠ .watch ∧ s.core.watchExit = false
    let limits (d : Dev) (heat sag : Prop) : Prop := (d.get F.SYS_MODE_LIM_HEAT = 1 ↔ heat) ∧ (d.get F.SYS_MODE_LIM_SAG = 1 ↔ sag)
    s.core.live = true → s.core.mainAlive = true →
    (s.at ts < due → exec (.close ts) s = .next (s.advance ts)) ∧
    (due ≤ s.at ts → Gives (.close ts) s (fun d =>
      d.closeAt = s.at ts ∧ d.checks.lastClose = s.at ts ∧ d.sampled = false ∧ d.vaultRails = 0 ∧ d.vaultMargins = false ∧
      d.shadowAt = (if s.core.vault.shadow = true then s.core.shadowAt else s.at ts) ∧
      (∀ k : Fin 8, (d.teller k).queue = []) ∧
      ((∀ k : Fin 8, (s.core.teller k).queue = []) → (∀ x : Fin 4, (s.core.door x).queue = []) → ∀ x : Fin 4,
        (¬ asked x → d.door x = s.core.door x) ∧
        (asked x → (d.door x).sreq = none ∧ (d.door x).sready = true ∧ (d.door x).hold = true ∧
          (d.door x).entries = (s.core.door x).entries ∧
          d.get (F.DOOR_SGEN_GEN x) = (s.core.get (F.DOOR_SGEN_GEN x) + 1) % 2 ^ (F.DOOR_SGEN_GEN x).w ∧ (d.get (F.DOOR_ACAUSE_CAUSE x)).testBit 1 = true)) ∧
      (∀ (x : Fin 4) (t : Nat), (∀ k : Fin 8, (s.core.teller k).queue = []) →
        (∀ y : Fin 4, y ≠ x → (s.core.door y).queue = []) → (s.core.door x).queue = [(t, .post)] → t + 200 ≤ s.at ts →
        (s.core.door x).povf = true →
        d.get (F.DOOR_PRES_RESULT x) = 2 ∧ d.get (F.DOOR_PRES_READY x) = 1 ∧ d.get (F.DOOR_PRES_REASON x) = 0x0A ∧
          (d.door x).entries = [] ∧ (d.door x).povf = false ∧ (d.get (F.DOOR_ACAUSE_CAUSE x)).testBit 3 = true))) ∧
    (due ≤ s.at ts →
      (item .post → (s.core.door x).entries = [write n v] → s.core.owner (BitVec.ofNat 8 n) = .door x → inside v →
        closes (fun d => taken v d ∧ d.get (F.DOOR_PRES_RESULT x) = 1 ∧ d.get (F.DOOR_PRES_READY x) = 1 ∧ (d.door x).entries = [] ∧
          (d.get (F.DOOR_ACAUSE_CAUSE x)).testBit 2 = true)) ∧
      (item .post → (s.core.door x).entries = [write n v, write m w] → s.core.owner (BitVec.ofNat 8 n) = .door x → inside v →
        s.core.owner (BitVec.ofNat 8 m) ≠ .door x → closes (fun d => stands d ∧ refused d 0x02 1)) ∧
      (noDoor → asks k [(pc, v)] → (∀ l, l ≠ k → (s.core.teller l).queue = []) →
        (s.core.owner (BitVec.ofNat 8 n) = .program → inside v → closes (fun d => taken v d ∧ (d.teller k).d = (s.core.teller k).d)) ∧
        (s.core.owner (BitVec.ofNat 8 n) ≠ .program → closes (fun d => stands d ∧ (d.teller k).d = true ∧ (d.teller k).refWhy = 0x02 ∧
          (d.teller k).refPc = pc))) ∧
      (noDoor → asks k [(pc, v), (qc, w)] → (∀ l, l ≠ k → (s.core.teller l).queue = []) →
        s.core.owner (BitVec.ofNat 8 n) = .program → inside w → closes (fun d => taken w d ∧ (d.teller k).d = (s.core.teller k).d)) ∧
      (noDoor → j ≠ k → asks j [(pc, v)] → asks k [(qc, w)] → (∀ l, l ≠ j → l ≠ k → (s.core.teller l).queue = []) →
        s.core.tellerRank j < s.core.tellerRank k → s.core.owner (BitVec.ofNat 8 n) = .program → inside v → inside w →
        closes (fun d => taken v d ∧ (d.teller j).d = (s.core.teller j).d ∧ (d.teller k).d = true ∧ (d.teller k).refWhy = 0x08 ∧
          (d.teller k).refPc = qc))) ∧
    (due ≤ s.at ts → steady →
      (noTeller → noDoor →
        (s.core.get F.SYS_MODE_REQ = 0 → closes (fun d => d.eff = .guard ∧ limits d False False)) ∧
        (s.core.get F.SYS_MODE_REQ = 1 → 1 ≤ s.core.sag ∨ 3 ≤ s.core.level → closes (fun d => d.eff = .guard ∧
          limits d (3 ≤ s.core.level) (1 ≤ s.core.sag))) ∧
        (s.core.get F.SYS_MODE_REQ = 1 → s.core.sag = 0 → s.core.level < 3 →
          s.core.eff = .audit ∨ u.heatNow (s.core.get F.PURSE_HEATCFG_AUDIT) = true →
            closes (fun d => d.eff = .audit ∧ limits d False False)) ∧
        (s.core.get F.SYS_MODE_REQ = 1 → s.core.sag = 0 → s.core.level < 3 → s.core.eff = .guard →
          u.heatNow (s.core.get F.PURSE_HEATCFG_AUDIT) = false → closes (fun d => d.eff = .guard ∧ limits d True False))) ∧
      (item (.write wmode) → s.core.owner 0x7B = .door x →
        (u.watchOk = true → closes (fun d => d.eff = .watch ∧ d.get F.SYS_MODE_REQ = 2)) ∧
        (u.watchOk = false → closes (fun d => d.eff ≠ .watch ∧ d.get F.SYS_MODE_REQ = s.core.get F.SYS_MODE_REQ ∧
          d.get (F.DOOR_WRES_REG x) = 5 ∧ d.get (F.DOOR_WRES_REASON x) = 0x1D))) ∧
      (item .post → s.core.owner 0x7B = .door x → s.core.get F.SYS_MODE_REQ ≠ 2 →
        (u.watchOk = true → (s.core.door x).entries = [wmode] →
          closes (fun d => d.eff = .watch ∧ d.get (F.DOOR_PRES_RESULT x) = 1)) ∧
        (u.watchOk = false → (s.core.door x).entries = [write n v, wmode] → s.core.owner (BitVec.ofNat 8 n) = .door x → inside v →
          closes (fun d => d.eff ≠ .watch ∧ d.get F.SYS_MODE_REQ = s.core.get F.SYS_MODE_REQ ∧ stands d ∧ refused d 0x1D 1))))

/-- R89, R90, R502, R510, R512, R697: ahead of the wrap, behind a waiting folio, BOOTNO + 1 stands in the older copy, which is then
valid; at the wrap BOOTNO takes that value, USEC begins again, the folio of the new BOOTNO is empty (where VDD1V8 lets the array
be written), no verdict to come belongs to it, and a WRAP record keeps the old BOOTNO.

R112-R120: every enabled gate whose target the angle it watches has crossed since the last comparison, in a direction it
takes, sets FIRED, or OVR where FIRED stands, ends the WANG that waits for it and presents its capture (its route is an
operand, log entry 22); so does a gate that a step of QUAD's angle made due, its wrap among them; a shutter blanks its rails from the entry of its window to its exit or to MAXT. -/
def Obligations.TimeAngles : Prop :=
  (∀ (s : State) (ts : Nat),
    let u := s.advance ts
    (∀ i v, s.core.bootnoOk = true → s.core.ledgerOn = true → s.core.folioWaits = false → s.core.wrapCopy = false → s.newerCopy = some (i, v) →
      2 ^ 48 - 1 - 1000000 ≤ u.core.usec.toNat → u.core.usec.toNat + 1000 ≤ 2 ^ 48 - 1 →
      ∃ t : State, exec (.usecWrapCopy ts) s = .next t ∧ t.core.wrapCopy = true ∧ t.copyValid (1 - i) = true ∧
        t.ledgerNat (0x208100 + 16 * (1 - i)) 4 = nextBootno v ∧
        (∀ a, ¬ (0x208100 + 16 * (1 - i) ≤ a ∧ a < 0x208110 + 16 * (1 - i)) →
          sget factoryByte t.ledger a = sget factoryByte s.ledger a) ∧
        s.core.only [.now, .wrapCopy, .ledgBad] t.core ∧ t.iram = s.iram ∧ t.dram = s.dram ∧ t.bufs = s.bufs ∧ t.pending = s.pending) ∧
    (s.core.usecOn = true → s.core.wrapCopy = true → s.core.usec0 + 2 ^ 48 * 1000 ≤ s.at ts →
      ∃ t : State, exec (.usecWrap ts) s = .next t ∧ t.core.bootno = BitVec.ofNat 32 (nextBootno s.core.bootno.toNat) ∧
        t.core.usec0 = s.core.usec0 + 2 ^ 48 * 1000 ∧ t.core.wrapCopy = false ∧ t.core.folio = none ∧
        t.core.get F.LEDG_STATUS_FFFULL = 0 ∧ t.core.get F.LEDG_STATUS_FFVERD = 0 ∧ t.core.get F.TALLY_EVENT_WRAP = 1 ∧
        t.core.get F.LEDG_FFSLOT_SLOT = t.core.bootno.toNat % 4096 ∧
        s.core.records 0x0103 0 s.core.bootno 0xFFFFFFFF t.core ∧ (∀ p ∈ t.core.probes ++ t.core.probing, p.folio = false) ∧
        (s.core.ledgerOn = true → ∀ i, i < 256 → sget factoryByte t.ledger (t.core.folioAddr + i) = 0) ∧
        (s.core.ledgerOn = false → t.ledger = s.ledger) ∧
        (∀ a, ¬ (s.core.folioAddr ≤ a ∧ a < s.core.folioAddr + 256) → ¬ (t.core.folioAddr ≤ a ∧ a < t.core.folioAddr + 256) →
          sget factoryByte t.ledger a = sget factoryByte s.ledger a) ∧
        s.core.only [.now, .bootno, .usec0, .wrapCopy, .folio, .folioVer, .folioDone, .folioVdone, .regs, .jq, .jIn, .jLost,
          .ledgBad, .probes, .probing] t.core ∧ t.iram = s.iram ∧ t.dram = s.dram ∧ t.bufs = s.bufs ∧ t.pending = s.pending)) ∧
  (∀ (s : State) (ts : Nat) (g n : Fin 16) (r : Fin 48),
    let u := (s.advance ts).core
    let tgt := s.core.get (F.AG_TARGET g) % 65536
    let a := s.core.tal.gateA
    let z := s.core.tal.gateS
    let crossesA : Prop := tgt ≠ a ∧ (tgt + 65536 - a) % 65536 ≤ (u.ang.toNat + 65536 - a) % 65536
    let crossesS : Prop := z + 65536 ≤ u.sturn ∨ (tgt ≠ z % 65536 ∧ (tgt + 65536 - z % 65536) % 65536 ≤ u.sturn - z)
    let watched : Prop := (s.core.get F.TALLY_CFG_SRC = 2 ∧ s.core.aligned = true ∧ crossesA) ∨
      (s.core.get (F.AG_FB g) = 1 ∧ s.core.synthOn = true ∧ crossesS)
    let fired := (s.core.get F.AG_FIRED_FIRED).testBit g
    let gate (routes : List (Fin 16 × Fin 48)) (P : Dev → Prop) : Prop := Gives (.angleGateFire ts routes) s P
    let alone (r : Fin 48) : Prop := ∀ m : Fin 16, m ≠ n → s.core.blanks m = true → railIn (s.core.shutterSet m) r = false
    let ends (d : Dev) : Prop := d.blanks n = false ∧
      (∀ t, (s.core.rail r).blankAt = some t → alone r → (d.rail r).blankAt = none ∧
        (d.rail r).blankWas.head? = some (t, s.at ts) ∧ (d.rail r).published = false)
    (s.core.live = true → s.core.mainAlive = true → s.core.eff ≠ .watch → s.core.tal.gateDue = [] → s.core.get (F.AG_EN g) = 1 →
      (s.core.get (F.AG_DIR g)).testBit 0 = true → watched → a < 65536 →
      gate [] (fun d =>
        (d.get F.AG_FIRED_FIRED).testBit g = true ∧ (fired = true → (d.get F.AG_OVR_OVR).testBit g = true) ∧
        (fired = false → (d.get F.AG_OVR_OVR).testBit g = (s.core.get F.AG_OVR_OVR).testBit g) ∧
        (s.core.get (F.AG_ONCE g) = 1 → d.get (F.AG_EN g) = 0) ∧ (s.core.get (F.AG_ONCE g) ≠ 1 → d.get (F.AG_EN g) = 1) ∧
        (∀ k f dl, (s.core.teller k).wait = some (.wang g f dl) → (d.teller k).wait = some (.wang g true dl)) ∧
        d.tal.gateDue = [] ∧ s.core.only [.now, .regs, .tellers, .tal] d ∧
        s.core.onlyRegs ([F.AG_FIRED_FIRED, F.AG_OVR_OVR] ++ (List.finRange 16).map F.AG_EN) d) ∧
      (s.core.capTakes (cvOf r) = false → gate [(g, r)] (fun d => d.get (F.CAP_EVENT_MISS (cvOf r)) = 1 ∧
        (d.get F.AG_FIRED_FIRED).testBit g = true)) ∧
      (s.core.capTakes (cvOf r) = true → u.cvBusy (cvOf r) ⟨.gate g, chOf r, true, u.stamp, u.arrival (cvOf r)⟩ = false →
        gate [(g, r)] (fun d => (d.cv (cvOf r)).arriving = some ⟨.gate g, chOf r, true, u.stamp, u.arrival (cvOf r)⟩))) ∧
    (s.core.live = true → s.core.mainAlive = true → s.core.eff ≠ .watch → s.core.tal.gateDue = [g] →
      s.core.get F.TALLY_CFG_SRC = 1 → (∀ q : Fin 16, s.core.get (F.AG_FB q) = 0) → s.core.get (F.AG_EN g) = 1 → gate [] (fun d =>
        (d.get F.AG_FIRED_FIRED).testBit g = true ∧ (fired = true → (d.get F.AG_OVR_OVR).testBit g = true) ∧
        (fired = false → (d.get F.AG_OVR_OVR).testBit g = (s.core.get F.AG_OVR_OVR).testBit g) ∧
        (s.core.get (F.AG_ONCE g) = 1 → d.get (F.AG_EN g) = 0) ∧ (s.core.get (F.AG_ONCE g) ≠ 1 → d.get (F.AG_EN g) = 1) ∧
        (∀ k f dl, (s.core.teller k).wait = some (.wang g f dl) → (d.teller k).wait = some (.wang g true dl)) ∧
        (∀ q : Fin 16, q ≠ g → (d.get F.AG_FIRED_FIRED).testBit q = (s.core.get F.AG_FIRED_FIRED).testBit q) ∧
        d.tal.gateDue = [] ∧ s.core.only [.now, .regs, .tellers, .tal] d)) ∧
    (s.core.live = true → s.core.eff ≠ .watch → s.core.get (F.SH_CTL_EN n) = 1 → s.core.blanks n = false →
      (s.core.shutter n).spent = false → u.inShutter n = true → Gives (.shutterBlankStart ts n) s (fun d =>
        d.blanks n = true ∧ (d.shutter n).since = s.at ts ∧
        (railIn (s.core.shutterSet n) r = true → (s.core.rail r).blankAt = none → (s.core.rail r).published = true →
          (d.rail r).blankAt = some (s.at ts)) ∧
        s.core.only [.now, .regs, .shutters, .rails] d ∧ s.core.onlyRegs [F.SH_ACTIVE_ACTIVE] d)) ∧
    (u.inShutter n = false →
      (s.core.blanks n = true → Gives (.shutterBlankEnd ts n) s (fun d => ends d ∧
        s.core.only [.now, .regs, .shutters, .rails] d ∧ s.core.onlyRegs [F.SH_ACTIVE_ACTIVE] d)) ∧
      (s.core.blanks n = false → Gives (.shutterBlankEnd ts n) s (fun d => (d.shutter n).spent = false ∧
        s.core.only [.now, .shutters] d))) ∧
    (s.core.blanks n = true → (s.core.shutter n).since + s.core.get (F.SH_CTL_MAXT n) * 1000 ≤ s.at ts →
      Gives (.shutterCapped ts n) s (fun d => ends d ∧ (d.get F.SH_CAPPED_CAPPED).testBit n = true ∧ (d.shutter n).spent = true ∧
        s.core.only [.now, .regs, .shutters, .rails] d ∧ s.core.onlyRegs [F.SH_ACTIVE_ACTIVE, F.SH_CAPPED_CAPPED] d)))

/-- R97-R102, R105, R108, R109, R113, R115 (the model's choices: the edge rate by the mode, log entry 36, and what an index and an edge do
in LOST, log entry 41): QUAD counting: the position, REV and ANGLE of a transition that FILT and the edge
rate accept and the gates that it makes due, the loss of an index, an illegal transition with its count and record, and what
an index pulse does to P, REV and the state.

R97, R103-R109 (an illegal period in SEEKING: log entry 36, the model's choice): SYNC: what an accepted edge does to ANGLE, REV, the measured period and the state; the wrap of ANGLE; FLYWHEEL
and its end; and the record of the errors counted within the last second. -/
def Obligations.TallyPositions : Prop :=
  (∀ (s : State) (ts stable : Nat) (q : QStep),
    let t := s.core.tal
    let stands : Prop := (s.core.get F.TALLY_CFG_FILT + 1) * 40 ≤ stable
    let paced : Prop := ∀ x, t.quadAt = some x → x + (if s.core.eff = .watch then 500 else 100) ≤ s.at ts
    let c := s.core.cpr
    let st := s.core.get F.TALLY_POS_STATE
    let back := (q == .backward) != s.core.flag F.TALLY_CFG_DIRINV
    let p := if back then (if t.p = 0 then c - 1 else t.p - 1) else (if c ≤ t.p + 1 then 0 else t.p + 1)
    let passes : Prop := if back then t.p = 0 else c ≤ t.p + 1
    let travel := t.travel + (if back then -1 else 1)
    let tol := s.core.get F.TALLY_CFG_IDXTOL
    let seen := 1 + (t.illegal.filter (fun x => decide (t.counts < x + c))).length
    let lost (cause : Nat) (d : Dev) : Prop := d.get F.TALLY_POS_STATE = 4 ∧ d.get F.TALLY_EVENT_LOST = 1 ∧
      (cause = 5 → s.core.records 0x0203 0 5 (BitVec.ofNat 32 (s.core.get F.TALLY_PERIOD_T)) d)
    let lossParts : List Part := [.now, .tal, .rev, .angle, .shutters, .rails] ++ errorParts
    let a := s.core.angle.toNat
    let b := (p * 65536 / c) % 65536
    let crosses (g : Fin 16) : Prop :=
      let x := s.core.get (F.AG_TARGET g) % 65536
      a ≠ x ∧ (if back then (a + 65536 - x) % 65536 ≤ (a + 65536 - b) % 65536 else (x + 65536 - a) % 65536 ≤ (b + 65536 - a) % 65536)
    s.core.live = true → s.core.mainAlive = true → s.core.get F.TALLY_CFG_SRC = 1 → stands →
    (st ≠ 4 → q ≠ .illegal → paced → (st ≠ 2 ∨ travel.natAbs ≤ c + tol) → Gives (.quadCount ts q stable) s (fun d =>
      d.tal.p = p ∧ d.angle = BitVec.ofNat 16 (p * 65536 / c) ∧ d.tal.travel = travel ∧ d.tal.counts = t.counts + 1 ∧
      (t.first = true ∨ ¬ passes → d.rev = s.core.rev) ∧
      (t.first = false → passes → d.rev = (if back then s.core.rev - 1 else s.core.rev + 1)) ∧
      d.get F.TALLY_POS_REVDIR = (if back then 1 else 0) ∧
      (∀ g : Fin 16, s.core.eff ≠ .watch → st = 2 ∨ st = 3 → s.core.get (F.AG_EN g) = 1 →
        (s.core.get (F.AG_DIR g)).testBit (if back then 1 else 0) = true → crosses g → g ∈ d.tal.gateDue) ∧
      s.core.only [.now, .tal, .rev, .angle, .regs] d ∧
      s.core.onlyRegs [F.TALLY_POS_REVDIR] d)) ∧
    (st = 2 → q ≠ .illegal → paced → c + tol < travel.natAbs → Gives (.quadCount ts q stable) s (fun d =>
      lost 5 d ∧ d.tal.p = p ∧ s.core.only lossParts d)) ∧
    (paced → Gives (.quadCount ts .illegal stable) s (fun d =>
      d.get F.TALLY_ERR_QERR = min (2 ^ F.TALLY_ERR_QERR.w - 1) (s.core.get F.TALLY_ERR_QERR + 1) ∧ d.get F.TALLY_EVENT_QERR = 1 ∧
      (t.qAt = none → s.core.records 0x0205 0 (BitVec.ofNat 32 (t.qWait + 1)) 0 d) ∧
      (st ≠ 4 → s.core.get F.TALLY_CFG_QERRMAX < seen → lost 1 d ∧ s.core.only lossParts d) ∧
      (st = 4 ∨ seen ≤ s.core.get F.TALLY_CFG_QERRMAX → s.core.only [.now, .tal, .regs, .jq, .jIn, .jLost] d ∧
        d.get F.TALLY_POS_STATE = st ∧ d.tal.p = t.p))) ∧
    (st = 4 → q ≠ .illegal → paced → exec (.quadCount ts q stable) s =
      .next ((s.advance ts).lift (fun d => { d with tal := { d.tal with quadAt := some d.now } }))) ∧
    (¬ paced → exec (.quadCount ts q stable) s = .next (s.advance ts)) ∧
    Gives (.indexPulse ts stable) s (fun d =>
      (st = 4 → d.get F.TALLY_POS_STATE = 1 ∧ d.rev = s.core.rev ∧ d.tal.first = true) ∧
      (st ≠ 4 → d.tal.p = 0 ∧ d.angle = 0 ∧ d.tal.travel = 0 ∧ d.rev = (if c ≤ 2 * t.p then s.core.rev + 1 else s.core.rev) ∧
        (t.first = true → d.get F.TALLY_POS_STATE = 2 ∧ d.tal.first = false) ∧
        (t.first = false → ¬ (tol < t.p ∧ t.p + tol < c) → d.tal.lastBad = false ∧ d.get F.TALLY_POS_STATE = st) ∧
        (t.first = false → tol < t.p → t.p + tol < c →
          d.get F.TALLY_ERR_INDEX = min (2 ^ F.TALLY_ERR_INDEX.w - 1) (s.core.get F.TALLY_ERR_INDEX + 1) ∧ d.get F.TALLY_EVENT_INDEX_ERR = 1 ∧
          (t.lastBad = false → d.tal.lastBad = true ∧ d.get F.TALLY_POS_STATE = st) ∧ (t.lastBad = true → lost 2 d))) ∧
      (∀ i, t.indexAt = some i → d.get F.TALLY_PERIOD_T = min ((s.at ts - i) / 8) 0x1FFFFFF) ∧
      d.tal.indexAt = some (s.at ts) ∧ s.core.only lossParts d)) ∧
  (∀ (s : State) (ts t stable : Nat) (rising : Bool) (k : TErr),
    let u := (s.advance ts).core
    let st := s.core.get F.TALLY_POS_STATE
    let edge := s.core.get F.TALLY_CFG_EDGE
    let T := (s.at ts - t) / 8
    let period := s.core.get F.TALLY_PERIOD_T * 8
    let tol := s.core.get F.TALLY_CFG_SYNCTOL
    let like (o : Nat) : Prop := (if T ≤ o then o - T else T - o) * 100 ≤ tol * o
    let cnt (k : TErr) : Nat := match k with | .qerr => s.core.tal.qWait | .indexErr => s.core.tal.iWait | .syncJump => s.core.tal.sWait
    let last (x : Tally) (k : TErr) : Option Nat := match k with | .qerr => x.qAt | .indexErr => x.iAt | .syncJump => x.sAt
    let typ (k : TErr) : Nat := match k with | .qerr => 0x0205 | .indexErr => 0x0206 | .syncJump => 0x0207
    s.core.live = true → s.core.mainAlive = true →
    (s.core.get F.TALLY_CFG_SRC = 2 → (edge = 0 ∧ rising = true) ∨ (edge = 1 ∧ rising = false) ∨ 2 ≤ edge →
      (s.core.get F.TALLY_CFG_FILT + 1) * 40 ≤ stable → Gives (.syncEdge ts rising stable) s (fun d =>
        d.rev = (if 32768 ≤ u.ang.toNat then s.core.rev + 1 else s.core.rev) ∧ d.tal.angleAt = s.at ts ∧
        d.tal.edgeAt = some (s.at ts) ∧ s.core.only ([.now, .tal, .rev, .angle, .shutters, .rails] ++ errorParts) d ∧
        (st = 4 → d.get F.TALLY_POS_STATE = 1 ∧ d.tal.period = none ∧
          (s.core.tal.edgeAt = some t → d.get F.TALLY_PERIOD_T = min T 0x1FFFFFF)) ∧
        (st ≠ 4 → s.core.tal.edgeAt = none → s.core.only [.now, .tal, .rev, .angle] d) ∧
        (st ≠ 4 → s.core.tal.edgeAt = some t →
          (T < 250 ∨ 25000000 < T →
            (st = 1 → d.get F.TALLY_PERIOD_T = s.core.get F.TALLY_PERIOD_T ∧ d.get F.TALLY_POS_STATE = 1) ∧
            (st ≠ 1 → d.get F.TALLY_PERIOD_T = min T 0x1FFFFFF ∧ d.get F.TALLY_POS_STATE = 4)) ∧
          (250 ≤ T → T ≤ 25000000 → d.get F.TALLY_PERIOD_T = T ∧ d.tal.period = some T ∧
            (st = 3 → d.get F.TALLY_POS_STATE = 2 ∧ d.get F.TALLY_EVENT_LOCK = 1) ∧
            (∀ o, st = 1 → s.core.tal.period = some o → like o → s.core.tal.alike = 3 →
              d.get F.TALLY_POS_STATE = 2 ∧ d.get F.TALLY_EVENT_LOCK = 1) ∧
            (∀ o, st = 1 → s.core.tal.period = some o → ¬ like o → d.get F.TALLY_POS_STATE = 1 ∧ d.tal.alike = 0) ∧
            (∀ o, st = 2 → s.core.tal.period = some o → ¬ like o → d.get F.TALLY_EVENT_SYNCJUMP = 1 ∧
              d.get F.TALLY_ERR_SYNCJUMP = min (2 ^ F.TALLY_ERR_SYNCJUMP.w - 1) (s.core.get F.TALLY_ERR_SYNCJUMP + 1) ∧
              d.get F.TALLY_POS_STATE = 2))))) ∧
    (s.core.get F.TALLY_CFG_SRC = 2 → 0 < period →
      (st = 1 ∨ st = 2 ∨ st = 3 → s.core.tal.angleAt + period ≤ s.at ts →
        exec (.syncAngleWrap ts) s = .next ((s.advance ts).lift (fun d => { d.gateSettle with
          rev := d.rev + 1
          tal := { d.gateSettle.tal with angleAt := d.tal.angleAt + period } }))) ∧
      (st = 2 → s.core.tal.edgeAt = some t → t + period * (100 + tol) / 100 ≤ s.at ts → Gives (.tallyFlywheel ts) s (fun d =>
        d.get F.TALLY_POS_STATE = 3 ∧ d.get F.TALLY_EVENT_FLY = 1 ∧ d.rev = s.core.rev ∧
        s.core.records 0x0202 0 0 (BitVec.ofNat 32 (s.core.get F.TALLY_PERIOD_T)) d ∧
        s.core.only [.now, .tal, .angle, .regs, .jq, .jIn, .jLost, .shutters, .rails] d)) ∧
      (st = 3 → s.core.tal.edgeAt = some t → t + period * (1 + s.core.get F.TALLY_CFG_FLYN) ≤ s.at ts →
        Gives (.flywheelExhausted ts) s (fun d => d.get F.TALLY_POS_STATE = 4 ∧ d.get F.TALLY_EVENT_LOST = 1 ∧
          s.core.records 0x0203 0 4 (BitVec.ofNat 32 (s.core.get F.TALLY_PERIOD_T)) d ∧
          s.core.only ([.now, .tal, .rev, .angle, .shutters, .rails] ++ errorParts) d))) ∧
    (cnt k ≠ 0 → (∀ l, last s.core.tal k = some l → l + 1000000000 ≤ s.at ts) → Gives (.tallyErrReport ts k) s (fun d =>
      s.core.records (typ k) 0 (BitVec.ofNat 32 (cnt k)) 0 d ∧ d.tallyWaiting k = 0 ∧ last d.tal k = some (s.at ts) ∧
      s.core.only (.now :: .tal :: errorParts) d)))

/-! ### Commands and other writes of registers (05, 16) -/

/-- R192, R193, R37, R201, R239, R257: HALT, RESUME, RESTART and STEP by the owner of the teller; where they find nothing to
do, only time moves. HALT stops a stalled teller once its instruction completes. In WATCH, a teller set going that is not the
watch teller waits SUSPENDED, and the watch teller's watchdog counts only from a wake event on (R200). A RESTART that a stalled
teller asks for itself waits for its instruction. What RESTART leaves is given where no request of the teller waits; the
requests that wait are applied after it (log entry 38). -/
def Obligations.TellerCommands : Prop :=
  ∀ (s : State) (ts : Nat) (wr : Writer) (k : Fin 8),
    let t := s.core.teller k
    let waits : Prop := s.core.eff = .watch ∧ s.core.get F.SYS_MODE_WTELLER ≠ k
    let sets (f : Dev → Dev) : Host.Outcome State Fault Refusal := .next ((s.advance ts).lift f)
    let goes (t : Teller) : Teller := { t with
      st := .running
      runAt := s.at ts }
    let sleeps (t : Teller) : Teller := { t with
      st := .suspended
      held := .running }
    let afresh (t : Teller) : Teller := { t with
      exc := false
      trapped := false
      z := false
      n := false
      c := false
      t := false
      d := false
      pc := t.entry
      stack := []
      queue := []
      stall := none
      wait := none
      x := Vector.replicate 16 0
      wdogNs := 0
      step := false
      again := false }
    s.core.live = true → s.core.mainAlive = true → s.core.owner (BitVec.ofNat 8 (0x38 + k)) = wr.owner →
    (∀ r, t.st ≠ .halted → t.stall = some r → exec (.tellerHalt ts wr k) s = sets (fun d => d.setTeller k { t with
      step := true
      again := false })) ∧
    (t.st ≠ .halted → t.stall = none → exec (.tellerHalt ts wr k) s = sets (fun d => { d.setTeller k { t with
      st := .halted
      wait := none
      step := false
      wdogNs := if t.st = .running ∧ s.core.dozes k = false then t.wdogNs + (s.at ts - t.runAt) else t.wdogNs } with
        preqs := d.preqs.filter (fun q => q.who != .teller k) })) ∧
    (t.st = .halted → exec (.tellerHalt ts wr k) s = .next (s.advance ts)) ∧
    (t.st = .halted → ¬ waits → exec (.tellerResume ts wr k) s = sets (fun d => d.setTeller k (goes { t with exc := false }))) ∧
    (t.st = .halted → waits → exec (.tellerResume ts wr k) s = sets (fun d => d.setTeller k (sleeps { t with exc := false }))) ∧
    (t.st ≠ .halted → exec (.tellerResume ts wr k) s = .next (s.advance ts)) ∧
    (∀ r, wr = .teller k → t.queue = [] → t.stall = some r → exec (.tellerRestart ts wr k) s = sets (fun d => d.setTeller k { t with
      again := true
      step := false })) ∧
    (t.queue = [] → wr ≠ .teller k ∨ t.stall = none → Gives (.tellerRestart ts wr k) s (fun d =>
      d.teller k = (if s.core.eff = .watch ∧ s.core.get F.SYS_MODE_WTELLER ≠ k then sleeps (afresh t) else goes (afresh t)) ∧
      (∀ j, j ≠ k → d.teller j = s.core.teller j) ∧ (∀ q, q ∈ d.preqs ↔ q ∈ s.core.preqs ∧ q.who ≠ .teller k) ∧
      (∀ h, h ∈ d.heatRes ↔ h ∈ s.core.heatRes ∧ ∀ i, h.who ≠ .teller k i) ∧
      s.core.only [.now, .tellers, .preqs, .heatRes, .mgEnd] d)) ∧
    (∀ r rest, t.queue = r :: rest → wr ≠ .teller k ∨ t.stall = none → Gives (.tellerRestart ts wr k) s (fun d =>
      (d.teller k).queue = [] ∧ (d.teller k).stack = [] ∧ (d.teller k).trapped = false)) ∧
    (t.st = .halted → s.core.eff ≠ .watch → exec (.tellerStep ts wr k) s = sets (fun d => d.setTeller k (goes { t with
      exc := false
      step := true }))) ∧
    (t.st ≠ .halted ∨ s.core.eff = .watch → exec (.tellerStep ts wr k) s = .next (s.advance ts))

/-- R589, R54, R133, R136, R138, R139, R242, R345, R464, R465, R683: ON of a rail in OFF that nothing refuses arms it; an ON of a rail on its way
up changes nothing for a door, and one of a FALLING rail is refused (0x12); OFF and FOFF take a rail with its output on
to FALLING, a controller to soft stop or discharge, and an ARMED one to OFF; a FAULTED rail whose output is not on goes to
OFF where its last result lies below VOFF, and to FALLING otherwise. After CLOCK_XCHK an OFF or FOFF switches nothing. An ON that VIN alone
keeps waiting is recorded (R54). The model's choices: an ARMED rail too is left alone after CLOCK_XCHK (log entry 42), FALLTO counts from
the entry to FALLING (log entry 37), and a rail with no result yet reads as below VOFF (log entry 12). -/
def Obligations.RailCommands : Prop :=
  ∀ (s : State) (ts : Nat) (wr : Writer) (n : Fin 48),
    let r := s.core.rail n
    let good : Prop := s.core.get (F.RAIL_CFG_USED n) = 1 ∧ s.core.get (F.RAIL_CFG_CLAIM n) = 1 ∧
      (n.val < 8 → s.core.get (F.SC_MAP_COUNT n) ≠ 0 ∧ s.core.stageHot n = false) ∧ r.lostOv = false ∧
      s.core.get F.SAFE_STATUS_VAULTLOST ≠ 1 ∧ s.core.vault.run = none ∧ s.core.vault.pend = none ∧ s.core.fltLow = false ∧
      s.core.calOpen = none
    let waits : Prop := s.core.vinOk = false ∧ s.core.gateOk n = true ∧ s.core.get (F.RAIL_BUDGET_INRUSH n) = 0 ∧
      s.core.get (F.RAIL_BUDGET_HEAT n) = 0
    let falls (c : Instr) (op : Nat) : Prop := Gives c s (fun d =>
      (d.rail n).code = .falling ∧ (d.rail n).out = .falling ∧ (d.rail n).offAt = s.at ts ∧ (d.rail n).fallDone = false ∧
      (n.val < 8 → s.core.get (F.SC_STATUS_OP n) = 2 ∨ s.core.get (F.SC_STATUS_OP n) = 3 →
        0 < s.core.get (F.SC_SOFT_STOP n) → d.get (F.SC_STATUS_OP n) = op))
    s.core.live = true → s.core.mainAlive = true → s.core.owner (BitVec.ofNat 8 n) = wr.owner →
    railIn s.core.vaultRails n = false →
    (good → r.code = .off → waits →
      (s.core.pwr.lowAt = none → Gives (.railCmdOn ts wr n) s (fun d => (d.rail n).code = .armed ∧ (d.rail n).waitVin = true ∧
        d.pwr.lowAt = some (s.at ts) ∧ s.core.records 0x0105 0 (s.core.stored 0x100) (s.core.stored 0x101) d)) ∧
      (s.core.pwr.lowAt ≠ none → Gives (.railCmdOn ts wr n) s (fun d => (d.rail n).code = .armed ∧ (d.rail n).waitVin = true ∧
        d.pwr = s.core.pwr))) ∧
    (good → r.code = .off → ¬ waits → exec (.railCmdOn ts wr n) s = .next ((s.advance ts).lift (fun d => d.setRail n { r with
      code := .armed
      stateAt := s.at ts
      inrush := .none
      heat := .none
      inrushAmt := 0
      reqAt := none
      onBy := wr
      waitVin := false }))) ∧
    (∀ x, wr = .door x → good →
      (r.code = .armed ∨ r.code = .rising ∨ r.code = .qualifying ∨ r.code = .good →
        exec (.railCmdOn ts wr n) s = .next (s.advance ts)) ∧
      (r.code = .falling → Refuses (.railCmdOn ts wr n) s x (0x40B + 0x40 * n) 0x12) ∧
      (r.code = .faulted → Refuses (.railCmdOn ts wr n) s x (0x40B + 0x40 * n) 0x13)) ∧
    (∀ x, wr = .door x → s.core.get (F.RAIL_CFG_USED n) ≠ 1 → Refuses (.railCmdOn ts wr n) s x (0x40B + 0x40 * n) 0x10) ∧
    (s.core.get F.SAFE_STATUS_CLKFAIL = 1 → exec (.railCmdOff ts wr n) s = .next (s.advance ts) ∧
      exec (.railCmdFoff ts wr n) s = .next (s.advance ts)) ∧
    (r.code = .unused ∨ r.code = .off → exec (.railCmdOff ts wr n) s = .next (s.advance ts) ∧
      exec (.railCmdFoff ts wr n) s = .next (s.advance ts)) ∧
    (s.core.get F.SAFE_STATUS_CLKFAIL ≠ 1 →
    (r.code = .armed → Gives (.railCmdOff ts wr n) s (fun d => (d.rail n).code = .off ∧ (d.rail n).out = .off ∧
      (∀ q, q ∈ d.preqs ↔ q ∈ s.core.preqs ∧ q.who ≠ .rail n) ∧ (∀ h, h ∈ d.heatRes ↔ h ∈ s.core.heatRes ∧ h.who ≠ .rail n) ∧
      (r.inrush = .granted → d.inrushUj = min (s.core.get F.PURSE_INCFG_CAP * 1000) (s.core.inrushUj + r.inrushAmt * 1000)))) ∧
    (r.code = .faulted → r.out = .on → Gives (.railCmdOff ts wr n) s (fun d => (d.rail n).code = .falling ∧
      (d.rail n).out = .falling ∧ (d.rail n).offAt = s.at ts)) ∧
    (r.code = .faulted → r.out ≠ .on → s.core.belowVoff n = true → Gives (.railCmdOff ts wr n) s (fun d =>
      (d.rail n).code = .off ∧ (d.rail n).out = .off ∧ (d.rail n).fault = 0)) ∧
    (r.code = .faulted → r.out ≠ .on → s.core.belowVoff n = false → Gives (.railCmdOff ts wr n) s (fun d =>
      (d.rail n).code = .falling ∧ (d.rail n).out = .falling ∧
      (d.rail n).offAt = (if r.out = .falling then r.offAt else s.at ts))) ∧
    (r.code = .rising ∨ r.code = .qualifying ∨ r.code = .good → r.out = .on →
      falls (.railCmdOff ts wr n) 4 ∧ falls (.railCmdFoff ts wr n) 5))

/-- R357, R365, R366, R166, R155, R581-R583, R290, R608, R668: START_NORMAL asks for the table at NORMAL, with SEQ_OUT low and an
open calibration set closed; RELEASE_FLT,
refused while the table runs (0x14), ends the vault's pull on FLT_N, and a line that another device holds low is then judged
anew; the key locks; a resource passes from its owner, or from none, to the taker, the
system resource 0x7B never to none, and a door that takes it from another gets the OWN cause (bit 6); what another owns
is refused (0x0C). -/
def Obligations.OwnerCommands : Prop :=
  ∀ (s : State) (ts : Nat) (wr : Writer) (res : BitVec 8) (dst : BitVec 3) (taker : Owner),
    let sets (f : Dev → Dev) : Host.Outcome State Fault Refusal := .next ((s.advance ts).lift f)
    let cur := s.core.owner res
    let mine : Prop := s.core.owner 0x7B = wr.owner
    s.core.live = true → s.core.mainAlive = true →
    (mine → s.core.tableFree = true → exec (.startNormal ts wr) s = sets (fun d => { d.put F.CASC_STATUS_SEQOUT 0 with
      calOpen := none
      vault := { d.vault with pend := some ⟨.normal, 0, s.at ts, false⟩ } })) ∧
    (s.core.get F.SAFE_STATUS_CLKFAIL = 1 → mine → s.core.vault.run = none → s.core.vault.pend = none →
      exec (.releaseFlt ts wr) s = .next (s.advance ts)) ∧
    (s.core.get F.SAFE_STATUS_CLKFAIL = 0 → mine → s.core.vault.run = none → s.core.vault.pend = none → exec (.releaseFlt ts wr) s = sets (fun d => { d with
      vault := { d.vault with
        drive := none
        lineSeen := d.vault.lineSeen && d.vault.drive.isNone } })) ∧
    (∀ x, wr = .door x → mine → s.core.vault.run ≠ none → Refuses (.releaseFlt ts wr) s x 0x1B01 0x14) ∧
    (mine → Gives (.lockKey ts wr) s (fun d => d.get F.SYS_LOCK_LOCKED = 1 ∧ s.core.only [.now, .regs] d ∧
      s.core.onlyRegs [F.SYS_LOCK_LOCKED] d)) ∧
    (∀ x, wr = .door x → ¬ mine → Refuses (.lockKey ts wr) s x 0x0008 0x02) ∧
    (res.toNat < 0x81 → ¬ (0x46 ≤ res.toNat ∧ res.toNat < 0x50) → Owner.ofCode dst.toNat = some taker →
      (cur = wr.owner ∨ (cur = .none ∧ taker = wr.owner) → Gives (.ownGive ts wr res dst) s (fun d =>
        d.owner res = (if res = 0x7B ∧ taker = .none then .program else taker) ∧ (∀ r, r ≠ res → d.owner r = s.core.owner r) ∧
        (∀ x, taker = .door x → cur ≠ .none → cur ≠ .door x → (d.get (F.DOOR_ACAUSE_CAUSE x)).testBit 6 = true) ∧
        s.core.only [.now, .owners, .regs, .smbRel, .evq, .evOvf, .evDropped] d)) ∧
      (∀ x, wr = .door x → cur ≠ wr.owner → (cur ≠ .none ∨ taker ≠ wr.owner) →
        Refuses (.ownGive ts wr res dst) s x 0x00C0 0x0C))

/-- R392-R394, R404, R432, R438, R606: what the registers of a converter and of its capture buffer request of an idle scan, by
their owner: an injected dwell, a burst of an armed buffer (NOT_ARMED, 0x29, of any other), a calibration, an
open-wire test (whose previous result stands, with READY 0; that a calibration asked for in WATCH is refused with ASLEEP is log entry 39,
the model's choice), ARM (of a buffer that a commit copies, once its copy has ended: R440) and DISARM. -/
def Obligations.ConverterRequests : Prop :=
  ∀ (s : State) (ts : Nat) (wr : Writer) (c : Fin 6) (ch : BitVec 4) (w : Fin 8),
    let u := (s.advance ts).core
    let x := s.core.cv c
    let src : TrigSrc := match wr with
      | .door d => .door d
      | .teller k => .wrr k 0
    let trig (burst : Bool) : Trig := ⟨src, ch.toNat, burst, u.stamp, u.arrival c⟩
    let sets (f : Dev → Dev) : Host.Outcome State Fault Refusal := .next ((s.advance ts).lift f)
    let st := s.core.get (F.CAP_STATUS_STATE c)
    let within (v : Nat) : Prop := 1 ≤ v ∧ v ≤ 255
    s.core.live = true → s.core.mainAlive = true → s.core.owner (BitVec.ofNat 8 (0x40 + c)) = wr.owner →
    (s.core.eff ≠ .watch → ch.toNat ≤ 11 ∨ (ch.toNat = 12 ∧ 4 ≤ c.val) → u.cvBusy c (trig false) = false →
      Gives (.injectedDwellRequest ts wr c ch) s (fun d => d.cv c = { x with
          arriving := some (trig false)
          injReady := x.injReady || (s.core.get (F.CV_INJRES_WORD c)).testBit 30 } ∧
        (d.get (F.CV_INJRES_WORD c)).testBit 30 = false ∧ s.core.only [.now, .cvs, .regs] d ∧
        s.core.onlyRegs [F.CV_INJRES_WORD c] d)) ∧
    (s.core.eff ≠ .watch → ch.toNat < 8 → st = 1 ∨ st = 2 → u.cvBusy c (trig true) = false →
      exec (.burstRequest ts wr c ch) s = sets (fun d => d.setCv c { x with arriving := some (trig true) })) ∧
    (∀ d, wr = .door d → s.core.eff ≠ .watch → ch.toNat < 8 → st ≠ 1 → st ≠ 2 →
      Refuses (.burstRequest ts wr c ch) s d (0x1503 + 0x80 * c) 0x29) ∧
    (s.core.eff ≠ .watch → x.op = .scan → x.calPend = false → x.arriving = none → x.pend = none →
      exec (.calibrationRequest ts wr c) s = sets (fun d => d.setCv c { x with
        calPend := true
        calWait := 0
        owes := false })) ∧
    (∀ d, wr = .door d → s.core.eff = .watch → Refuses (.calibrationRequest ts wr c) s d (0x1506 + 0x80 * c) 0x05) ∧
    (s.core.eff ≠ .watch → x.wire = none → s.core.get (F.CV_OWCTL_CH c) < 8 → within (s.core.get (F.CV_OWCTL_OWSET c)) →
      within (s.core.get (F.CV_OWCTL_OWTHR c)) → Gives (.openWireStart ts wr c w) s (fun d =>
        (d.cv c).wire = some ⟨w, 1, true, s.at ts, 0, 0, 0, false⟩ ∧ (d.cv c).own = x.own ++ [.wire w] ∧
        d.get (F.CV_OWCTL_CH c) = w ∧ d.get (F.CV_OWRES_READY c) = 0 ∧ s.core.only [.now, .cvs, .regs] d ∧
        s.core.onlyRegs [F.CV_OWCTL_CH c, F.CV_OWRES_READY c] d)) ∧
    (st = 0 ∨ st = 3 → (s.core.cap c).back = none → Gives (.captureArm ts wr c) s (fun d =>
      (s.core.get (F.CAP_STATUS_ARCH c) ≠ 1 → d.get (F.CAP_STATUS_STATE c) = 1) ∧
      (s.core.get (F.CAP_STATUS_ARCH c) = 1 → d.get (F.CAP_STATUS_STATE c) = 3 ∧ (d.cap c).back = some 1) ∧ d.get (F.CAP_FILL_FILL c) = 0 ∧ (d.cap c).gap = true ∧ s.core.only [.now, .caps, .regs] d)) ∧
    (st ≠ 2 → (s.core.cap c).back = none → Gives (.captureDisarm ts wr c) s (fun d =>
      d.get (F.CAP_STATUS_STATE c) = 0 ∧ (d.cap c).gap = true ∧
      (∀ t, x.pend = some t → t.burst = true → (d.cv c).pend = none ∧ d.get (F.CAP_EVENT_MISS c) = 1) ∧
      s.core.only [.now, .caps, .cvs, .regs] d)) ∧
    (st = 2 → Gives (.captureDisarm ts wr c) s (fun d => d.get (F.CAP_STATUS_STATE c) = 2 ∧ (d.cap c).disarm = true ∧
      s.core.only [.now, .caps, .regs] d))

/-- R473, R536, R537, R271, R61, R423: REINSTATE of a controller at rest takes its phases back (else RAIL_ACTIVE, 0x0D); GO
starts an archive commit of buffers that the writer owns, RESET forgets the archive; a write of PWR.CHG sets it and
starts the charger afresh, in the mode that its precedence gives (log entry 26, the model's choice); STAMPV is cleared where no comparator's latch would set it again at once. -/
def Obligations.BlockWrites : Prop :=
  ∀ (s : State) (ts : Nat) (wr : Writer) (c : Fin 8) (m : BitVec 6) (n : Fin 48) (val : Word),
    let u := (s.advance ts).core
    let owns (r : Nat) : Prop := s.core.owner (BitVec.ofNat 8 r) = wr.owner
    let idle : Prop := (s.core.rail ⟨c, by omega⟩).code = .off ∨ (s.core.rail ⟨c, by omega⟩).code = .unused
    let field (lo w : Nat) : Nat := val.toNat / 2 ^ lo % 2 ^ w
    let may : Prop := s.core.dev = .run ∧ field 0 1 = 1 ∧ s.core.get F.PWR_STATUS_VINLOSS ≠ 1 ∧
      s.core.get F.PWR_STATUS_VIN_HIGH ≠ 1 ∧ s.core.sag < 2
    let vin := s.core.get F.PWR_VIN_V
    let vcv := field 16 10 * 1000
    s.core.live = true → s.core.mainAlive = true →
    (owns (0x30 + c) → idle → Gives (.reinstate ts wr c) s (fun d =>
      (∀ p : Fin 24, p ∈ s.core.phasesOf c → d.get (F.PH_STATUS_EXCL p) = 0) ∧ d.get (F.SC_STATUS_N1 c) = 0 ∧
      (∀ p : Fin 24, p ∉ s.core.phasesOf c → d.get (F.PH_STATUS_EXCL p) = s.core.get (F.PH_STATUS_EXCL p)) ∧
      s.core.only [.now, .regs] d)) ∧
    (∀ x, wr = .door x → owns (0x30 + c) → ¬ idle → Refuses (.reinstate ts wr c) s x (0x1009 + 0x60 * c) 0x0D) ∧
    (m ≠ 0 → (∀ v : Fin 6, m.getLsbD v = true → owns (0x40 + v)) → s.core.eff ≠ .watch →
      (u.archRefusal m = none → Gives (.archiveGo ts wr m) s (fun d =>
        (∃ door num, d.arch = some ⟨m, door, num, u.stamp⟩ ∧ wr = (if door then .door (Fin.ofNat 4 num) else .teller (Fin.ofNat 8 num))) ∧
        (∀ v : Fin 6, m.getLsbD v = true → d.get (F.CAP_STATUS_ARCH v) = 1 ∧
          (s.core.get (F.CAP_STATUS_STATE v) = 1 → d.get (F.CAP_STATUS_STATE v) = 3)) ∧
        s.core.only [.now, .arch, .regs, .caps, .cvs, .holdO, .heatRes] d)) ∧
      (∀ x r, wr = .door x → u.archRefusal m = some r → Gives (.archiveGo ts wr m) s (fun d =>
        d.arch = s.core.arch ∧ d.get F.LEDG_ARCHSTAT_LASTREF = r.code ∧ d.get F.LEDG_EVENT_ARCH_REFUSED = 1 ∧
        d.get (F.DOOR_WRES_REASON x) = r.code))) ∧
    (owns 0x7B → s.core.arch = none → Gives (.archiveReset ts wr) s (fun d => d.afill = (0, 0) ∧
      (∀ a ∈ d.ledgBad, a ∈ s.core.ledgBad) ∧ s.core.only [.now, .afill, .copyVer, .ledgBad] d)) ∧
    (∀ x, wr = .door x → owns 0x7B → s.core.arch ≠ none → Refuses (.archiveReset ts wr) s x 0x1D05 0x06) ∧
    (owns 0x7C → 5 ≤ field 8 8 → field 8 8 ≤ 200 → 100 ≤ field 16 10 → field 16 10 ≤ 750 → 1 ≤ field 26 6 →
      Gives (.chgWrite ts wr 0xFFFFFFFF val) s (fun d =>
        d.get F.PWR_CHG_EN = field 0 1 ∧ d.get F.PWR_CHG_ICC = field 8 8 ∧ d.get F.PWR_CHG_VCV = field 16 10 ∧
        d.get F.PWR_CHG_TMAX = field 26 6 ∧ (¬ may → d.get F.PWR_STATUS_CHG = 0) ∧
        (may → d.pwr.chgAt = s.at ts ∧ d.get F.PWR_STATUS_CHG = (if vin < vcv + 30000 then 3
          else if vcv ≤ s.core.get F.PWR_HOLDV_V then 2 else if s.core.sag = 1 then 6 else 1)) ∧
        s.core.only [.now, .regs, .pwr] d ∧
        s.core.onlyRegs [F.PWR_CHG_EN, F.PWR_CHG_ICC, F.PWR_CHG_VCV, F.PWR_CHG_TMAX, F.PWR_STATUS_CHG] d)) ∧
    (owns n → (∀ ov, s.core.get (latchFld n ov) < 2) →
      (∀ ov, (s.core.rail n).shows ov = true → s.core.get (latchFld n ov) = 1) → Gives (.stampvClear ts wr n) s (fun d =>
        d.get (F.RAIL_WSTATUS_STAMPV n) = 0 ∧ (∀ ov, d.get (latchFld n ov) = s.core.get (latchFld n ov)) ∧
        s.core.only [.now, .regs] d))

/-- R8, R599, R588, R19, R130, R155, R650: a write of a register: by its owner, with every field in its range, the fields take the written
values and nothing else changes (shown for RAIL[n].TIMING); by another door it is refused with NOT_OWNER (0x02), out of
range with OUT_OF_RANGE (0x01); after LOCK a write that would change a field writable until LOCK is refused with LOCKED (0x03), and one
that would not is taken (shown for RAIL[n].REACT); a 1 clears a write-one-to-clear bit, but for one set in this very instant, and a 0
leaves it (shown for RAIL[n].EVENT); a register without a writable field takes any write and changes nothing. -/
def Obligations.RegisterWrite : Prop :=
  ∀ (s : State) (ts : Nat) (wr : Writer) (reg : BitVec 16) (mask val : Word) (n : Fin 48) (x : Fin 4),
    let num : BitVec 16 := BitVec.ofNat 16 (0x402 + 0x40 * n)
    let react : BitVec 16 := BitVec.ofNat 16 (0x406 + 0x40 * n)
    let events : BitVec 16 := BitVec.ofNat 16 (0x408 + 0x40 * n)
    let ev (i : Nat) : Fld := ⟨events.toNat, i, 1⟩
    let field (lo w : Nat) : Nat := val.toNat / 2 ^ lo % 2 ^ w
    let inside : Prop := 1 ≤ field 0 14 ∧ field 0 14 ≤ 10000 ∧ 1 ≤ field 14 10 ∧ field 14 10 ≤ 1000 ∧ 1 ≤ field 24 8
    s.core.live = true → s.core.mainAlive = true →
    (s.core.owner (BitVec.ofNat 8 n) = wr.owner → inside → Gives (.registerWrite ts wr num 0xFFFFFFFF val) s (fun d =>
      d.get (F.RAIL_TIMING_QUAL n) = field 0 14 ∧ d.get (F.RAIL_TIMING_RISETO n) = field 14 10 ∧
      d.get (F.RAIL_TIMING_FALLTO n) = field 24 8 ∧ s.core.only [.now, .regs] d ∧
      s.core.onlyRegs [F.RAIL_TIMING_QUAL n, F.RAIL_TIMING_RISETO n, F.RAIL_TIMING_FALLTO n] d)) ∧
    (s.core.owner (BitVec.ofNat 8 n) = .door x → ¬ inside →
      Refuses (.registerWrite ts (.door x) num 0xFFFFFFFF val) s x num.toNat 0x01) ∧
    (s.core.owner (BitVec.ofNat 8 n) ≠ .door x →
      Refuses (.registerWrite ts (.door x) num mask val) s x num.toNat 0x02) ∧
    (s.core.owner (BitVec.ofNat 8 n) = wr.owner →
      (s.core.get F.SYS_LOCK_LOCKED = 0 ∨ (∀ i < 5, s.core.get ⟨react.toNat, 2 * i, 2⟩ = field (2 * i) 2) →
        Gives (.registerWrite ts wr react 0xFFFFFFFF val) s (fun d => (∀ i < 5, d.get ⟨react.toNat, 2 * i, 2⟩ = field (2 * i) 2) ∧
          s.core.only [.now, .regs] d ∧ s.core.onlyRegs ((List.range 5).map (fun i => ⟨react.toNat, 2 * i, 2⟩)) d)) ∧
      (∀ y, wr = .door y → s.core.get F.SYS_LOCK_LOCKED = 1 → (∃ i < 5, s.core.get ⟨react.toNat, 2 * i, 2⟩ ≠ field (2 * i) 2) →
        Refuses (.registerWrite ts wr react 0xFFFFFFFF val) s y react.toNat 0x03)) ∧
    (s.core.owner (BitVec.ofNat 8 n) = wr.owner → (∀ i < 9, s.core.get (ev i) < 2) → Gives (.registerWrite ts wr events 0xFFFFFFFF val) s (fun d =>
      (∀ i < 9, val.toNat.testBit i = false → d.get (ev i) = s.core.get (ev i)) ∧
      (s.core.now < ts → ∀ i < 9, val.toNat.testBit i = true → d.get (ev i) = 0) ∧
      (ts ≤ s.core.now → ∀ i < 9, ({ s.core with regs := s.core.before } : Dev).get (ev i) = 0 → d.get (ev i) = s.core.get (ev i)) ∧
      s.core.only [.now, .regs] d ∧ s.core.onlyRegs ((List.range 9).map ev) d)) ∧
    ((∀ f ∈ fieldsOf reg.toNat, f.acc = .ro) → reg ≠ 0x00C0 →
      exec (.registerWrite ts wr reg mask val) s = .next (s.advance ts))

/-! ### Doors (16, 17) -/

/-- R590, R593-R598, R623, R597: a door's own block acts at once: a statement is asked for or dropped, PADD appends an entry
of PMASK and PVAL (the 257th only sets the overflow), POST submits the posting and clears READY, DISCARD empties it; while a
posting waits, PADD, POST and DISCARD change nothing, and in BOOT-FAIL neither REQUEST nor POST does. -/
def Obligations.DoorBlock : Prop :=
  ∀ (s : State) (ts : Nat) (x : Fin 4) (reg : BitVec 16),
    let p := s.core.door x
    let sets (q : Door) : Host.Outcome State Fault Refusal := .next ((s.advance ts).lift (fun d => d.setDoor x q))
    let idle : Host.Outcome State Fault Refusal := .next (s.advance ts)
    let awake : Prop := s.core.live = true ∧ s.core.mainAlive = true ∧ s.core.eff ≠ .watch ∧ s.core.watchExit = false
    let posted : Prop := ∃ q ∈ p.queue, q.2 = .post
    (awake →
      (p.sreq = none → exec (.statementRequest ts x) s = sets { p with
        sreq := some (s.at ts)
        sready := false }) ∧
      (p.sreq ≠ none → exec (.statementRequest ts x) s = idle)) ∧
    (s.core.dev = .bootFail → exec (.statementRequest ts x) s = idle ∧ exec (.post ts x) s = idle) ∧
    (awake ∨ s.core.dev = .bootFail →
      exec (.statementDrop ts x) s = sets { p with hold := false } ∧
      (¬ posted → p.entries.length < 256 → exec (.padd ts x reg) s = sets { p with
        entries := p.entries ++ [⟨reg.toNat, BitVec.ofNat 32 (s.core.get (F.DOOR_PMASK_MASK x)),
          BitVec.ofNat 32 (s.core.get (F.DOOR_PVAL_VALUE x))⟩] }) ∧
      (¬ posted → 256 ≤ p.entries.length → exec (.padd ts x reg) s = sets { p with povf := true }) ∧
      (¬ posted → exec (.discard ts x) s = sets { p with
        entries := []
        povf := false }) ∧
      (posted → exec (.padd ts x reg) s = idle ∧ exec (.post ts x) s = idle ∧ exec (.discard ts x) s = idle)) ∧
    (awake → ¬ posted → Gives (.post ts x) s (fun d => d.door x = { p with queue := p.queue ++ [(s.at ts, .post)] } ∧
      (∀ y, y ≠ x → d.door y = s.core.door y) ∧ d.get (F.DOOR_PRES_READY x) = 0 ∧ s.core.only [.now, .doors, .regs] d ∧
      s.core.onlyRegs [F.DOOR_PRES_READY x] d))

/-- R616-R640, R585, R586, R40, R58, R649: a request that is whole on the wire, addressed to the door. RREG returns COUNT registers, each
read at its own instant, WREG of registers outside the door blocks queues its writes for the close and WREG of PMASK acts at once, PSTAT returns the
protocol's status and leaves the last frame's result. A request past the register space or with an opcode that no command has is
refused (0x01), one in WATCH with ASLEEP (0x05), one with a bad check byte discarded and counted, one whose check byte never
came abandoned. The bytes sent are RES, any reason and the data, under DCRC on doors A and B and the PEC on door C; on door D
they wait for the bus. While the outputs are high-impedance nothing of the others reaches the wire. Behind a window write a
request waits; on door D the fifth is answered BUSY (0x06). The model's choices: the wait behind a window write and the fifth's BUSY,
the last result of an abandoned frame, the bytes under DCRC and the instants of RREG's reads (log entry 25), and the point of
log entry 42. -/
def Obligations.DoorFrames : Prop :=
  ∀ (s : State) (ts : Nat) (x : Fin 4) (f : Frame) (addr : BitVec 16) (count : BitVec 8) (vals : List Word) (v : Word) (o : BitVec 6),
    let u := (s.advance ts).core
    let p := s.core.port x
    let strap := s.core.get F.DPROT_STRAP_S
    let named (o : BitVec 6) : Prop := 1 ≤ o.toNat ∧ o.toNat ≤ 5
    let listens : Prop := s.core.doorsUp = true ∧ (x = 2 → s.core.muted = false) ∧ f.agrees = true ∧ f.holds = true ∧
      (f.width = 0 ∨ (x.val < 2 ∧ f.width ≠ 3)) ∧ (x = 2 → ∀ i, f.dest = some i → i.toNat = 0x58 + strap) ∧
      (x = 3 → (∀ i, f.dest = some i → i.toNat = s.core.get F.DPROT_CAN_BASE * 32 + 4 * strap) ∧
        s.core.canOn = true ∧ s.core.can.tec ≤ 255 ∧ ∀ b t, s.core.can.last = some (b, t) → t + 1000000000 < s.at ts)
    let free : Prop := listens ∧ p.wwin = none
    let heard : Prop := free ∧ ∀ o, f.op = some o → named o
    let awake : Prop := s.core.live = true ∧ s.core.eff ≠ .watch ∧ s.core.watchExit = false
    let most := if x.val < 2 then 64 else if x = 2 then 63 else 14
    let drives : Prop := x = 3 ∨ s.core.muted = false
    let reads : DoorCmd := .rreg addr.toNat count.toNat
    let bytes (res why : Nat) (data : List Word) : List Byte := (BitVec.ofNat 8 res :: (if why = 0 then [] else [BitVec.ofNat 8 why])) ++
      (data.map (fun w => leBytes 4 w.toNat)).flatten
    let answer (d : Dev) (res why : Nat) (data : List Word) : Prop :=
      (d.port x).res = res ∧ (d.port x).why = why ∧ (d.port x).lastRes = res ∧ (drives → (d.port x).data = data) ∧
      (¬ drives → (d.port x).data = [] ∧ (d.port x).sent = []) ∧
      (x = 3 → d.can.out = s.core.can.out ++ [canPad (canPayload f.cnt (bytes res why data))])
    let spi (d : Dev) (f : Frame) (c : DoorCmd) (a : List Byte) : Prop :=
      x.val < 2 → drives → (d.port x).sent = a ++ [crc8From (crc8 (f.bytes x c)).toNat a]
    let smb (d : Dev) (c : DoorCmd) (a : List Byte) : Prop := x = 2 → (d.port x).sent = (BitVec.ofNat 8 a.length :: a) ++
      [crc8 ([BitVec.ofNat 8 (2 * (0x58 + strap)), f.command c, BitVec.ofNat 8 (c.body x).length] ++ c.body x ++
        [BitVec.ofNat 8 (2 * (0x58 + strap) + 1)] ++ BitVec.ofNat 8 a.length :: a)]
    let items : List (Nat × DoorItem) := (List.range vals.length).map (fun i =>
      (s.at ts, .write ⟨addr.toNat + i, BitVec.allOnes 32, vals.getD i 0⟩))
    (heard → f.check = .good →
      (awake → 1 ≤ count.toNat → count.toNat ≤ most →
        (addr.toNat + count.toNat ≤ 0x10000 → Gives (.rreg ts x f addr count) s (fun d =>
          let ws := (List.range count.toNat).map (fun i => (u.advance (u.now + u.readDelay i)).doorRead x (addr.toNat + i))
          answer d 0xA5 0 ws ∧ spi d f reads (bytes 0xA5 0 ws) ∧ smb d reads (bytes 0xA5 0 ws) ∧
          (d.port x).ok = min 0xFFFF (p.ok + 1) ∧ s.core.only [.now, .ports, .can] d)) ∧
        (0x10000 < addr.toNat + count.toNat → Gives (.rreg ts x f addr count) s (fun d =>
          answer d 0x5A 0x01 [] ∧ spi d f reads [0x5A, 0x01] ∧ (d.port x).ok = p.ok ∧ s.core.only [.now, .ports, .can] d))) ∧
      (s.core.live = true → s.core.eff = .watch → 1 ≤ count.toNat → count.toNat ≤ most → Gives (.rreg ts x f addr count) s (fun d =>
        answer d 0x5A 0x05 [] ∧ s.core.only [.now, .ports, .can, .regs, .tellers, .awake] d ∧
        ((s.core.get F.SYS_MODE_DOORWAKE).testBit x = true → (d.get F.SYS_WAKE_DOOR).testBit x = true))) ∧
      (x ≠ 2 → Gives (.rreg ts x { f with check := .bad } addr count) s (fun d =>
        answer d 0x3C 0 [] ∧ (d.port x).bad = min 0xFFFF (p.bad + 1) ∧ (d.port x).ok = p.ok ∧ s.core.only [.now, .ports, .can] d)) ∧
      (awake → 1 ≤ vals.length → vals.length ≤ most → addr.toNat + vals.length ≤ 0x10000 →
        (∀ i, i < vals.length → ¬ (0x1F00 ≤ addr.toNat + i ∧ addr.toNat + i < 0x2000)) →
        ((s.core.door x).queue.filter (fun q => q.2 != .post)).length + vals.length ≤ 32 → Gives (.wreg ts x f addr vals) s (fun d =>
          answer d 0xA5 0 [] ∧ d.door x = { s.core.door x with queue := (s.core.door x).queue ++ items } ∧
          (x = 2 → (d.port x).sent = []) ∧ (d.port x).ok = min 0xFFFF (p.ok + 1) ∧ s.core.only [.now, .ports, .can, .doors] d)) ∧
      (awake → ((s.core.door x).queue.filter (fun q => q.2 != .post)).length ≤ 32 →
        Gives (.wreg ts x f (BitVec.ofNat 16 (0x1F08 + 0x40 * x)) [v]) s (fun d => answer d 0xA5 0 [] ∧
          d.get (F.DOOR_PMASK_MASK x) = v.toNat ∧ s.core.only [.now, .ports, .can, .regs] d ∧ s.core.onlyRegs [F.DOOR_PMASK_MASK x] d)) ∧
      Gives (.pstat ts x f) s (fun d =>
        (d.port x).res = p.res ∧ (d.port x).why = p.why ∧ (d.port x).ok = p.ok ∧ (d.port x).lastRes = 0xA5 ∧
        (drives → (d.port x).data.length = 4) ∧ (x ≠ 3 → drives → (d.port x).data = [BitVec.ofNat 32 (p.res + p.why * 256 + p.ok * 65536),
          BitVec.ofNat 32 (p.bad + p.short * 65536), BitVec.ofNat 32 p.other, BitVec.ofNat 32 (strap * 256)]) ∧
        (s.core.eff ≠ .watch → s.core.only [.now, .ports, .can] d))) ∧
    (free → f.check = .good → ¬ named o → Gives (.rreg ts x { f with op := some o } addr count) s (fun d =>
      answer d 0x5A 0x01 [] ∧ (d.port x).ok = p.ok ∧ s.core.only [.now, .ports, .can] d)) ∧
    (listens → x ≠ 2 → Gives (.rreg ts x { f with check := .absent } addr count) s (fun d =>
      d.port x = { p with
        short := min 0xFFFF (p.short + 1)
        lastRes := 0 } ∧ s.core.only [.now, .ports, .can] d)) ∧
    (listens → f.check = .good → p.wwin ≠ none → (x ≠ 3 ∨ p.waits.length < 4 → Gives (.rreg ts x f addr count) s (fun d =>
        d.port x = { p with waits := p.waits ++ [(f, reads, [])] } ∧ s.core.only [.now, .ports, .can] d)) ∧
      (x = 3 → 4 ≤ p.waits.length → Gives (.rreg ts x f addr count) s (fun d =>
        answer d 0x5A 0x06 [] ∧ (d.port x).waits = p.waits ∧ s.core.only [.now, .ports, .can] d)))

/-- R179, R505, R507, R510, R538-R541, R616, R620, R663-R668: the memory window. RWIN returns the words of the array and of
instruction RAM, and counts the words that it corrects, of the ledger in LEDG.ECC and of the data RAM in SAFE.RAMECC; a word that it
meets uncorrectable, in the array or in a teller RAM, makes RES DONE_ECC, and one of the array is declared. WWIN of words of the door's own quarter of the notebook
is accepted and answers when the words stand in the array, behind the first-fault commit, the journal, the health writes and an archive commit; one of the journal is
refused (WIN_RO, 0x3A); the keys open the calibration set to the owner of the program store and the system in RUN with every
rail at rest; its first write sets ORIGIN; and it closes 10 s after its last accepted write. -/
def Obligations.DoorWindow : Prop :=
  ∀ (s : State) (ts t : Nat) (x : Fin 4) (f : Frame) (addr : Word) (count : BitVec 8) (vals : List Word) (v : Word)
      (a : Nat) (ecc : List Ecc),
    let p := s.core.port x
    let wire (data : List Word) : List Word := if x ≠ 3 ∧ s.core.muted = true then [] else data
    let strap := s.core.get F.DPROT_STRAP_S
    let up : Prop := s.core.doorsUp = true ∧ p.wwin = none ∧ (x = 2 → s.core.muted = false) ∧
      (x = 3 → s.core.canOn = true ∧ s.core.can.tec ≤ 255 ∧ ∀ b t, s.core.can.last = some (b, t) → t + 1000000000 < s.at ts)
    let heard : Prop := up ∧ f.check = .good ∧ f.agrees = true ∧ f.holds = true ∧ (f.width = 0 ∨ (x.val < 2 ∧ f.width ≠ 3)) ∧
      (∀ o, f.op = some o → 1 ≤ o.toNat ∧ o.toNat ≤ 5) ∧ (x = 2 → ∀ i, f.dest = some i → i.toNat = 0x58 + strap) ∧
      (x = 3 → ∀ i, f.dest = some i → i.toNat = s.core.get F.DPROT_CAN_BASE * 32 + 4 * strap)
    let awake : Prop := s.core.live = true ∧ s.core.eff ≠ .watch ∧ s.core.watchExit = false
    let most := if x.val < 2 then 64 else if x = 2 then 62 else 13
    let n := count.toNat
    let stored := BitVec.ofNat 32 (s.ledgerNat 0x207FF0 4)
    let crc := if 0x207FF0 ∈ s.core.ledgBad then Config.badWord 0x207FF0 stored else stored
    let mayOpen : Prop := s.core.dev = .run ∧ s.core.owner 0x80 = .door x ∧ s.core.owner 0x7B = .door x ∧
      s.core.vault.run = none ∧ s.core.vault.pend = none ∧ (∀ n : Fin 48, (s.core.rail n).code = .off ∨ (s.core.rail n).code = .unused) ∧
      s.core.calOpen = none
    let keyParts : List Part := [.now, .ports, .can, .calKey, .calOpen, .calDirty]
    let len := 4 * vals.length
    let turn : Prop := s.core.arrayFree = true ∧ (s.advance ts).core.healthDue = false ∧ s.core.arch = none
    (heard → awake → addr.toNat % 4 = 0 → 1 ≤ n → n ≤ most → (∀ w ∈ s.core.ledgBad, w < addr.toNat / 8 * 8 ∨ addr.toNat + 4 * n ≤ w) →
      (addr.toNat + 4 * n ≤ 0x200000 → Gives (.rwin ts x f addr count []) s (fun d =>
        (d.port x).res = 0xA5 ∧ (d.port x).why = 0 ∧ (d.port x).data = wire ((List.range n).map (fun i =>
          BitVec.ofNat 32 (s.ledgerNat (addr.toNat + 4 * i) 4))) ∧ s.core.only [.now, .ports, .can] d)) ∧
      (0x4100000 ≤ addr.toNat → addr.toNat + 4 * n ≤ 0x4140000 → s.core.iramBad = [] → .uncorrectable ∉ ecc →
        Gives (.rwin ts x f addr count ecc) s (fun d =>
        (d.port x).res = 0xA5 ∧ (d.port x).why = 0 ∧ (d.port x).data = wire ((List.range n).map (fun i =>
          sget (fun _ => (0 : Word)) s.iram ((addr.toNat - 0x4100000) / 4 + i))) ∧ s.core.only [.now, .ports, .can] d)) ∧
      (0x4100000 ≤ addr.toNat → addr.toNat < 0x4140000 → (addr.toNat - 0x4100000) / 4 ∈ s.core.iramBad →
        Gives (.rwin ts x f addr count ecc) s (fun d => (d.port x).res = 0x69 ∧ (d.port x).why = 0x3C)) ∧
      (0x4100000 ≤ addr.toNat → addr.toNat + 4 * n ≤ 0x4140000 → Gives (.rwin ts x f addr count [.uncorrectable]) s (fun d =>
        (d.port x).res = 0x69 ∧ (d.port x).why = 0x3C ∧ (addr.toNat - 0x4100000) / 4 ∈ d.iramBad ∧
        s.core.only [.now, .ports, .can, .iramBad] d)) ∧
      (0x4140000 ≤ addr.toNat → addr.toNat + 4 * n ≤ 0x4150000 → Gives (.rwin ts x f addr count [.uncorrectable]) s (fun d =>
        (d.port x).res = 0x69 ∧ (d.port x).why = 0x3C ∧ (addr.toNat - 0x4140000) / 4 ∈ d.dramBad ∧
        s.core.only [.now, .ports, .can, .dramBad] d)) ∧
      (∀ r : Fld, r = F.LEDG_ECC_CORR ∧ addr.toNat + 4 * n ≤ 0x200000 ∨
          r = F.SAFE_RAMECC_CORR ∧ 0x4140000 ≤ addr.toNat ∧ addr.toNat + 4 * n ≤ 0x4150000 →
        Gives (.rwin ts x f addr count [.corrected]) s (fun d => d.get r = min (2 ^ r.w - 1) (s.core.get r + 1) ∧
          s.core.only [.now, .ports, .can, .regs] d ∧ s.core.onlyRegs [r, F.LEDG_EVENT_ECC_CORR] d)) ∧
      (addr.toNat + 4 * n ≤ 0x200000 → Gives (.rwin ts x f addr count [.uncorrectable]) s (fun d =>
        (d.port x).res = 0x69 ∧ (d.port x).why = 0x3C ∧ addr.toNat / 8 * 8 ∈ d.ledgBad ∧ d.get F.LEDG_EVENT_ECC_UNCORR = 1 ∧
        s.core.records 0x0A03 0 (BitVec.ofNat 32 (addr.toNat / 8 * 8)) 0 d ∧
        s.core.only ([.now, .ports, .can, .ledgBad] ++ errorParts) d))) ∧
    (heard → awake → addr.toNat % 4 = 0 → 1 ≤ vals.length → vals.length ≤ most →
      (0x3E10000 + 0x7C000 * x ≤ addr.toNat → addr.toNat + len ≤ 0x3E8C000 + 0x7C000 * x →
        Gives (.wwin ts x f addr vals) s (fun d => (d.port x).wwin = some (f, addr.toNat, vals) ∧
          (d.port x).ok = min 0xFFFF (p.ok + 1) ∧ (d.port x).res = p.res ∧ s.core.only [.now, .ports, .can] d)) ∧
      (∀ o, s.core.calOpen = some (x, o) → 0x200000 ≤ addr.toNat → addr.toNat + len ≤ 0x207FF8 → Gives (.wwin ts x f addr vals) s (fun d =>
        (d.port x).wwin = some (f, addr.toNat, vals) ∧ d.calOpen = some (x, s.at ts) ∧ s.core.only [.now, .ports, .can, .calOpen] d)) ∧
      (0x210000 ≤ addr.toNat → addr.toNat < 0x3E10000 → Gives (.wwin ts x f addr vals) s (fun d =>
        (d.port x).res = 0x5A ∧ (d.port x).why = 0x3A ∧ (d.port x).wwin = none ∧ s.core.only [.now, .ports, .can] d))) ∧
    (p.wwin = some (f, a, vals) → s.core.doorsUp = true →
      (¬ turn → exec (.windowWriteDone ts x ecc) s = .next (s.advance ts)) ∧
      (turn → p.waits = [] → (∀ w ∈ s.core.ledgBad, w + 8 ≤ a ∨ a + len ≤ w) →
        (a + len ≤ 0x200000 ∨ 0x208000 ≤ a → ∃ r : State, exec (.windowWriteDone ts x []) s = .next r ∧ (r.core.port x).wwin = none ∧
          (r.core.port x).res = 0xA5 ∧ s.core.only [.now, .ports, .can, .ledgBad] r.core ∧
          (∀ i, (sget factoryByte r.ledger i).toNat = if a ≤ i ∧ i < a + len then
            (vals.getD ((i - a) / 4) 0).toNat / 256 ^ ((i - a) % 4) % 256 else (sget factoryByte s.ledger i).toNat) ∧
          r.iram = s.iram ∧ r.dram = s.dram ∧ r.bufs = s.bufs ∧ r.pending = s.pending) ∧
        (0x200000 ≤ a → a + len ≤ 0x208000 → a % 4 = 0 → 1 ≤ vals.length → 0x200008 ∉ s.core.ledgBad → ∃ r : State,
          exec (.windowWriteDone ts x []) s = .next r ∧ (r.core.port x).wwin = none ∧ (r.core.port x).res = 0xA5 ∧
          r.core.calDirty = true ∧ s.core.only [.now, .ports, .can, .ledgBad, .calDirty] r.core ∧
          (s.core.calDirty = false → sget factoryByte r.ledger 0x200009 = 1) ∧
          (∀ i, i ≠ 0x200009 → a ≤ i → i < a + len → (sget factoryByte r.ledger i).toNat =
            (vals.getD ((i - a) / 4) 0).toNat / 256 ^ ((i - a) % 4) % 256) ∧
          r.iram = s.iram ∧ r.dram = s.dram ∧ r.bufs = s.bufs ∧ r.pending = s.pending)) ∧
      (turn → p.waits = [] → a % 8 ≠ 0 → a / 8 * 8 < 0x200000 → a / 8 * 8 ∉ s.core.ledgBad → 1 ≤ vals.length →
        ∃ r : State, exec (.windowWriteDone ts x [.uncorrectable]) s = .next r ∧ a / 8 * 8 ∈ r.core.ledgBad ∧
          r.core.get F.LEDG_EVENT_ECC_UNCORR = 1)) ∧
    (up → awake → mayOpen →
      Gives (.calKey1 ts x 0x5A3CC3A5) s (fun d => d.calKey.get x = some (s.at ts) ∧ (d.port x).res = 0xA5 ∧ d.calOpen = none ∧
        s.core.only keyParts d) ∧
      (v ≠ 0x5A3CC3A5 → Gives (.calKey1 ts x v) s (fun d => d.calKey.get x = none ∧ (d.port x).res = 0x5A ∧ (d.port x).why = 0x01 ∧
        s.core.only keyParts d)) ∧
      (s.core.calKey.get x = some t → s.at ts ≤ t + 100000000 → Gives (.calKey2 ts x (~~~ crc)) s (fun d =>
        d.calOpen = some (x, s.at ts) ∧ d.calKey.get x = none ∧ (d.port x).res = 0xA5 ∧ s.core.only keyParts d)) ∧
      (v ≠ ~~~ crc → Gives (.calKey2 ts x v) s (fun d => d.calOpen = none ∧ d.calKey.get x = none ∧ (d.port x).res = 0x5A ∧
        (d.port x).why = 0x01 ∧ s.core.only keyParts d))) ∧
    (s.core.calOpen = some (x, t) → t + 10000000000 ≤ s.at ts → exec (.calSetTimeout ts) s = .next ((s.advance ts).lift (fun d =>
      { d with calOpen := none })))

/-- What the counters say of the node: error-active, error-passive, or off the bus until it recovers (log entry 24). -/
def Sys2Proof.Machine.Can.settled (c : Can) : Can :=
  { c with state := if c.state = 2 ∨ 255 < c.tec then 2 else if 127 < c.tec ∨ 127 < c.rec_ then 1 else 0 }

/-- R58, R618, R628-R630, R634-R637, R640-R644, R688-R690: the events of the buses and of the test access port; while their outputs
are high-impedance the doors send nothing. A response and an event frame go out under door D's own identifiers; the test access
port captures 0001 as it takes an instruction, and the levels at the balls where that selects the boundary register. The PEC
of an alert response follows only where the host acknowledges the address. The steps of the CAN counters are those of ISO 11898-1 (log
entry 24). The model's choices: the cells and levels are operands and a code without a name is BYPASS (log entry 34); what an
abandoned frame leaves and whether the host acknowledges (log entry 25). -/
def Obligations.DoorBuses : Prop :=
  ∀ (s : State) (ts : Nat) (x : Fin 2) (yes heavy : Bool) (r : List Byte) (rest : List (List Byte)) (bit : Nat) (st : Stamp)
      (evs : List (Nat × Stamp)),
    let sets (f : Dev → Dev) : Host.Outcome State Fault Refusal := .next ((s.advance ts).lift f)
    let plus (n : Nat) : Nat := min 0xFFFF (n + 1)
    let y : Fin 4 := ⟨x, by omega⟩
    let p := s.core.port 2
    let c := s.core.can
    let dark := s.core.muted
    let gone (p : Port) : Port := { p with
      short := plus p.short
      lastRes := 0 }
    let canId := s.core.get F.DPROT_CAN_BASE * 32 + 4 * s.core.get F.DPROT_STRAP_S
    let low : Prop := dark = false ∧ s.core.get (F.DOOR_ACAUSE_CAUSE 2) &&& s.core.get (F.DOOR_AEN_EN 2) ≠ 0 ∧ s.core.smbRel = false
    let address := 2 * (0x58 + s.core.get F.DPROT_STRAP_S)
    let body := leBytes 1 bit ++ leBytes 2 (s.core.get (F.DOOR_ACAUSE_CAUSE 3)) ++
      leBytes 1 (s.core.dev.code + 16 * s.core.eff.code + (if s.core.evOvf then 64 else 0)) ++ st.bytes
    let answered : Can := Can.settled { c with
      out := rest
      sentId := canId + 1
      sent := r
      tec := c.tec - 1 }
    let told : Can := Can.settled { c with
      sentId := canId + 2
      sent := canPad (canPayload (BitVec.ofNat 8 s.core.evSent) body)
      tec := c.tec - 1 }
    let heard : Can := Can.settled { c with rec_ := if 127 < c.rec_ then 127 else c.rec_ - 1 }
    let erred : Can := Can.settled { c with
      tec := if yes && !dark then c.tec + 8 else c.tec
      rec_ := if yes && !dark then c.rec_ else c.rec_ + (if heavy then 8 else 1) }
    let woken : Can := { c with
      state := 0
      tec := 0
      rec_ := 0 }
    let works : Prop := s.core.dev = .boot ∨ s.core.dev = .bootFail ∨ s.core.dev = .run ∨ s.core.dev = .holdUp
    (s.core.doorsUp = true →
      exec (.spiFrameAbandon ts x) s = sets (fun d => d.setPort y (gone (s.core.port y))) ∧
      (dark = false → exec (.doorCStrayRead ts) s = sets (fun d => d.setPort 2 { gone p with
        data := [0xFFFFFFFF]
        sent := [0xFF] })) ∧
      (dark = true → exec (.doorCStrayRead ts) s = sets id) ∧
      (s.core.get F.DPROT_SMB_TOEN = 1 → exec (.smbusTimeout ts yes) s = sets (fun d => d.setPort 2 { (if yes then gone p else p) with
        other := plus p.other })) ∧
      (low → s.core.get F.DPROT_SMB_ARAEN = 1 → exec (.alertResponse ts true) s = sets (fun d => { d with
          ports := (d.setPort 2 { p with
            data := [BitVec.ofNat 32 address]
            sent := BitVec.ofNat 8 address :: if Config.hostAcks (s.at ts) then [crc8 [0x19, BitVec.ofNat 8 address]] else [] }).ports
          smbRel := true
          smbArl := false }) ∧
        exec (.alertResponse ts false) s = sets (fun d => { d with smbArl := true })) ∧
      (s.core.get F.DPROT_CAN_EN = 1 → c.state = 2 → exec (.busOffRecovery ts) s = sets (fun d => { d with can := woken })) ∧
      (s.core.get F.DPROT_CAN_EN = 1 → c.integ = false → exec (.canBusIntegration ts) s = sets (fun d => { d with
        can := { c with integ := true } }))) ∧
    (s.core.canOn = true →
      (dark = false → c.out = r :: rest → exec (.canResponseSend ts) s = sets (fun d => { d with can := answered })) ∧
      (dark = true → exec (.canResponseSend ts) s = sets id ∧ exec (.eventFrameSend ts) s = sets id) ∧
      (dark = false → s.core.evq = (bit, st) :: evs → c.out = [] → exec (.eventFrameSend ts) s = sets (fun d => { d with
        evq := evs
        evOvf := false
        evSent := s.core.evSent + 1
        can := told })) ∧
      exec (.ignoredCanFrame ts yes) s = sets (fun d => { d with can := { heard with
        ignored := if yes then plus c.ignored else c.ignored } }) ∧
      exec (.errorFrame ts yes heavy) s = sets (fun d => ({ d with can := erred }).setPort 3 { s.core.port 3 with
        other := plus (s.core.port 3).other })) ∧
    (∀ (code : BitVec 4) (cells levels : BitVec 239),
      let selects : Prop := code = 1 ∨ (code = 0 ∧ s.core.dev = .bootFail)
      (works → Gives (.tapInstruction ts code cells levels) s (fun d => d.tapIr = tapDecode code ∧ d.tapIrOut = 1 ∧
        (selects → d.tapCells = cells ∧ d.tapOut.getLsbD 64 = !s.core.fltLow ∧
          ∀ i, i < 239 → i ≠ 64 → d.tapOut.getLsbD i = levels.getLsbD i) ∧
        (¬ selects → d.tapCells = s.core.tapCells ∧ d.tapOut = s.core.tapOut) ∧
        s.core.only [.now, .tapIr, .tapCells, .tapIrOut, .tapOut] d)) ∧
      (¬ works → exec (.tapInstruction ts code cells levels) s = sets id)) ∧
    exec (.testLogicReset ts) s = sets (fun d => { d with tapIr := 0xF })

/-! ### Purses (08) -/

/-- R303-R309, R313, R314, R320, R326, R255-R257: the scheduler's run, one in each microsecond, refills INRUSH by RATE up to CAP
and answers the queues. A waiting teller's SPEND of HOLD is charged and its wait ends, or is refused outright where the purse can never
cover it; its RESERVE gets the lowest free number, or is refused while throttling stands; an ARMED rail whose interlock is
met asks for its INRUSH coins and is granted them; a request that is not covered keeps those ranked below it waiting.

R133, R311, R312, R318, R321, R324, R326: a rail whose purse wait reaches PTO without every grant, and only then, returns to
OFF with its grants released, and a request that still waits is refused; the HOLD purse is computed from PWR.HOLDV once in
each millisecond, and the energy gone beyond BASE reduces the commitments; a reservation is in FRESH for SETTLE seconds. -/
def Obligations.Purses : Prop :=
  (∀ (s : State) (ts : Nat) (k : Fin 8) (rd : Fin 16) (n : Fin 48) (amt rank us i : Nat) (new : Bool) (l : Option Nat)
      (p q : PReq),
    let t := s.core.teller k
    let filled := min (s.core.get F.PURSE_INCFG_CAP * 1000) (s.core.inrushUj + s.core.get F.PURSE_INCFG_RATE)
    let u := (s.advance ts).core
    let up : Prop := s.core.live = true ∧ s.core.mainAlive = true ∧ s.core.pwr.lowAt = none ∧ s.core.thCause = none ∧
      u.newPeriod s.core.schedAt 1000 = true ∧ (∀ m : Fin 48, (s.core.rail m).waitVin = false)
    let aged : List HRes := s.core.heatRes.map (fun h => { h with
      young := !decide (h.since + s.core.get F.THERM_CFG_SETTLE * 1000000000 ≤ s.at ts) })
    let ran (d : Dev) : Dev := { d with
      inrushUj := filled
      heatRes := aged
      schedAt := some (s.at ts) }
    let calm : Prop := up ∧ (∀ m : Fin 48, (s.core.rail m).code ≠ .armed)
    let sets (f : Dev → Dev) : Host.Outcome State Fault Refusal := .next ((s.advance ts).lift f)
    let waits (w : Wait) : Prop := t.st = .waiting ∧ t.step = false ∧ t.wait = some w
    let on (t' : Teller) : Teller := { t'.onto with
      st := .running
      wait := none
      runAt := s.at ts }
    let no (t' : Teller) : Teller := { t' with
      d := true
      refWhy := 0x20
      refPc := t.pc }
    let hold := s.core.holdE / 1000000 - 20
    let spent := (s.core.holdO + 999999) / 1000000
    let taken (j : Nat) : Prop := ∃ x ∈ s.core.heatRes, ∃ m, x.who = .teller m j
    let granted : HRes := ⟨.teller k i, amt, s.at ts, true⟩
    let waiting : PReq := ⟨.inrush, .rail n, amt, u.writerRank (s.core.rail n).onBy, u.usec.toNat, false⟩
    let r := s.core.rail n
    let asks : Prop := up ∧ (∀ m, m ≠ n → (s.core.rail m).code ≠ .armed) ∧ r.code = .armed ∧ r.inrush = .none ∧ r.heat = .none ∧
      s.core.gateOk n = true ∧ s.core.get (F.RAIL_BUDGET_INRUSH n) = amt ∧ 1 ≤ amt ∧ amt ≤ s.core.get F.PURSE_INCFG_CAP ∧
      s.core.get (F.RAIL_BUDGET_HEAT n) ≠ 0 ∧ s.core.preqs = []
    let asked : Rail := { r with reqAt := some (r.reqAt.getD (s.at ts)) }
    (calm → s.core.preqs = [] → exec (.schedulerRun ts) s = sets ran) ∧
    (u.newPeriod s.core.schedAt 1000 = false → exec (.schedulerRun ts) s = .next (s.advance ts)) ∧
    (calm → waits (.spend l) → s.core.preqs = [⟨.hold, .teller k, amt, rank, us, new⟩] →
      (s.core.dev = .holdUp → s.core.get F.SAFE_STATUS_MONLOST ≠ 1 → amt ≤ hold - spent → exec (.schedulerRun ts) s = sets (fun d =>
        ({ ran d with
          preqs := []
          holdO := s.core.holdO + amt * 1000000 }).setTeller k (on t))) ∧
      (new = true → s.core.dev ≠ .holdUp ∨ hold < amt → exec (.schedulerRun ts) s = sets (fun d => (({ ran d with
          preqs := [] }).mark F.PURSE_EVENT_HOLD_REFUSED).setTeller k (on (no t))))) ∧
    (calm → waits (.reserve rd l) → s.core.preqs = [⟨.heat, .teller k, amt, rank, us, new⟩] →
      (s.core.get F.THERM_STATUS_LEVEL = 0 → (s.core.heatRes.filter HRes.ofTeller).length < 255 →
        amt + ((aged.filter (·.young)).map (·.amt)).sum ≤ s.core.headMw →
        1 ≤ i → i ≤ 255 → ¬ taken i → (∀ j, 1 ≤ j → j < i → taken j) → exec (.schedulerRun ts) s = sets (fun d =>
        ({ ran d with
          preqs := []
          heatRes := aged ++ [granted] }).setTeller k (on (t.xw rd (BitVec.ofNat 32 i))))) ∧
      (1 ≤ s.core.get F.THERM_STATUS_LEVEL → exec (.schedulerRun ts) s = sets (fun d => (({ ran d with
          preqs := [] }).mark F.PURSE_EVENT_HEAT_REFUSED).setTeller k (on (no (t.xw rd 0)))))) ∧
    (asks →
      (amt * 1000 ≤ filled → exec (.schedulerRun ts) s = sets (fun d => ({ ran d with
          inrushUj := filled - amt * 1000 }).setRail n { asked with
          inrush := .granted
          inrushAmt := amt })) ∧
      (filled < amt * 1000 → exec (.schedulerRun ts) s = sets (fun d => ({ ran d with
          preqs := [waiting] }).setRail n { asked with inrush := .waiting }))) ∧
    (calm → s.core.preqs = [p, q] → p.budget = .inrush → q.budget = .inrush → p.isNew = false → q.isNew = false →
      p.before q = true → filled < p.amt * 1000 → exec (.schedulerRun ts) s = sets ran)) ∧
  (∀ (s : State) (ts t : Nat) (n : Fin 48) (q : PReq),
    let r := s.core.rail n
    let up : Prop := s.core.live = true ∧ s.core.mainAlive = true
    let tick : Prop := (s.advance ts).core.newPeriod (some s.core.holdAt) 1000000 = true
    let v := s.core.get F.PWR_HOLDV_V
    let f := s.core.get F.PWR_HOLDCFG_VFLOOR * 1000
    let e := s.core.get F.PWR_HOLDCFG_CAP * (v * v - f * f) / 20000
    let gone := (s.core.holdE - e) - s.core.get F.PURSE_HOLDCFG_BASE * (s.at ts - s.core.holdAt) / 1000
    let left := s.core.holdO - gone
    let short : Prop := s.core.get F.SAFE_STATUS_MONLOST = 1 ∨ e / 1000000 ≤ 20 + (left + 999999) / 1000000
    (up → r.code = .armed → r.reqAt = some t → s.core.grantsOk n = false → q ∈ s.core.preqs → (∀ p ∈ s.core.preqs, p.who = .rail n ↔ p = q) →
      t + s.core.get (F.RAIL_BUDGET_PTO n) * 10000000 ≤ s.at ts → Gives (.purseTimeout ts n) s (fun d =>
        (d.rail n).code = .off ∧ (d.rail n).out = .off ∧ (d.rail n).inrush = .none ∧ (d.rail n).heat = .none ∧
        (d.rail n).reqAt = none ∧ (∀ m, m ≠ n → d.rail m = s.core.rail m) ∧
        (∀ p, p ∈ d.preqs ↔ p ∈ s.core.preqs ∧ p ≠ q) ∧
        (∀ x, x ∈ d.heatRes ↔ x ∈ s.core.heatRes ∧ x.who ≠ .rail n) ∧
        s.core.records 0x0601 n (BitVec.ofNat 32 q.budget.code) 1 d ∧ d.get (refusedFld q.budget) = 1 ∧
        (r.inrush ≠ .granted → d.get F.PURSE_EVENT_IN_TIMEOUT = 1) ∧
        (r.inrush ≠ .granted → d.inrushUj = s.core.inrushUj) ∧
        (r.inrush = .granted → d.inrushUj = min (s.core.get F.PURSE_INCFG_CAP * 1000) (s.core.inrushUj + r.inrushAmt * 1000)) ∧
        s.core.only [.now, .regs, .jq, .jIn, .jLost, .rails, .preqs, .heatRes, .inrushUj, .scs, .phs] d)) ∧
    (up → r.code = .armed → r.reqAt = some t → s.core.grantsOk n = false → (∀ p ∈ s.core.preqs, p.who ≠ .rail n) →
      t + s.core.get (F.RAIL_BUDGET_PTO n) * 10000000 ≤ s.at ts → Gives (.purseTimeout ts n) s (fun d =>
        (d.rail n).code = .off ∧ (d.rail n).reqAt = none ∧ ∀ x ∈ d.jq, x ∈ s.core.jq ∨ x.2.typ ≠ 0x0601)) ∧
    (s.at ts < t + s.core.get (F.RAIL_BUDGET_PTO n) * 10000000 → r.reqAt = some t →
      exec (.purseTimeout ts n) s = .next (s.advance ts)) ∧
    ((s.advance ts).core.newPeriod (some s.core.holdAt) 1000000 = false → exec (.holdPurseUpdate ts) s = .next (s.advance ts)) ∧
    (up → tick → s.core.dev ≠ .holdUp → exec (.holdPurseUpdate ts) s = .next ((s.advance ts).lift (fun d => { d with
        holdE := e
        holdAt := s.at ts }))) ∧
    (up → tick → s.core.dev = .holdUp → (¬ short ∨ left = 0 ∨ s.core.holdShort = true) →
      exec (.holdPurseUpdate ts) s = .next ((s.advance ts).lift (fun d => { d with
        holdE := e
        holdAt := s.at ts
        holdO := left }))) ∧
    (up → tick → s.core.dev = .holdUp → short → left ≠ 0 → s.core.holdShort = false → Gives (.holdPurseUpdate ts) s (fun d =>
        d.holdE = e ∧ d.holdAt = s.at ts ∧ d.holdO = left ∧ d.holdShort = true ∧ d.get F.PURSE_EVENT_HOLD_SHORT = 1 ∧
        s.core.records 0x0602 0 (BitVec.ofNat 32 (e / 1000000)) (BitVec.ofNat 32 ((left + 999999) / 1000000)) d ∧
        s.core.only [.now, .holdE, .holdAt, .holdO, .holdShort, .regs, .jq, .jIn, .jLost] d)) ∧
    exec (.freshExpire ts) s = .next ((s.advance ts).lift (fun d => { d with heatRes := d.heatRes.map (fun h =>
      { h with young := !decide (h.since + s.core.get F.THERM_CFG_SETTLE * 1000000000 ≤ s.at ts) }) })))

/-! ### Throttling (08) -/

/-- R330, R331, R334-R336, R325, R26, R466, R474: the readings of each millisecond. In BOOT and BOOT-FAIL only the vault's shutdown
comparison counts. Valid readings stand in their registers with FAIL clear; the die zone's counts follow its least margin,
and HEADROOM is that margin over THETA, of which the register shows at most 65,535; a die sensor that fails is substituted, and the level in force rises by one. The model's
choices: HEADROOM's quotient is cut to whole mW (log entry 41), and a half of a phase's temperature is rounded up (log entry 21).

R331-R333, R336, R337, R489, R564: a level trips and releases after eight readings, and a changed computed level takes effect
at the next scheduler run; the level in force is the highest of the levels tripped and the floors of the substitutions, a change
of it is journalled with the sensor and zone that caused it, and at level 2 a campaign ends; the
owner ends a substitution and its floor; eight readings 30 C apart declare GRADIENT with the extremes, and probe the die
sensors. -/
def Obligations.Thermal : Prop :=
  (∀ (s : State) (ts : Nat) (die ntc : List (Int × Bool)) (tsns : List Nat) (m : Int) (j : Nat),
    let t (l : List (Int × Bool)) (i : Nat) : Int := (l.getD i (0, true)).1
    let good (l : List (Int × Bool)) (i : Nat) : Prop := (l.getD i (0, true)).2 = false ∧ -550 ≤ t l i ∧ t l i ≤ 2000
    let on (i : Nat) : Prop := (s.core.get F.THERM_CFG_NTCEN).testBit i = true
    let v (p : Fin 24) : Int := (tsns.getD p 0 : Nat)
    let gain (p : Fin 24) : Int := (s.core.get (F.PH_TCFG_TGAIN p) : Nat)
    let temp (p : Fin 24) : Int := (20 * (v p - 10 * (s.core.get (F.PH_TCFG_TZERO p) : Nat)) + gain p) / (2 * gain p)
    let read (p : Fin 24) : Prop := s.core.ctlOf p ≠ none ∧ ∀ q ∈ s.core.probing, q.path ≠ .tsns p
    let hot (i : Nat) : Nat := if 1650 < t die i then min 8 (s.core.checks.sd.get (Fin.ofNat 4 i) + 1) else 0
    let step : Int := (s.core.get F.THERM_CFG_LSTEP * 10 : Nat)
    let hyst : Int := (s.core.get F.THERM_CFG_HYST * 10 : Nat)
    let parts : List Part := [.now, .checks, .regs, .phs, .hday, .thUp, .thDown, .thHot, .headMw]
    let tick : Bool := (s.advance ts).core.newPeriod s.core.checks.readAt 1000000
    (tick = false → exec (.thermalReading ts die ntc tsns) s = .next (s.advance ts)) ∧
    (tick = true → s.core.dev = .boot ∨ s.core.dev = .bootFail → Gives (.thermalReading ts die ntc tsns) s (fun d =>
      (∀ i : Fin 4, d.checks.sd.get i = hot i ∧ d.checks.sdT.get i = t die i) ∧ s.core.only [.now, .checks] d)) ∧
    (tick = true → s.core.live = true → (∀ i, i < 4 → good die i) → (∀ i, i < 4 → on i → good ntc i) →
      (∀ p, read p → 1000 ≤ v p ∧ v p ≤ 25000 ∧ -550 ≤ temp p ∧ temp p ≤ 2000) → Gives (.thermalReading ts die ntc tsns) s (fun d =>
        (∀ i : Fin 4, d.checks.sd.get i = hot i ∧ signed 16 (d.get (F.THERM_SENSOR_T i)) = t die i ∧
          d.get (F.THERM_SENSOR_FAIL i) = 0) ∧
        (∀ i, i < 4 → on i → signed 16 (d.get (F.THERM_SENSOR_T (4 + i))) = t ntc i ∧ d.get (F.THERM_SENSOR_FAIL (4 + i)) = 0) ∧
        (∀ p : Fin 24, read p → signed 16 (d.get (F.PH_TMEAS_T p)) = temp p ∧ d.get (F.PH_TMEAS_FAIL p) = 0 ∧
          d.get (F.PH_TMEAS_FLT p) = 0) ∧ s.core.only parts d ∧
        ((∀ p, s.core.ctlOf p = none) → s.core.get F.THERM_CFG_NTCEN = 0 → (∀ i, i < 4 → s.core.substituted i = false) →
          (∃ i, i < 4 ∧ 1350 - t die i = m) → (∀ i, i < 4 → m ≤ 1350 - t die i) →
          d.headMw = (max 0 m).toNat * 1000 / s.core.get F.THERM_THETA_DIE ∧ d.get F.PURSE_HEAT_HEADROOM = min 65535 ((max 0 m).toNat * 1000 / s.core.get F.THERM_THETA_DIE) ∧
          (s.core.thUp.length = 21 → s.core.thDown.length = 21 → ∀ k, k < 7 →
            d.thUp.getD k 0 = (if m < (7 - k : Nat) * step then min 8 (s.core.thUp.getD k 0 + 1) else 0) ∧
            d.thDown.getD k 0 = (if (7 - k : Nat) * step + hyst < m then min 8 (s.core.thDown.getD k 0 + 1) else 0))))) ∧
    (tick = true → s.core.live = true → j < 4 → ¬ good die j → s.core.substituted j = false → s.core.get F.THERM_SUBST_TS < 16 →
      s.core.get F.THERM_SUBST_NTC < 16 → (∀ f ∈ s.core.thFloors, f.2 ≤ 7) → Gives (.thermalReading ts die ntc tsns) s (fun d =>
        d.get (F.THERM_SENSOR_FAIL j) = 1 ∧ d.get (F.THERM_SENSOR_SUBST j) = 1 ∧ d.substituted j = true ∧
        min 7 (s.core.get F.THERM_STATUS_LEVEL + 1) ≤ d.get F.THERM_STATUS_LEVEL ∧
        s.core.only (errorParts ++ parts ++ [.thFloors, .mgEnd]) d))) ∧
  (∀ (s : State) (ts : Nat) (zone : Fin 3) (level : Fin 7) (high fl : Nat) (wr : Writer) (bits : Word) (hot cool : Nat),
    let j := zone.val * 7 + level.val
    let highest (l : List Bool) : Prop := (∀ i, i < 21 → l.getD i false = true → i % 7 + 1 ≤ high) ∧
      (high = 0 ∨ ∃ i, i < 21 ∧ l.getD i false = true ∧ i % 7 + 1 = high)
    let floored (l : List (Nat × Nat)) : Prop := fl ≤ 7 ∧ (∀ f ∈ l, f.2 ≤ fl) ∧ (fl = 0 ∨ ∃ f ∈ l, f.2 = fl)
    let old := s.core.get F.THERM_STATUS_LEVEL
    let new := max high fl
    let valid (i : Nat) : Prop := i < 4 ∧ s.core.substituted i = false
    let temp (i : Nat) : Int := signed 16 (s.core.get (F.THERM_SENSOR_T i))
    let parts : List Part := [.now, .regs, .jq, .jIn, .jLost, .mgEnd]
    let moves (c : Instr) (b : Bool) : Prop := highest (s.core.thTrip.set j b) → floored s.core.thFloors → Gives c s (fun d =>
      d.thTrip = s.core.thTrip.set j b ∧ d.get F.THERM_STATUS_COMPUTED = high ∧ d.get F.THERM_STATUS_FLOOR = fl ∧
      (highest s.core.thTrip → d.thCause = s.core.thCause) ∧
      (¬ highest s.core.thTrip → d.thCause = some (s.core.thHot.getD zone 0, zone.val)) ∧
      s.core.only [.now, .thTrip, .thCause, .regs] d ∧ s.core.onlyRegs [F.THERM_STATUS_COMPUTED, F.THERM_STATUS_FLOOR] d)
    let ended (i : Nat) : Prop := i < 32 ∧ bits.getLsbD i = true ∧ s.core.substituted i = true
    (s.core.live = true → s.core.thUp.getD j 0 = 8 → s.core.thTrip.getD j false = false → moves (.throttleTrip ts zone level) true) ∧
    (s.core.live = true → s.core.thDown.getD j 0 = 8 → s.core.thTrip.getD j false = true →
      moves (.throttleRelease ts zone level) false) ∧
    (∀ i z, s.core.live = true → s.core.mainAlive = true → (s.advance ts).core.newPeriod s.core.schedAt 1000 = true →
      s.core.thCause = some (i, z) → highest s.core.thTrip → floored s.core.thFloors → s.core.preqs = [] → s.core.pwr.lowAt = none →
      (∀ n : Fin 48, (s.core.rail n).waitVin = false ∧ (s.core.rail n).code ≠ .armed) → Gives (.schedulerRun ts) s (fun d =>
        d.get F.THERM_STATUS_LEVEL = new ∧ d.thCause = none ∧
        (old ≠ new → s.core.records 0x0603 i (BitVec.ofNat 32 new) (BitVec.ofNat 32 z) d) ∧
        d.mgEnd = (if old ≠ new ∧ 2 ≤ new then s.core.mgEnd ||| 1 else s.core.mgEnd) ∧
        s.core.only (.thCause :: .schedAt :: .inrushUj :: .heatRes :: parts) d)) ∧
    (s.core.live = true → s.core.mainAlive = true → s.core.owner 0x7A = wr.owner → s.core.get F.THERM_SUBST_TS < 16 →
      s.core.get F.THERM_SUBST_NTC < 16 → Gives (.substEnd ts wr bits) s (fun d =>
        (∀ i, i < 32 → (d.substituted i = true ↔ s.core.substituted i = true ∧ ¬ ended i)) ∧
        (∀ f, f ∈ d.thFloors ↔ f ∈ s.core.thFloors ∧ ¬ ended f.1) ∧
        ((∃ i, ended i) → highest s.core.thTrip → floored d.thFloors → d.get F.THERM_STATUS_LEVEL = new) ∧
        s.core.only (.thFloors :: .thHot :: .headMw :: parts) d)) ∧
    (s.core.live = true → s.core.checks.grad = 8 → valid hot → valid cool →
      (∀ i, valid i → i ≠ hot → temp i < temp hot) → (∀ i, valid i → temp cool ≤ temp i) → Gives (.gradient ts) s (fun d =>
        d.get F.SAFE_EVENT_GRADIENT = 1 ∧ d.checks.grad = 9 ∧
        s.core.records 0x0A15 hot (BitVec.ofInt 32 (temp hot)) (BitVec.ofInt 32 (temp cool)) d ∧
        ((∀ q ∈ s.core.probing, q.path ≠ .dieSensors) → s.core.probes.length < 16 →
          ∃ q ∈ d.probes, q.path = .dieSensors ∧ q.typ = 0x0A15) ∧
        s.core.only (errorParts ++ [.now, .checks]) d)))

/-! ### The shutdown table (09) -/

/-- R353, R359, R361, R364, R369, R491, R608, R343, R345, R347-R351, R360, R366, R367, R25: a run begins at its entry's first
step, disarms the ARMED rails and takes every margin off, or jumps to it from a lower run; a step acts on the USED rails of
its mask or on its reset outputs, waits for its time, on the vault's own oscillator (which may be 2 % fast, R350), or for VOFF, or is given up at LIMIT with
TABLE_STUCK (BLIND where there are no results); END writes TABLE_END, HOLD-UP goes on to BOOT or POWER-HOLD, and a RUN that a reboot is waiting in goes on to BOOT (R25). A corrupt copy is replaced by the
fallback table. An assertion of FLT_N by another device is recorded once while
the vault does not pull the line, and with EXTEN requests EXTERNAL. A rail with no result yet
reads 0 for VOFF (log entry 12); a jump is a run of its own, with its own acceptance and stuck steps (log entry 27); a wait may end from
98 % of its time on (log entry 36): the model's choices. -/
def Obligations.TableRuns : Prop :=
  ∀ (s : State) (ts d0 cause t0 : Nat) (e : Entry) (r : TRunning) (vin28 jump : Bool) (m : RailSet),
    let v := s.core.vault
    let sets (f : Vault → Vault) : Host.Outcome State Fault Refusal := .next ((s.advance ts).lift (fun d => { d with vault := f d.vault }))
    let first := if v.fallback then 0 else v.entries.getD e.code 0
    let st := v.stepOf r.step
    let us := (s.at ts - r.d) / 1000
    let used (n : Fin 48) : Prop := s.core.get (F.RAIL_CFG_USED n) = 1
    let fallen (n : Fin 48) : Prop := (s.core.rail n).result.getD 0 < s.core.get (F.RAIL_VOFF_VOFF n) ∨
      (s.core.rail n).code = .off ∨ (s.core.rail n).code = .unused
    let running (n : Fin 48) : Prop := (s.core.rail n).code = .rising ∨ (s.core.rail n).code = .qualifying ∨ (s.core.rail n).code = .good
    let blind : Prop := s.core.mainAlive = false ∨ s.core.get F.SAFE_STATUS_CLKFAIL = 1
    let begun : TRunning := ⟨e, d0, first, none, 0⟩
    let acted : TRunning := { r with acted := some (s.at ts) }
    let after (k : Nat) : TRunning := { r with
      step := r.step + 1
      acted := none
      stuck := r.stuck + k }
    let again (r : TRunning) : TRunning := { r with
      step := 0
      acted := none }
    let logs : List Part := [.now, .vault, .regs, .jq, .jIn, .jLost]
    let started (d : Dev) : Prop := d.vault.pend = none ∧ d.vault.run = some begun ∧ d.vault.lastRun = e ∧ d.vault.lastStep = first ∧
      d.get F.CASC_STATUS_SEQOUT = 0 ∧ (d.get F.SHUT_EVENT_RAN).testBit e.code = true ∧ d.alerts 4 ∧
      d.vault.drive = (if v.drive = none then (if e = .dangerous then some .dangerous
        else if e = .vinLoss ∧ s.core.get F.SHUT_CFG_FLTVIN = 1 then some .vinLoss else none) else v.drive)
    (v.pend = some ⟨e, cause, d0, jump⟩ →
      (v.run ≠ none → Gives (.tableRunStart ts) s (fun d => started d ∧ (jump = true → d.get F.SHUT_EVENT_JUMPED = 1) ∧
        s.core.records 0x0701 e.code (BitVec.ofNat 32 cause) 0 d ∧
        s.core.only (logs ++ [.smbRel, .evq, .evOvf, .evDropped]) d)) ∧
      (v.run = none → Gives (.tableRunStart ts) s (fun d => started d ∧ (jump = true → d.get F.SHUT_EVENT_JUMPED = 1) ∧
        (∀ n, (s.core.rail n).code = .armed → (d.rail n).code = .off ∧ (d.rail n).inrush = .none ∧ (d.rail n).heat = .none) ∧
        (∀ n, (s.core.rail n).code ≠ .armed → d.rail n = s.core.rail n) ∧
        (∀ k : Fin 16, d.get (F.MD_CODE_TARGET k) = 0 ∧ d.get (F.MD_CODE_PRESENT k) = 0) ∧
        (∀ c : Fin 8, d.get (F.SC_MRGN_OFS c) = 0) ∧ d.vaultMargins = true ∧ (∀ q ∈ d.preqs, ∀ n, q.who = .rail n → (s.core.rail n).code ≠ .armed) ∧
        (s.core.jLost = 0 → s.core.jq.length ≤ 79 → ∃ q ∈ d.jq, q.2.typ = 0x0701 ∧ q.2.obj = e.code ∧ q.2.arg0 = BitVec.ofNat 32 cause) ∧
        s.core.only (logs ++ [.smbRel, .evq, .evOvf, .evDropped, .rails, .preqs, .heatRes, .inrushUj, .scs, .phs,
          .vaultRails, .vaultMargins, .hday, .hsaved, .holder, .hcopy, .copyVer, .ledgBad, .jck]) d))) ∧
    (v.run = some r → v.pend = none → r.acted = none →
      (st.act = .rsto → Gives (.tableStep ts vin28) s (fun d => d.vault.run = some acted ∧ d.vault.lastStep = r.step ∧
        (∀ k : Fin 8, let holds : Prop := st.rstoSet.getLsbD k = true ∧ s.core.get (F.RSTO_CFG_CLAIM k) = 1
          (d.vault.rsto.getLsbD k = true ↔ v.rsto.getLsbD k = true ∨ holds) ∧
          (holds → (d.get F.RSTO_STATUS_ASSERTED).testBit k = true ∧ (d.get F.RSTO_STATUS_VAULT).testBit k = true ∧
            (d.get F.RSTO_STATUS_STRETCHING).testBit k = false)) ∧
        s.core.only [.now, .vault, .regs] d)) ∧
      (st.act = .off ∨ st.act = .foff → Gives (.tableStep ts vin28) s (fun d => d.vault.run = some acted ∧ d.vault.lastStep = r.step ∧
        (∀ n : Fin 48, st.mask.getLsbD n = true → used n → running n → (d.rail n).code = .falling ∧ d.vaultRails.getLsbD n = true ∧
          ((s.core.rail n).out = .on → (d.rail n).out = .falling ∧ (d.rail n).offAt = s.at ts)) ∧
        (∀ n : Fin 48, st.mask.getLsbD n = true → used n → (s.core.rail n).code = .faulted → s.core.belowVoff n = true →
          (d.rail n).code = .off ∧ (d.rail n).out = .off ∧ (d.rail n).fault = 0) ∧
        (∀ n : Fin 48, st.mask.getLsbD n = false ∨ ¬ used n → d.rail n = s.core.rail n) ∧
        s.core.only (logs ++ [.rails, .vaultRails, .scs, .phs, .hday, .mdAt, .rstoAt, .preqs, .heatRes, .inrushUj]) d)) ∧
      (st.act = .finish → s.core.dev = .run → v.thermal = none → v.reboot = false → Gives (.tableStep ts vin28) s (fun d =>
        d.vault.run = none ∧ d.vault.lastStep = r.step ∧ d.get F.SHUT_LAST_ENTRY = r.entry.code ∧
        d.get F.SHUT_LAST_STUCKN = min 63 r.stuck ∧ d.get F.SHUT_LAST_TIME = min 0xFFFFFF us ∧
        (∀ k : Fin 16, d.get (F.MD_CODE_VAULT k) = 0) ∧
        s.core.records 0x0702 r.entry.code (BitVec.ofNat 32 us) (BitVec.ofNat 32 r.stuck) d ∧ s.core.only (logs ++ [.scs, .phs]) d)) ∧
      (st.act = .finish → s.core.dev = .run → v.thermal = none → v.reboot = true → ∃ t : State, exec (.tableStep ts vin28) s = .next t ∧
        t.core.dev = .boot ∧ t.core.get F.SYS_STATE_BOOTSTEP = 1 ∧ t.core.vault.run = none ∧ t.core.vault.reboot = false ∧
        t.iram = s.iram ∧ t.dram = s.dram ∧ t.bufs = s.bufs ∧ t.pending = s.pending) ∧
      (st.act = .finish → s.core.dev = .holdUp → v.thermal = none → ∃ t : State, exec (.tableStep ts vin28) s = .next t ∧
        t.core.vault.run = none ∧ t.pending = s.pending ∧
        (vin28 = true → t.core.dev = .boot ∧ t.core.get F.SYS_STATE_BOOTSTEP = 1 ∧ t.iram = s.iram ∧ t.dram = s.dram ∧ t.bufs = s.bufs) ∧
        (vin28 = false → t.core.dev = .powerHold ∧ t.iram = [] ∧ t.dram = [] ∧ ∀ c, t.bufs.get c = []))) ∧
    (v.run = some r → v.pend = none → r.acted = some t0 →
      ((st.voff = false ∧ t0 + st.time * 1000 ≤ s.at ts) ∨ (st.voff = true ∧ ¬ blind ∧
          ∀ n : Fin 48, st.mask.getLsbD n = true → used n → fallen n) →
        exec (.tableStepWaitMet ts) s = sets (fun v => { v with
          run := some (after 0)
          lastStep := r.step + 1 })) ∧
      (st.voff = false → s.at ts < t0 + st.time * 980 → exec (.tableStepWaitMet ts) s = .next (s.advance ts)) ∧
      (s.at ts < t0 + st.limit * 980000 → exec (.tableStuck ts) s = .next (s.advance ts)) ∧
      (st.voff = true → t0 + st.limit * 1000000 ≤ s.at ts →
        (∀ n : Fin 48, m.getLsbD n = true ↔ st.mask.getLsbD n = true ∧ used n ∧ ¬ fallen n) →
        (¬ blind → m ≠ 0 → Gives (.tableStuck ts) s (fun d => d.vault.run = some (after 1) ∧ d.vault.lastStep = r.step + 1 ∧
          d.get F.SHUT_EVENT_STUCK = 1 ∧ s.core.records 0x0703 r.step (m.truncate 32) ((m >>> 32).truncate 32) d ∧ s.core.only logs d)) ∧
        (blind → Gives (.tableStuck ts) s (fun d => d.vault.run = some (after 1) ∧ d.vault.lastStep = r.step + 1 ∧
          d.get F.SHUT_EVENT_BLIND = 1 ∧ s.core.records 0x0704 r.step (m.truncate 32) ((m >>> 32).truncate 32) d ∧ s.core.only logs d)))) ∧
    (exec (.tableCrcCheck ts false) s = .next (s.advance ts)) ∧
    (v.loaded = true → v.fallback = false → Gives (.tableCrcCheck ts true) s (fun d =>
      d.get F.SHUT_EVENT_TABLE_CRC = 1 ∧ (v.run.isSome = true → d.alerts 4) ∧ s.core.records 0x0707 0 0 0 d ∧ d.vault.fallback = true ∧
      d.vault.run = v.run.map again ∧ d.vault.pend = v.pend ∧ d.vault.drive = v.drive ∧ s.core.only (.now :: errorParts) d)) ∧
    (s.core.dev ≠ .unpowered → s.core.dev ≠ .powerHold → v.drive = none →
      exec (.externalAssertion ts false) s = sets (fun v => { v with
        lineLow := false
        lineSeen := false }) ∧
      (v.lineSeen = true → exec (.externalAssertion ts true) s = sets (fun v => { v with lineLow := true })) ∧
      (v.lineSeen = false → Gives (.externalAssertion ts true) s (fun d => d.vault.lineLow = true ∧ d.vault.lineSeen = true ∧
        d.get F.SHUT_FLT_EXT = 1 ∧
        s.core.records 0x0705 0 0 0 d ∧ (s.core.get F.SHUT_CFG_EXTEN = 1 → s.core.enters .external 0x0705 (s.at ts) d) ∧
        (s.core.get F.SHUT_CFG_EXTEN ≠ 1 → d.vault.pend = v.pend) ∧ s.core.only (.calOpen :: logs) d))) ∧
    (v.drive.isSome = true → v.lineSeen = false → exec (.externalAssertion ts true) s = sets (fun v => { v with lineLow := true }))

/-! ### Converters and captures (10, 11) -/

/-- R374, R376, R377, R378, R381, R384, R387, R392, R133, R269, R401, R408: the next result of a converter's pipeline: V is the mean of the
window's corrected codes over the range's span, rounded and cut to it, nine clocks after the dwell's last sample; a scan dwell's
result stands in MEAS while the scan goes on with the next slot; a result below VOFF ends a fall; an injected dwell's result
reaches DIAGRES and its requester; a scan dwell whose samples fall within the open-wire test of its channel is discarded (R408); a background result outside its limit is the error CONV_PLAUS. A half is rounded up
(log entry 21); the correction of a code by the converter's factors is a free value (log entry 39). -/
def Obligations.ConverterResults : Prop :=
  ∀ (s : State) (ts : Nat) (c : Fin 6) (k : Fin 8) (settle codes : List Nat) (temp : Int) (t : Trig) (f : Flight)
      (rest : List Flight) (x : Fin 4) (m : Fin 8) (pc : BitVec 16) (rd : Fin 16),
    let cv := s.core.cv c
    let n : Fin 48 := ⟨8 * c.val + k.val, by omega⟩
    let r := s.core.rail n
    let sum (ch : Nat) : Int := (codes.map (fun w => s.core.corrected c ch w)).foldl (· + ·) 0
    let mean (ch span : Nat) : Int := (2 * sum ch * (span : Int) + (codes.length * 2 ^ 30 : Nat)) / (2 * (codes.length * 2 ^ 30 : Nat))
    let value (ch span : Nat) : Nat := if (span : Int) < mean ch span then span else (max 0 (mean ch span)).toNat
    let clips (ch span : Nat) : Bool := decide ((span : Int) < mean ch span ∨ mean ch span < 0)
    let sound := s.core.get (F.CV_STATUS_INVALID c) != 1
    let up : Prop := s.core.live = true ∧ s.core.mainAlive = true
    let span := spanOf (s.core.get (F.RAIL_CFG_RANGE n))
    let flies (kind : FlightKind) : Prop := up ∧ cv.flights = f :: rest ∧ f.kind = kind ∧ codes.length = f.n ∧
      f.last + 9 * f.clk ≤ s.at ts
    let d1 := (cv.s + cv.n) * cv.clk
    let scans : Prop := up ∧ cv.flights = [] ∧ cv.op = .scan ∧ cv.slot = k ∧ codes.length = cv.n ∧
      cv.began + d1 + 9 * cv.clk ≤ s.at ts
    let bare (a b : Nat) : Prop := cv.wire = none ∧ (∀ w, cv.wireOut = some w → w.2 ≤ a) ∧ (∀ t, r.blankAt = some t → b ≤ t) ∧ (∀ w ∈ r.blankWas, b ≤ w.1 ∨ w.2 ≤ a)
    let calm : Prop := (s.core.ovUnderTest n = false ∧ s.core.get (F.RAIL_WSTATUS_BADOV n) ≠ 1) ∨
      value k span ≤ s.core.get (F.RAIL_OVTH_OVTH n)
    let stands (began : Nat) (d : Dev) : Prop := (d.rail n).result = some (value k span) ∧
      d.get (F.RAIL_MEAS_V n) = value k span ∧ d.get (F.RAIL_MEAS_CLIP n) = (if clips k span then 1 else 0) ∧
      d.get (F.RAIL_MEAS_READY n) = 1 ∧ d.get (F.RAIL_MEAS_SEQ n) = (s.core.get (F.RAIL_MEAS_SEQ n) + 1) % 256 ∧
      (d.get (F.RAIL_MEAS_VALID n) = 1 ↔ sound = true ∧ ∀ u, r.rangeAt = some u → u ≤ began) ∧
      (r.out = .falling → r.code = .falling → value k span < s.core.get (F.RAIL_VOFF_VOFF n) → (d.rail n).code = .off) ∧
      (r.code = .off → r.out = .off → (∀ i, (d.rail i).code = (s.core.rail i).code ∧ (d.rail i).out = (s.core.rail i).out) ∧
        s.core.only [.now, .cvs, .caps, .regs, .rails, .stats] d)
    let idle : Prop := s.core.capState c ≠ 1 ∧ s.core.capState c ≠ 2
    let diag (ch : Nat) := value ch 16000
    let fld := F.CV_DIAGRES c (t.ch - 8)
    let word (ch : Nat) (g : Fld) := measWord (diag ch) (s.core.get g / 2 ^ 20 + 1) (clips ch 16000) true sound
    let plain : Prop := 8 ≤ t.ch ∧ t.ch ≤ 10
    let w := s.core.teller m
    (flies (.scan k) → f.told = true ∨ idle → bare f.first f.last → calm → Gives (.dwellPublish ts c settle codes temp) s (fun d =>
      (d.cv c).flights = rest ∧ stands f.began d)) ∧
    (flies (.scan k) → f.told = true ∨ idle → cv.wire.any (fun w => w.ch == k.val && decide (2 ≤ w.step)) = true ∨
        cv.wireOut.any (fun w => w.1 == k.val && decide (f.first < w.2)) = true →
      Gives (.dwellPublish ts c settle codes temp) s (fun d => (d.cv c).flights = rest ∧ s.core.only [.now, .cvs] d)) ∧
    (scans → idle → bare cv.began (cv.began + d1) → calm → Gives (.dwellPublish ts c settle codes temp) s (fun d =>
      (d.cv c).flights = [] ∧ (d.cv c).slot = k + 1 ∧ (d.cv c).began = cv.began + d1 ∧ (d.cv c).must = cv.must - 1 ∧
      d.get (F.CV_CHSEL_CH c) = (k + 1 : Fin 8) ∧ d.get (F.CV_CHSEL_INJ c) = 0 ∧ stands cv.began d)) ∧
    (flies (.dwell t) → f.told = true → plain →
      (t.src = .door x → Gives (.dwellPublish ts c settle codes temp) s (fun d => (d.cv c).flights = rest ∧
        d.get fld = (word t.ch fld).toNat ∧ d.get (F.CV_INJRES_WORD c) = (word t.ch (F.CV_INJRES_WORD c)).toNat ∧
        s.core.only [.now, .cvs, .regs] d ∧ s.core.onlyRegs [fld, F.CV_INJRES_WORD c, F.CV_EVENT_CLIP c] d)) ∧
      (t.src = .teller m pc → w.wait = some (.inj rd c t.arrive) → w.st = .waiting → w.step = false →
        Gives (.dwellPublish ts c settle codes temp) s (fun d => (d.cv c).flights = rest ∧ d.get fld = (word t.ch fld).toNat ∧
          d.teller m = { (w.xw rd (word t.ch fld)).onto with
            st := .running
            wait := none
            runAt := s.at ts } ∧ s.core.only [.now, .cvs, .regs, .tellers] d))) ∧
    (flies (.own (.plaus 9)) → f.told = true → Gives (.dwellPublish ts c settle codes temp) s (fun d =>
      d.get (F.CV_DIAGRES c 1) = (word 9 (F.CV_DIAGRES c 1)).toNat ∧
      (diag 9 ≤ 20 → s.core.only [.now, .cvs, .regs] d ∧ s.core.onlyRegs [F.CV_DIAGRES c 1, F.CV_EVENT_CLIP c] d) ∧
      (20 < diag 9 → d.get (F.CV_EVENT_PLAUS c) = 1 ∧ s.core.records 0x0502 c 9 (word 9 (F.CV_DIAGRES c 1)) d ∧
        s.core.only (errorParts ++ [.now, .cvs]) d)))

/-- R383, R385, R387, R388, R422, R431, R434-R437: the operations of a converter. A presented trigger is accepted and
abandons the scan dwell; the pending trigger is served at the boundary that ends the full scan; an internal request waits
for both; a burst takes the newest descriptor, or is missed where the buffer takes none; the end of an injected dwell
resumes the scan with the abandoned slot, and a burst's words enter the buffer, a tag first. The buffer's 14-bit codes are the
corrected codes (log entry 39), a half rounded up (log entry 21); that a burst's words enter it as the burst ends is log entry 29: the
model's choices. -/
def Obligations.ConverterOperations : Prop :=
  ∀ (s : State) (ts : Nat) (c : Fin 6) (t : Trig) (raw : List Nat) (i : Internal) (rest : List Internal) (p : Bool)
      (len done : Nat) (x : Fin 4),
    let cv := s.core.cv c
    let ready : Prop := s.core.live = true ∧ s.core.mainAlive = true ∧ cv.op = .scan
    let dwell := (cv.s + cv.n) * cv.clk
    let early : Prop := s.at ts < cv.began + dwell
    let ended : Prop := cv.began + dwell ≤ s.at ts
    let selects (d : Dev) (ch : Nat) : Prop := d.get (F.CV_CHSEL_CH c) = ch % 16 ∧ d.get (F.CV_CHSEL_INJ c) = 1 ∧
      (d.cv c).began = s.at ts
    let st := s.core.get (F.CAP_STATUS_STATE c)
    let l := if s.core.get (F.CAP_CFG_CAPLEN c) = 0 then 65536 else s.core.get (F.CAP_CFG_CAPLEN c)
    let cut := if 65536 < cv.s + l then 65536 - cv.s else l
    let slot := (s.core.get (F.CAP_DCOUNT_NEWEST c) + 1) % 4
    let at_ := s.core.get (F.CAP_STATUS_WPTR c)
    let resumes (d : Dev) : Prop := (d.cv c).op = .scan ∧ (d.cv c).must = 8 ∧ (d.cv c).ownMust = 8 ∧ (d.cv c).slot = cv.slot ∧
      (d.cv c).began = s.at ts ∧ d.get (F.CV_CHSEL_INJ c) = 0
    let shut (j : Nat) : Bool := if h : t.ch < 8 then
      (s.core.rail ⟨8 * c.val + t.ch, by omega⟩).blankedAt (cv.began + j * cv.clk) else false
    let code (j : Nat) : BitVec 16 := BitVec.ofNat 16 (min 16383 (max 0 ((2 * s.core.corrected c t.ch (raw.getD j 0) + 2 ^ 16) / 2 ^ 17)).toNat)
    let word (j : Nat) : BitVec 16 :=
      if j = 0 then BitVec.ofNat 16 (0xC030 + t.ch % 16 + (if (s.core.cap c).tagGap then 0x40 else 0))
      else if j < cv.s then 0x4000#16 ||| code j else if shut j then 0x8000#16 ||| code j else code j
    let parts : List Part := [.now, .cvs, .caps, .regs]
    let flight (kind : FlightKind) : Flight := ⟨kind, cv.began, cv.began, cv.began + dwell, cv.s, cv.n, cv.clk, true⟩
    let run (j : Nat) : Flight := ⟨.run t.ch, cv.began, if j = 0 then cv.began else cv.began + (cv.s + j * cv.n) * cv.clk,
      cv.began + (cv.s + j * cv.n) * cv.clk + cv.n * cv.clk, cv.s, cv.n, cv.clk, true⟩
    (ready → early → cv.arriving = some t →
      (t.burst = false → Gives (.triggerAccept ts c []) s (fun d => (d.cv c).op = .dwell t false ∧ (d.cv c).arriving = none ∧
        selects d t.ch ∧ (d.cv c).slot = cv.slot ∧ s.core.only parts d)) ∧
      (t.burst = true → st = 1 ∨ st = 2 → t.src = .door x → t.ch < 8 → at_ < 65536 → Gives (.triggerAccept ts c []) s (fun d =>
        (d.cv c).op = .burst t false cut 0 ∧ (d.cv c).arriving = none ∧ selects d t.ch ∧ d.get (F.CAP_STATUS_STATE c) = 2 ∧
        d.get (F.CAP_DCOUNT_NEWEST c) = slot ∧ d.get (F.CAP_DPOS_TRIG c slot) = at_ ∧ d.get (F.CAP_DLEN_LEN c slot) = 0 ∧
        d.get (F.CAP_DSRC_SRC c slot) = 4 ∧ d.get (F.CAP_DSRC_CH c slot) = t.ch ∧ d.get (F.CAP_DSRC_OBJ c slot) = x ∧
        (∀ j, j < 4 → d.get (F.CAP_DSTAMP c slot j) = (t.stamp.word j).toNat) ∧ s.core.only parts d)) ∧
      (t.burst = true → st ≠ 1 → st ≠ 2 → Gives (.triggerAccept ts c []) s (fun d => (d.cv c).op = .scan ∧ (d.cv c).arriving = none ∧
        d.get (F.CAP_MISS_MISS c) = min 65535 (s.core.get (F.CAP_MISS_MISS c) + 1) ∧ d.get (F.CAP_EVENT_MISS c) = 1 ∧
        s.core.only parts d))) ∧
    (ready → cv.pend = some t → t.burst = false → t.ch ≠ 8 → cv.arriving = none →
      (early → cv.must = 0 → Gives (.pendingTriggerServe ts c []) s (fun d => (d.cv c).op = .dwell t true ∧ (d.cv c).pend = none ∧
        selects d t.ch ∧ s.core.only parts d)) ∧
      (s.at ts = cv.began + dwell → 0 < dwell → cv.must ≤ 1 → (∀ f ∈ cv.flights, s.at ts < f.last + 9 * f.clk) →
        Gives (.pendingTriggerServe ts c []) s (fun d => (d.cv c).op = .dwell t true ∧ (d.cv c).pend = none ∧
          selects d t.ch ∧ (d.cv c).slot = cv.slot + 1 ∧
          (d.cv c).flights = cv.flights.map (fun (f : Flight) => { f with told := true }) ++ [flight (.scan cv.slot)] ∧
          s.core.only parts d)) ∧
      (early → 1 ≤ cv.must → exec (.pendingTriggerServe ts c []) s = .next (s.advance ts))) ∧
    (ready → early → cv.own = i :: rest → cv.must = 0 → cv.ownMust = 0 → cv.arriving = none → cv.pend = none →
      i ≠ .probe 8 ∨ cv.pAt + 5000 ≤ s.at ts → Gives (.internalDwellServe ts c []) s (fun d =>
        (d.cv c).op = .own i ∧ (d.cv c).own = rest ∧ selects d i.ch ∧ s.core.only parts d)) ∧
    (ended → s.core.eff ≠ .watch →
      (cv.op = .dwell t p → Gives (.injectedOperationEnd ts c []) s (fun d => resumes d ∧
        (d.cv c).flights = cv.flights ++ [flight (.dwell t)] ∧ s.core.only parts d)) ∧
      (cv.op = .own i → Gives (.injectedOperationEnd ts c []) s (fun d => resumes d ∧
        (d.cv c).flights = cv.flights ++ [flight (.own i)] ∧ s.core.only parts d))) ∧
    (cv.op = .burst t p len done → cv.began + (cv.s + len) * cv.clk ≤ s.at ts → raw.length = cv.s + len → 1 ≤ raw.length →
      raw.length ≤ 65536 → at_ < 65536 → s.core.eff ≠ .watch → (s.core.cap c).disarm = false → (s.core.cap c).back = none →
      s.core.get (F.CAP_CTL_FREEZE c) ≠ 1 → s.core.get (F.CAP_DCOUNT_NEWEST c) < 4 →
      ∃ u : State, exec (.injectedOperationEnd ts c raw) s = .next u ∧ resumes u.core ∧ u.core.get (F.CAP_STATUS_STATE c) = 1 ∧
        u.core.get (F.CAP_EVENT_DONE c) = 1 ∧ u.core.get (F.CAP_STATUS_WPTR c) = (at_ + raw.length) % 65536 ∧
        u.core.get (F.CAP_DCOUNT_SEQ c) = (s.core.get (F.CAP_DCOUNT_SEQ c) + 1) % 256 ∧
        u.core.get (F.CAP_DLEN_LEN c (s.core.get (F.CAP_DCOUNT_NEWEST c))) = ((s.core.cap c).pre + raw.length) % 2 ^ 17 ∧
        (u.core.cv c).flights = cv.flights ++ (List.range (len / cv.n - done)).map (fun j => run (done + j)) ∧
        (∀ j, j < raw.length → sget (fun _ => 0) (u.bufs.get c) ((at_ + j) % 65536) = word j) ∧
        (∀ j, 65536 ≤ j ∨ raw.length ≤ (j + 65536 - at_) % 65536 →
          sget (fun _ => 0) (u.bufs.get c) j = sget (fun _ => 0) (s.bufs.get c) j) ∧
        (∀ b, b ≠ c → u.bufs.get b = s.bufs.get b) ∧ u.pending = s.pending ∧ u.ledger = s.ledger ∧ u.iram = s.iram ∧
        u.dram = s.dram ∧ s.core.only parts u.core)

/-- R401, R410, R411, R442, R443, R445, R395, R396, R398, R399, R405, R406: the converter's ticks, the statistics of an
interval, calibration and the open-wire test. A half is rounded up (log entry 21). -/
def Obligations.ConverterTicks : Prop :=
  ∀ (s : State) (ts : Nat) (c : Fin 6) (n : Fin 48) (fs : List Nat) (temp : Int) (j m : Nat) (w : Wire),
    let cv := s.core.cv c
    let up : Prop := s.core.live = true ∧ s.core.mainAlive = true
    let sets (f : Dev → Dev) : Host.Outcome State Fault Refusal := .next ((s.advance ts).lift f)
    let a := s.core.stats.get n
    let whole (x : Int) : Nat := if a.nres = 0 then 0 else (max 0 ((2 * x + 2 ^ 30) / 2 ^ 31)).toNat
    let mean : Nat := if a.nres = 0 then 0 else (max 0 ((2 * a.sumM + (a.nres * 2 ^ 37 : Nat)) / (a.nres * 2 ^ 38 : Nat))).toNat
    let fits (j : Nat) : Prop := if 4 ≤ j ∧ j < 8 then 996148 ≤ fs.getD j 0 ∧ fs.getD j 0 ≤ 1101004
      else -4096 ≤ signed 32 (fs.getD j 0) ∧ signed 32 (fs.getD j 0) ≤ 4096
    let closes : Prop := cv.op = .cal ∧ fs.length = 16 ∧ cv.calAt + 1200000 ≤ s.at ts
    let begins : Prop := cv.calPend = true ∧ cv.calWait = 0 ∧ cv.wire = none ∧ s.core.mainAlive = true ∧
      ((s.core.live = true ∧ cv.op = .scan ∧ s.at ts < cv.began + (cv.s + cv.n) * cv.clk) ∨ (s.core.dev = .boot ∧ cv.op = .idle))
    let wset := s.core.get (F.CV_OWCTL_OWSET c) * 1000
    let mv (d : Int) : Int := (2 * d + 10) / 20
    let dp := mv ((w.v1 : Int) - w.v0)
    let dn := mv ((w.v2 : Int) - w.v0)
    let thr : Int := (s.core.get (F.CV_OWCTL_OWTHR c) : Nat)
    let wired (d : Dev) : Prop := (d.cv c).wire = none ∧ d.get (F.CV_OWRES_READY c) = 1 ∧
      d.get (F.CV_OWRES_SEQ c) = (s.core.get (F.CV_OWRES_SEQ c) + 1) % 256 ∧
      signed 16 (d.get (F.CV_OWDELTA_DP c)) = max (-32768) (min 32767 dp) ∧
      signed 16 (d.get (F.CV_OWDELTA_DN c)) = max (-32768) (min 32767 dn) ∧
      d.get (F.CV_OWRES_OPEN_P c) = (if thr < dp then 1 else 0) ∧ d.get (F.CV_OWRES_OPEN_N c) = (if thr < dn then 1 else 0)
    let gapped : Cap := { s.core.cap c with gap := true }
    (up → s.core.eff ≠ .watch → cv.plausAt + 10000000 ≤ s.at ts → exec (.plausibilityDwell ts c) s = sets (fun d => d.setCv c { cv with
      plausAt := s.at ts
      rotate := cv.rotate + 1
      own := cv.own ++ [.plaus (9 + cv.rotate % (if c.val < 4 then 3 else 4))] })) ∧
    (up → s.core.eff = .watch → s.core.tickAt ≤ s.at ts → Gives (.slowScanTick ts) s (fun d =>
      d.tickAt = s.core.tickAt + 10000000 ∧ (∀ c : Fin 6, (s.core.cv c).op ≠ .idle → d.cv c = s.core.cv c) ∧
      (∀ c : Fin 6, (s.core.cv c).op = .idle → d.cv c = { s.core.cv c with
        op := .slow
        ownMust := 8
        slot := 0
        began := s.core.tickAt + 50000
        fast := s.core.cvFast
        s := s.core.get (F.CV_CFG_S c)
        n := 2 ^ s.core.get (F.CV_CFG_NLOG c) } ∧ d.get (F.CV_CHSEL_CH c) = 0 ∧ d.get (F.CV_CHSEL_INJ c) = 0) ∧
      s.core.only [.now, .cvs, .regs, .tickAt] d)) ∧
    (up → s.core.statAt + s.core.statLen * 1000000 ≤ s.at ts → Gives (.statsInterval ts) s (fun d =>
      d.statAt = s.core.statAt + s.core.statLen * 1000000 ∧ d.statLen = s.core.get F.CAP_STATCFG_INTERVAL ∧
      d.get (F.RAIL_SMIN_V n) = whole a.lo % 2 ^ 20 ∧ d.get (F.RAIL_SMAX_V n) = whole a.hi % 2 ^ 20 ∧
      d.get (F.RAIL_SPP_V n) = (whole a.hi - whole a.lo) % 2 ^ 20 ∧ d.get (F.RAIL_SMEAN_V n) = mean % 2 ^ 20 ∧
      (m = 4 * a.sumR / (a.nres * 2 ^ 74) → a.nres ≠ 0 → m < 2 ^ 40 →
        (2 * d.get (F.RAIL_SRMS_V n) - 1) ^ 2 ≤ m ∧ m < (2 * d.get (F.RAIL_SRMS_V n) + 1) ^ 2) ∧
      d.get (F.RAIL_SMEAN_VALID n) = (if a.nres = 0 then 0 else 1) ∧ d.get (F.RAIL_SMEAN_READY n) = 1 ∧
      d.get (F.RAIL_SCNT_NRES n) = min 0xFFFFFF a.nres ∧ d.get (F.RAIL_SDROOP_DROOPS n) = min 0xFFFF a.droops ∧
      d.stats.get n = { prev := a.prev } ∧ s.core.only [.now, .regs, .stats, .hday, .statAt, .statLen] d)) ∧
    (begins → exec (.calibrationBegin ts c []) s = sets (fun d => (d.setCv c { cv with
      flights := if cv.op = .scan then cv.flights.map (fun (f : Flight) => { f with told := true }) else cv.flights
      op := .cal
      calPend := false
      calAt := s.at ts }).setCap c gapped)) ∧
    (closes → up → (∀ i, i < 16 → fits i) → Gives (.calibrationEnd ts c fs temp) s (fun d =>
      (∀ i, i < 16 → d.get (F.CV_CALF c i) = fs.getD i 0 % 2 ^ 32) ∧ d.get (F.CV_CALSTAT_RESULT c) = 1 ∧
      signed 12 (d.get (F.CV_CALSTAT_TEMP c)) = max (-2048) (min 2047 temp) ∧ d.get (F.CV_EVENT_CALDONE c) = 1 ∧
      d.get (F.CV_STATUS_INVALID c) = 0 ∧ (d.cv c).calOkAt = some (s.at ts) ∧ (d.cv c).op = .scan ∧ (d.cv c).slot = 0 ∧
      (d.cv c).began = s.at ts ∧ (d.cv c).must = 0 ∧ (d.cv c).pend = cv.pend ∧
      s.core.only [.now, .cvs, .regs] d)) ∧
    (closes → up → j < 16 → ¬ fits j → (∀ i, i < j → fits i) → Gives (.calibrationEnd ts c fs temp) s (fun d =>
      (∀ i, i < 16 → d.get (F.CV_CALF c i) = s.core.get (F.CV_CALF c i)) ∧ d.get (F.CV_CALSTAT_RESULT c) = 2 ∧
      d.get (F.CV_EVENT_CALFAIL c) = 1 ∧ s.core.records 0x0501 c (BitVec.ofNat 32 j) (BitVec.ofNat 32 (fs.getD j 0)) d ∧
      (d.cv c).op = .scan ∧ (d.cv c).slot = 0 ∧ s.core.only (errorParts ++ [.now, .cvs]) d)) ∧
    (closes → s.core.dev = .boot → s.core.mainAlive = true → s.core.get F.SYS_STATE_BOOTSTEP = 6 → (∀ i, i < 16 → fits i) →
      (∀ v, v ≠ c → s.core.calibrating v = false) → cv.calPend = false → Gives (.calibrationEnd ts c fs temp) s (fun d =>
      d.get F.SYS_STATE_BOOTSTEP = 7 ∧ (d.cv c).op = .idle ∧ s.core.only [.now, .cvs, .regs] d)) ∧
    (s.core.live = true → cv.wire = some w → w.since + wset ≤ s.at ts →
      (w.step = 2 ∨ w.step = 3 → w.dwell = false → exec (.openWireSettle ts c) s = sets (fun d => d.setCv c { cv with
        wire := some { w with dwell := true }
        own := cv.own ++ [.wire w.ch] })) ∧
      (w.step = 4 → dp ≤ thr → dn ≤ thr → Gives (.openWireEnd ts c) s (fun d => wired d ∧ s.core.only [.now, .cvs, .regs] d)) ∧
      (w.ch < 8 → w.step = 4 → thr < dp ∨ thr < dn → w.probe = false → Gives (.openWireEnd ts c) s (fun d => wired d ∧
        d.get (F.CV_EVENT_OPEN c) = 1 ∧ s.core.records 0x0503 (8 * c + w.ch) (d.stored (0x150B + 0x80 * c)) (d.stored (0x150A + 0x80 * c)) d ∧
        s.core.only (errorParts ++ [.now, .cvs]) d)))

/-- R413, R414, R416, R418, R419, R422, R424-R430, R150, R403: a comparator sets beyond its code and releases HYS codes on the other
side of it; its live output follows a crossing; a rise is counted, sets the latch and takes its routes (STAMP, alert); a UV
excursion shorter than UVFILT is counted. In WATCH each close's sample decides. The window test goes from step to step, each
with what the comparator must show; a failed step is the error WIN_TEST; a comparator whose test is over may latch; at the
test's end the test DAC settles for 5 us. That the hysteresis in WATCH counts from the last sample is log entry 40, the model's choice. -/
def Obligations.Windows : Prop :=
  ∀ (s : State) (ts t : Nat) (c : Fin 6) (n : Fin 48) (ov shows : Bool) (level : Int) (levels : List Int) (w : WTest) (x : Fin 4)
      (m : Fin 48),
    let r := s.core.rail n
    let sets (f : Dev → Dev) : Host.Outcome State Fault Refusal := .next ((s.advance ts).lift f)
    let v := cvOf n
    let wt := (s.core.cv v).wtest
    let free : Prop := s.core.live = true ∧ s.core.eff ≠ .watch ∧ wt = none
    let step : Int := spanOf (s.core.get (F.RAIL_CFG_RANGE n)) * 100
    let hys : Int := s.core.get (F.RAIL_WCFG_HYS n)
    let uvc : Int := s.core.get (F.RAIL_WSTATUS_UVCODE n)
    let ovc : Int := s.core.get (F.RAIL_WSTATUS_OVCODE n)
    let beyond : Prop := if ov then ovc * step < level * 1024 else level * 1024 < uvc * step
    let back : Prop := if ov then level * 1024 < (ovc - hys) * step else (uvc + hys) * step < level * 1024
    let may : Prop := if ov then r.code ≠ .unused else r.code = .good
    let lit : Rail := if ov then { r with
      ovLive := true
      ovAt := some (s.at ts)
      brokeAt := s.at ts } else { r with
      uvLive := true
      uvAt := some (s.at ts)
      brokeAt := s.at ts }
    let stamp := (s.advance ts).core.stamp
    let sample (o : Bool) (m : Fin 48) : Bool := s.core.compares m o ((s.core.rail m).shows o) (levels.getD m 0)
    let must : Bool := if w.step = 1 then !r.shows w.ov else if w.step = 2 then w.ov else !w.ov
    let tested : Prop := wt = some w ∧ w.rail = n ∧ s.core.mainAlive = true ∧ s.core.testPaused w = false ∧
      w.since + (if w.step = 1 then 1000 else 4000) ≤ s.at ts
    let next (w : WTest) : Host.Outcome State Fault Refusal := sets (fun d => d.setCv v { s.core.cv v with wtest := some w })
    let code := s.core.get (if w.ov then F.RAIL_WSTATUS_OVCODE n else F.RAIL_WSTATUS_UVCODE n)
    let after : Nat := if w.step = 1 ∧ code < 1023 then 2 else if w.step ≤ 2 ∧ code ≠ 0 then 3 else 4
    let dark : Prop := r.uvLive = false ∧ r.ovLive = false
    (free → may → r.shows ov = false → beyond → s.core.get (latchFld n ov) = 0 → s.core.get (routeCap n ov) = 0 →
      s.core.get (routeWake n ov) = 0 → Gives (.comparatorCrossing ts n ov level) s (fun d => d.rail n = lit ∧ d.get (latchFld n ov) = 1 ∧
        d.get (countFld n ov) = min 0xFFFF (s.core.get (countFld n ov) + 1) ∧ (∀ m, m ≠ n → d.rail m = s.core.rail m) ∧
        (s.core.get (routeStamp n ov) = 1 → s.core.get (F.RAIL_WSTATUS_STAMPV n) = 0 →
          d.get (F.RAIL_WSTATUS_STAMPV n) = 1 ∧ d.get (F.RAIL_WSTATUS_STAMPSRC n) = (if ov then 1 else 0) ∧
          ∀ j, j < 4 → d.get (F.RAIL_WSTAMP n j) = (stamp.word j).toNat) ∧
        ((s.core.get (routeAlert n ov)).testBit x = true → (d.get (F.DOOR_ACAUSE_CAUSE x)).testBit 0 = true) ∧
        s.core.only [.now, .rails, .phs, .regs, .hday, .smbRel, .evq, .evOvf, .evDropped] d)) ∧
    (r.shows ov = false ∧ ¬ beyond ∨ r.shows ov = true ∧ ¬ back → exec (.comparatorCrossing ts n ov level) s = .next (s.advance ts)) ∧
    (free → r.ovLive = true → ov = true → back → exec (.comparatorCrossing ts n ov level) s = sets (fun d => d.setRail n { r with
      ovLive := false
      ovAt := none
      brokeAt := s.at ts })) ∧
    (free → r.uvLive = true → ov = false → back → r.code = .good → Gives (.comparatorCrossing ts n ov level) s (fun d =>
      d.rail n = { r with
        uvLive := false
        uvAt := none
        brokeAt := s.at ts } ∧
      (r.uvAt = some t → s.at ts < t + s.core.get (F.RAIL_FILT_UVFILT n) * 100 →
        d.get (F.RAIL_COUNT_UVSHORT n) = min (2 ^ (F.RAIL_COUNT_UVSHORT n).w - 1) (s.core.get (F.RAIL_COUNT_UVSHORT n) + 1)) ∧
      s.core.only [.now, .rails, .regs, .hday] d)) ∧
    (s.core.live = true → s.core.mainAlive = true → s.core.eff = .watch → s.core.sampled = false → s.core.closeAt + 2000 ≤ s.at ts →
      (∀ c, (s.core.cv c).wtest = none) → Gives (.windowSample ts levels) s (fun d => d.sampled = true ∧
        (∀ n : Fin 48, (d.rail n).uvLive = sample false n ∧ (d.rail n).ovLive = sample true n ∧ (d.rail n).uvSeen = sample false n) ∧
        (sample true m = true → (s.core.rail m).ovLive = false ∨ (s.core.rail m).ovAt.isSome = true → (s.core.rail m).code ≠ .unused →
          d.get (F.RAIL_EVENT_OV m) = 1 ∧ d.alerts 4) ∧
        ((∀ n, sample false n = false ∧ sample true n = false) →
          s.core.only [.now, .sampled, .rails, .regs, .jq, .jIn, .jLost] d))) ∧
    (tested → shows = must →
      (1 ≤ w.step → w.step ≤ 3 → exec (.windowTestStep ts n shows) s = next { w with
        step := after
        since := s.at ts }) ∧
      (w.step = 4 → w.ov = false → Gives (.windowTestStep ts n shows) s (fun d => (∃ k, (d.cv v).wtest = some { w with
        ov := true
        step := k
        since := s.at ts }) ∧
        (r.uvLive = true → r.code = .good → s.core.eff ≠ .watch → d.get (F.RAIL_WSTATUS_UVLATCH n) = 1) ∧
        (r.uvLive = false → s.core.only [.now, .cvs, .regs] d))) ∧
      (w.step = 4 → w.ov = true → Gives (.windowTestStep ts n shows) s (fun d => (d.cv v).wtest = none ∧ (d.cv v).restore = some (s.at ts) ∧
        d.get (F.RAIL_WSTATUS_TESTING n) = 0 ∧
        (w.badUv = false → w.badOv = false → d.get (F.RAIL_WSTATUS_BADUV n) = 0 ∧ d.get (F.RAIL_WSTATUS_BADOV n) = 0) ∧
        (w.badUv = true ∨ w.badOv = true → d.get (F.RAIL_WSTATUS_BADUV n) = s.core.get (F.RAIL_WSTATUS_BADUV n) ∧
          d.get (F.RAIL_WSTATUS_BADOV n) = s.core.get (F.RAIL_WSTATUS_BADOV n)) ∧
        (r.ovLive = true → r.code ≠ .unused → s.core.eff ≠ .watch → d.get (F.RAIL_WSTATUS_OVLATCH n) = 1) ∧
        (dark → s.core.only [.now, .cvs, .regs] d)))) ∧
    (tested → shows ≠ must → Gives (.windowTestStep ts n shows) s (fun d =>
      (∃ v, s.core.records 0x0504 n (BitVec.ofNat 32 ((if w.ov then 1 else 0) + 16 * w.step)) v d) ∧
      (∀ u, (d.cv v).wtest = some u → (if w.ov then u.badOv else u.badUv) = true) ∧
      (w.step < 4 ∨ dark → s.core.only (errorParts ++ [.now, .cvs]) d))) ∧
    ((s.core.cv c).restore = some t → t + 5000 ≤ s.at ts → exec (.tdacRestoreSettled ts c) s = sets (fun d =>
      d.setCv c { s.core.cv c with restore := none }))

/-! ### Stage controllers (12) and margins (13) -/

/-- R449, R450, R452, R455-R460, R463-R468, R470, R484, R491: the feedback and phase monitors; below the reference plus ramp an on-time
starts on the next ready phase in rotation, unless the total limit or the valley comparator, with the limits in force, holds
it; it ends with its time or above the peak limit; zero crossings and the discharge state's -IDIS and 0 A, the end of the
ramp and of a soft stop; a margin DAC moves by one code or stops outside its guard levels;
one that the vault has turned off takes no step (R491). The model's choices: a half is rounded up (log entry 21); before the first
on-time the ramp stands at its lower end, and each held step sets MG.EVENT.STOP (log entry 40); a step that goes ahead clears STOPPED, and
MARGIN_STOP is journalled once while it stands (log entry 19). -/
def Obligations.Modulator : Prop :=
  ∀ (s : State) (ts fb t : Nat) (n : Fin 8) (p : Fin 24) (codes : List Nat) (currents : List Int) (i : Int) (rest : List (Fin 24))
      (m : Fin 16),
    let u := (s.advance ts).core
    let up : Prop := s.core.live = true ∧ s.core.mainAlive = true
    let sets (f : Dev → Dev) : Host.Outcome State Fault Refusal := .next ((s.advance ts).lift f)
    let op := s.core.get (F.SC_STATUS_OP n)
    let x := s.core.sc n
    let y := s.core.ph p
    let v := fb * s.core.get (F.SC_CFG_DIVK n)
    let code (q : Fin 24) : Nat := min 4095 (codes.getD q 0)
    let den (q : Fin 24) : Int := (4096 * s.core.get (F.PH_ICFG_GAIN q) * s.core.get (F.PH_ICFG_RIS q) : Nat)
    let amps (q : Fin 24) : Int :=
      (2 * ((code q * 2400 : Nat) - (s.core.get (F.PH_ICFG_IZERO q) * 4096 : Nat) : Int) * 100000 + den q) / (2 * den q)
    let fits (j : Int) : Prop := -524288 ≤ j ∧ j ≤ 524287
    let mayFire : Prop := up ∧ (op = 2 ∨ op = 3 ∨ op = 4) ∧ s.core.get F.SAFE_STATUS_CLKFAIL ≠ 1 ∧
      (s.core.rail ⟨n, by omega⟩).ovLive = false ∧ s.core.pwr.vsupLow = false ∧ s.core.phasesOf n ≠ []
    let rp := s.core.get (F.SC_MOD_RAMP n)
    let ramp : Int := x.rampAt.elim (-(rp * 500 : Nat)) (fun a =>
      max (-(rp * 500 : Nat)) ((rp * 500 : Nat) - (rp * s.core.get (F.SC_MAP_COUNT n) * s.core.get (F.SC_MOD_FSW n) * (s.at ts - a) / 100 : Nat)))
    let divk := s.core.get (F.SC_CFG_DIVK n)
    let below : Prop := (fb * divk : Nat) < (u.scRef n : Int) + ramp * divk
    let asks : Prop := mayFire ∧ (x.want = true ∨ below)
    let limit (half : Nat) : Int := (half * 500 * (8 - (s.core.level - 4)) : Nat)
    let valley := limit (s.core.get (F.SC_PLIM_IVAL n))
    let peak := limit (s.core.get (F.SC_PLIM_IPK n))
    let quiet : Prop := x.rampAt ≠ none ∨ (op ≠ 4 ∧ (op ≠ 3 ∨ s.core.get (F.SC_CFG_DEM n) = 1))
    let ovLow := s.core.get (F.SC_CFG_OVLOW n)
    let showsOv := (s.core.rail ⟨n, by omega⟩).ovLive
    let discharges : Prop := (op = 5 ∧ showsOv = false) ∨ (op ≠ 0 ∧ op ≠ 6 ∧ showsOv = true ∧ ovLow = 1)
    let report := signed 20 (s.core.get (F.PH_IMEAS_WORD p) % 2 ^ 20)
    let vs := u.ffVolts n
    let fsw := s.core.get (F.SC_MOD_FSW n)
    let bare := (2 * u.scRef n * 1000 + vs * fsw) / (2 * (vs * fsw)) + s.core.get (F.SC_CFG_TADD n)
    let ton := if bare < 30 then 30 else if 100000 < (bare + 150) * fsw then 100000 / fsw - 150 else bare
    let ready := (u.rotation n).filter u.phaseReady
    let off : Ph := { y with
      onAt := none
      offAt := s.at ts }
    let level (b : Bool) : Ph := { y with dmid := b }
    let zero : Ph := { y with mid := true }
    let target := signed 10 (s.core.get (F.MD_CODE_TARGET m))
    let present := signed 10 (s.core.get (F.MD_CODE_PRESENT m))
    let nxt := if present < target then present + 1 else present - 1
    (up → Gives (.fbmonSample ts n fb) s (fun d => d.get (F.SC_FBMON_WORD n) = (measWord (min (2 ^ 20 - 1) v)
      (s.core.get (F.SC_FBMON_WORD n) / 2 ^ 20 + 1) (decide (2 ^ 20 - 1 < v)) true true).toNat ∧
      s.core.only [.now, .regs, .scs] d ∧ s.core.onlyRegs [F.SC_FBMON_WORD n] d)) ∧
    (up → Gives (.phaseMonitorSample ts codes) s (fun d =>
      (∀ q, s.core.ctlOf q ≠ none → (fits (amps q) → signed 20 (d.get (F.PH_IMEAS_WORD q) % 2 ^ 20) = amps q) ∧
        (d.ph q).badN = (if code q * 2400 < 204800 ∨ 9625600 < code q * 2400 then min 10 ((s.core.ph q).badN + 1) else 0)) ∧
      (∀ q, s.core.ctlOf q = none → d.get (F.PH_IMEAS_WORD q) = s.core.get (F.PH_IMEAS_WORD q)) ∧
      (s.core.ctlOf p = some n → s.core.phasesOf n = [p] → s.core.get (F.PH_STATUS_EXCL p) ≠ 1 → fits (amps p) → (d.sc n).itot = amps p) ∧
      s.core.only [.now, .phs, .scs, .regs] d)) ∧
    (mayFire → x.want = false → ¬ below → exec (.onTimeRequest ts n fb currents) s = .next (s.advance ts)) ∧
    (asks →
      (s.core.overTotal n = true → Gives (.onTimeRequest ts n fb currents) s (fun d => (d.sc n).want = true ∧ (d.sc n).totHold = true ∧
        s.core.only [.now, .scs] d)) ∧
      (s.core.overTotal n = false → ready = p :: rest → 8 * currents.getD p 0 ≤ valley → vs * fsw ≠ 0 → ton < 8192 →
        Gives (.onTimeRequest ts n fb currents) s (fun d => (d.ph p).onAt = some (s.at ts) ∧ (d.ph p).onLen = ton ∧
          d.get (F.SC_TON_TON n) = ton ∧ (d.ph p).mid = false ∧
          (∀ q, q ≠ p → d.ph q = s.core.ph q ∨ (¬ quiet ∧ q ∈ s.core.phasesOf n ∧ d.ph q = { s.core.ph q with mid := false })) ∧
          (d.sc n).want = false ∧ (d.sc n).totHold = false ∧ (d.sc n).rampAt = some (s.at ts) ∧
          (d.sc n).next = (p.val + 1 - s.core.get (F.SC_MAP_FIRST n)) % s.core.get (F.SC_MAP_COUNT n) ∧
          s.core.only [.now, .scs, .phs, .regs] d)) ∧
      (s.core.overTotal n = false → ready = [p] → valley < 8 * currents.getD p 0 → Gives (.onTimeRequest ts n fb currents) s (fun d =>
        (d.ph p).onAt = none ∧ (d.ph p).limEnd = s.at ts + 200000 / fsw ∧ (d.sc n).want = true ∧
        (∀ q, q ≠ p → d.ph q = s.core.ph q) ∧ s.core.only [.now, .scs, .phs] d))) ∧
    (s.core.ctlOf p = some n →
      (y.onAt = some t → t + y.onLen ≤ s.at ts → 8 * i ≤ peak → exec (.onTimeEnd ts p i) s = sets (fun d => d.setPh p off)) ∧
      (y.onAt = some t → peak < 8 * i → Gives (.onTimeEnd ts p i) s (fun d => (d.ph p).onAt = none ∧ (d.ph p).offAt = s.at ts ∧
        (d.ph p).limEnd = s.at ts + 200000 / fsw ∧ s.core.only [.now, .phs, .scs] d)) ∧
      (y.onAt = none → s.core.get (F.PH_STATUS_EXCL p) ≠ 1 →
        (discharges → y.dmid = true → 0 ≤ report → exec (.demZeroCurrent ts p) s = sets (fun d => d.setPh p (level false))) ∧
        (discharges → y.dmid = false → report ≤ -(s.core.get (F.SC_LIM_IDIS n) * 1000 : Nat) →
          exec (.demZeroCurrent ts p) s = sets (fun d => d.setPh p (level true))) ∧
        (op = 2 ∨ (op = 3 ∧ s.core.get (F.SC_CFG_DEM n) = 1) → showsOv = false → report ≤ 0 →
          exec (.demZeroCurrent ts p) s = sets (fun d => d.setPh p zero)))) ∧
    (up → op = 2 → u.scRef n = u.scTarget n → Gives (.rampComplete ts n) s (fun d => d.get (F.SC_STATUS_OP n) = 3 ∧
      (d.rail ⟨n, by omega⟩).riseAt = s.at ts ∧ (d.sc n).rampEnd = s.at ts ∧ (d.sc n).shortAt = none ∧
      (s.core.get (F.SC_CFG_DEM n) = 1 → ∀ q, d.ph q = s.core.ph q) ∧
      (s.core.get (F.SC_CFG_DEM n) ≠ 1 → x.rampAt ≠ none → ∀ q ∈ s.core.phasesOf n, (d.ph q).mid = false) ∧
      s.core.only [.now, .regs, .rails, .scs, .phs] d ∧ s.core.onlyRegs [F.SC_STATUS_OP n] d)) ∧
    (op = 4 → u.scRef n = 0 → Gives (.softStopEnd ts n) s (fun d => d.get (F.SC_STATUS_OP n) = 1 ∧ (d.sc n).want = false ∧
      (∀ q ∈ s.core.phasesOf n, (d.ph q).onAt = none ∧ (d.ph q).mid = true) ∧ s.core.only [.now, .regs, .scs, .phs] d ∧
      s.core.onlyRegs [F.SC_STATUS_OP n] d)) ∧
    (up → s.core.get (F.MD_CODE_TARGET m) < 1024 → s.core.get (F.MD_CODE_PRESENT m) < 1024 → present ≠ target →
      s.core.mdAt.get m + s.core.get F.MG_CFG_MDSTEP * 1000 ≤ s.at ts →
      (s.core.get (F.MD_CODE_VAULT m) = 1 → exec (.marginDacStep ts m) s = .next (s.advance ts)) ∧
      (s.core.get (F.MD_CODE_VAULT m) ≠ 1 → s.core.mdInside m = true ∨ nxt.natAbs ≤ present.natAbs → Gives (.marginDacStep ts m) s (fun d =>
        signed 10 (d.get (F.MD_CODE_PRESENT m)) = nxt ∧ d.get (F.MD_CODE_STOPPED m) = 0 ∧ d.mdAt.get m = s.at ts ∧
        s.core.only [.now, .regs, .mdAt, .hday] d ∧ s.core.onlyRegs [F.MD_CODE_PRESENT m, F.MD_CODE_STOPPED m] d)) ∧
      (s.core.get (F.MD_CODE_VAULT m) ≠ 1 → s.core.mdInside m = false → present.natAbs < nxt.natAbs → Gives (.marginDacStep ts m) s (fun d =>
        d.get (F.MD_CODE_PRESENT m) = s.core.get (F.MD_CODE_PRESENT m) ∧ d.get (F.MD_CODE_STOPPED m) = 1 ∧ d.get F.MG_EVENT_STOP = 1 ∧
        d.mdAt.get m = s.at ts ∧
        (s.core.get (F.MD_CODE_STOPPED m) = 1 → s.core.only [.now, .regs, .mdAt] d ∧ s.core.onlyRegs [F.MG_EVENT_STOP] d))) ∧
      (s.core.get (F.MD_CODE_VAULT m) ≠ 1 → s.core.mdInside m = false → present.natAbs < nxt.natAbs → s.core.get (F.MD_CODE_STOPPED m) = 0 → Gives (.marginDacStep ts m) s (fun d =>
        d.get (F.MD_CODE_PRESENT m) = s.core.get (F.MD_CODE_PRESENT m) ∧ d.get (F.MD_CODE_STOPPED m) = 1 ∧ d.get F.MG_EVENT_STOP = 1 ∧
        s.core.records 0x0901 (s.core.get (F.MD_CFG_RAIL m)) (BitVec.ofInt 32 present) 0 d ∧
        s.core.only [.now, .regs, .mdAt, .jq, .jIn, .jLost] d)))

/-- R469-R476, R335: the protections of a stage controller. A protection that holds the controller takes every phase to
mid-level and its rail to FAULTED with the output off, and is dangerous where FREACT says so; on an UNUSED rail FLT alone shows a stage fault, which is declared once the rail is in use and then not again (R130, R480); a lost phase is excluded, as
N-1 operation or as a dangerous fault; warnings and failed sensors are declared and probed. -/
def Obligations.Protections : Prop :=
  ∀ (s : State) (ts t : Nat) (n : Fin 8) (p : Fin 24),
    let u := (s.advance ts).core
    let up : Prop := s.core.live = true ∧ s.core.mainAlive = true
    let r : Fin 48 := ⟨n, by omega⟩
    let x := s.core.sc n
    let itot := BitVec.ofNat 32 (s.core.get (F.SC_ITOT_WORD n))
    let mine : Prop := s.core.ctlOf p = some n
    let apart : Prop := ∀ m : Fin 8, ∀ q ∈ s.core.phasesOf n, q ∈ s.core.phasesOf m → m = n
    let holds (c : Instr) (typ fault obj : Nat) (react ev : Fld) : Prop := (s.core.rail r).code ≠ .unused → Gives c s (fun d =>
      (s.core.get (F.SC_STATUS_OP n) ≠ 0 → d.get (F.SC_STATUS_OP n) = 6 ∧
        (apart → ∀ q ∈ s.core.phasesOf n, (d.ph q).onAt = none ∧ (d.ph q).mid = true)) ∧
      (d.rail r).code = .faulted ∧ ((s.core.rail r).code ≠ .faulted → (d.rail r).fault = fault) ∧
      ((s.core.rail r).out = .on → s.core.get F.SAFE_STATUS_CLKFAIL ≠ 1 → (d.rail r).out = .falling) ∧ d.get ev = 1 ∧ s.core.records typ n (BitVec.ofNat 32 obj) itot d ∧
      (s.core.get react = 1 → d.alerts 4 ∧ s.core.enters .dangerous typ (s.at ts) d) ∧
      s.core.only (errorParts ++ [.now, .rails, .scs, .phs, .hday, .rstoAt, .preqs, .heatRes, .inrushUj]) d)
    let notes (c : Instr) (typ obj : Nat) (ev : Fld) (more : Dev → Prop) (parts : List Part) : Prop := Gives c s (fun d =>
      d.get ev = 1 ∧ s.core.records typ n (BitVec.ofNat 32 obj) itot d ∧ more d ∧ s.core.only (errorParts ++ .now :: parts) d)
    let lone : Prop := s.core.get (F.SC_MAP_N1_ALLOWED n) ≠ 1 ∨ s.core.get (F.SC_MAP_COUNT n) = 1 ∨
      ∃ q ∈ s.core.phasesOf n, s.core.get (F.PH_STATUS_EXCL q) = 1
    let loses (c : Instr) (typ : Nat) (ev phEv : Fld) : Prop :=
      (¬ lone → notes c typ p ev (fun d => d.get phEv = 1 ∧ d.get (F.PH_STATUS_EXCL p) = 1 ∧ (d.ph p).onAt = none ∧ (d.ph p).mid = true ∧
        d.get (F.SC_STATUS_N1 n) = 1 ∧ d.get (F.SC_EVENT_N1 n) = 1) [.phs]) ∧
      (lone → (s.core.rail r).code ≠ .unused → notes c typ p ev (fun d => d.get phEv = 1 ∧ d.get (F.PH_STATUS_EXCL p) = 1 ∧
        (apart → (d.ph p).onAt = none ∧ (d.ph p).mid = true) ∧ (d.rail r).code = .faulted ∧ (d.rail r).out = (s.core.rail r).out ∧
        d.alerts 4 ∧ s.core.enters .dangerous typ (s.at ts) d)
        [.rails, .scs, .phs, .hday, .rstoAt, .preqs, .heatRes, .inrushUj])
    (up → x.shortAt = some t → u.shortNow n = true → max t x.limAt + 50000 ≤ s.at ts →
      holds (.shortSs ts n) 0x0401 7 0xFF (F.SC_FREACT_SHORT_SS n) (F.SC_EVENT_SHORT_SS n) ∧
      ((s.core.rail r).code ≠ .unused → Gives (.shortSs ts n) s (fun d => d.get (F.RAIL_EVENT_SHORT_SS r) = 1))) ∧
    (up → s.core.get (F.SC_STATUS_OP n) = 3 → u.inLimit n = true →
      max x.limAt x.rampEnd + s.core.get (F.SC_LIM_OCT n) * 10000 ≤ s.at ts →
      holds (.oc ts n) 0x0402 8 0xFF (F.SC_FREACT_OC n) (F.SC_EVENT_OC n)) ∧
    ((s.core.ph p).fltDone = true → exec (.stageFlt ts p) s = .next (s.advance ts)) ∧
    (up → mine → (s.core.ph p).fltDone = false →
      ((s.core.rail r).code = .unused → exec (.stageFlt ts p) s = .next ((s.advance ts).lift (fun d => d.mark (F.PH_TMEAS_FLT p)))) ∧
      holds (.stageFlt ts p) 0x0403 8 p (F.SC_FREACT_STAGE_FLT n) (F.SC_EVENT_STAGE_FLT n)) ∧
    (up → mine → (s.core.ph p).shutUp = 8 → s.core.get (F.PH_STATUS_OT p) = 0 →
      holds (.stageOt ts p) 0x0404 8 p (F.SC_FREACT_STAGE_OT n) (F.SC_EVENT_STAGE_OT n)) ∧
    (up → mine → (s.core.ph p).warnUp = 8 → s.core.get (F.PH_STATUS_OTW p) = 0 →
      notes (.stageOtw ts p) 0x0405 p (F.SC_EVENT_STAGE_OTW n) (fun d => d.get (F.PH_STATUS_OTW p) = 1 ∧
        d.get (F.PH_EVENT_STAGE_OTW p) = 1) []) ∧
    (up → mine → (s.core.ph p).openAt = some t → t + 100000 ≤ s.at ts → s.core.get (F.PH_STATUS_EXCL p) = 0 →
      loses (.phaseOpen ts p) 0x0406 (F.SC_EVENT_PHASE_OPEN n) (F.PH_EVENT_OPEN p)) ∧
    (up → mine → (s.core.ph p).badN = 10 → s.core.get (F.PH_STATUS_EXCL p) = 0 →
      loses (.isnsFail ts p) 0x0407 (F.SC_EVENT_ISNS_FAIL n) (F.PH_EVENT_ISNS_FAIL p)) ∧
    (up → mine → (s.core.ph p).tBad = 8 → s.core.get (F.PH_TMEAS_FAIL p) = 0 → s.core.get F.THERM_SUBST_TS < 16 →
      s.core.get F.THERM_SUBST_NTC < 16 → notes (.tsnsFail ts p) 0x0408 p (F.SC_EVENT_TSNS_FAIL n) (fun d =>
        d.get (F.PH_EVENT_TSNS_FAIL p) = 1 ∧ d.get (F.PH_TMEAS_FAIL p) = 1 ∧ d.substituted (p.val + 8) = true) [.thFloors, .thHot, .mgEnd]) ∧
    (up → x.imb = 8 → (∀ i, x.imbAt = some i → i + 1000000000 ≤ s.at ts) →
      notes (.imbal ts n) 0x0409 0xFF (F.SC_EVENT_IMBAL n) (fun d => (d.sc n).imb = 0 ∧ (d.sc n).imbAt = some (s.at ts)) [.scs])

/-! ### The ledger (14) and the health record (13) -/

/-- R522, R523, R526, R527, R510, R515, R518-R520, R532, R493, R494, R497, R530, R533, R534, R440: what the ledger takes. A record of the
journal goes to the head's slot and the head moves on, behind a first-fault record that waits; the first-fault record is written once, its verdict when it is known;
the open day is checkpointed after each 60 s of operation, in the older of two copies; a day's close writes a record for each
rail and opens the next day; these wait for the folio and the journal, and an archive for them too (R510); an archive entry holds the image of its buffer; every
other byte stands.

R507, R508, R179, R510, R570, R572: the background scrub reads the array's words in turn, where no other writer waits, and counts a
pass at its end; a corrected
error is counted, an uncorrectable one is counted, declared and probed. The scrub of the tellers' memories, once in each counted second of operation, counts what it
corrects and declares each word that it cannot; OBJ and ARG of that record are free (log entry 20). -/
def Obligations.Ledger : Prop :=
  (∀ (s : State) (ts no us : Nat) (n : Fin 48) (c : Fin 6) (r : JRec) (rest : List (Nat × JRec)) (f : Folio) (h : HDay) (ver : Verdict) (a : Arch),
    let byte (t : State) (i : Nat) : Byte := sget factoryByte t.ledger i
    let num (t : State) (i n : Nat) : Nat := t.ledgerNat i n
    let writes (cmd : Instr) (lo len : Nat) (ps : List Part) (P : State → Prop) : Prop := ∃ t : State, exec cmd s = .next t ∧ P t ∧
      (∀ i, i < lo ∨ lo + len ≤ i → byte t i = byte s i) ∧ t.iram = s.iram ∧ t.dram = s.dram ∧ t.bufs = s.bufs ∧ t.pending = s.pending ∧
      s.core.only ps t.core
    let stamped (t : State) (i : Nat) (u : Stamp) : Prop :=
      num t i 2 = u.angle.toNat ∧ num t (i + 2) 4 = u.rev.toNat ∧ num t (i + 6) 6 = u.usec.toNat ∧ num t (i + 12) 4 = u.boot.toNat
    let head := s.core.get F.LEDG_JHEAD_NEXT
    let slot := 0x210000 + 32 * head
    let bit (b : Bool) (w : Nat) : Nat := if b then w else 0
    let fa := s.core.bootno.toNat % 4096 * 0x100
    let open_ : HDay := h.sync (s.at ts)
    let acc := open_.acc.get n
    let day := 0x1A10000 + 3072 * (h.day % 4096)
    let rec_ := day + 64 * n.val
    let entry := 0x2610000 + s.core.afill.1
    let on : Prop := s.core.ledgerOn = true
    let saved := (s.core.hsaved.map (fun (g : HDay) => g.ns)).getD 0
    (on → s.core.folioWaits = true → exec (.journalWrite ts) s = .next (s.advance ts)) ∧
    (on → s.core.folioWaits = false → s.core.get F.LEDG_STATUS_JREADY = 1 → s.core.jq = (no, r) :: rest → r.slotOf = none → head < 786432 →
      writes (.journalWrite ts) slot 32 [.now, .jq, .regs, .ledgBad, .jck, .copyVer] (fun t => t.core.jq = rest ∧
        num t slot 2 = r.typ % 2 ^ 16 ∧ num t (slot + 2) 1 = r.obj % 256 ∧
        num t (slot + 3) 1 = bit r.shadow 1 + bit r.ff 2 + bit r.probe 4 ∧ stamped t (slot + 4) r.stamp ∧
        num t (slot + 20) 4 = r.arg0.toNat ∧ num t (slot + 24) 4 = r.arg1.toNat ∧
        num t (slot + 28) 4 = crc32 (t.ledgerBytes slot 28) % 2 ^ 32 ∧
        t.core.get F.LEDG_JHEAD_NEXT = (if head + 1 = 786432 then 0 else head + 1) ∧
        t.core.get F.LEDG_JLAP_LAP = (if head + 1 = 786432 then (s.core.get F.LEDG_JLAP_LAP + 1) % 2 ^ 32 else s.core.get F.LEDG_JLAP_LAP) ∧
        ((head + 1) % 1024 = 0 → t.core.jck = (t.core.get F.LEDG_JHEAD_NEXT, t.core.get F.LEDG_JLAP_LAP)) ∧
        ((head + 1) % 1024 ≠ 0 → t.core.jck = s.core.jck))) ∧
    (on → s.core.folio = some f → s.core.bootnoOk = true → s.core.folioDone = false → f.meas.length = 48 → f.pcs.length = 8 →
      (s.core.folioVer = none → f.kind < 0xC000 → writes (.firstFaultCommit ts) fa 0xF8 [.now, .regs, .ledgBad, .folioDone] (fun t =>
        t.core.folioDone = true ∧ t.core.get F.LEDG_STATUS_FFFULL = 1 ∧ t.core.get F.LEDG_EVENT_FF_COMMIT = 1 ∧ stamped t fa f.stamp ∧
        num t (fa + 16) 2 = f.kind ∧ num t (fa + 18) 1 = f.obj % 256 ∧ num t (fa + 19) 1 = bit f.dangerous 1 + bit f.shadow 2 ∧
        num t (fa + 20) 4 = f.arg0.toNat ∧ num t (fa + 24) 4 = f.arg1.toNat ∧
        (∀ i, i < 48 → num t (fa + 32 + 4 * i) 4 = (f.meas.getD i 0).toNat) ∧
        (∀ k, k < 8 → num t (fa + 224 + 2 * k) 2 = (f.pcs.getD k 0).toNat) ∧ num t (fa + 240) 4 = f.tstat.toNat ∧
        num t (fa + 244) 4 = crc32 (t.ledgerBytes fa 244) % 2 ^ 32)) ∧
      (s.core.folioVer = some (ver, BitVec.ofNat 32 us) → s.core.folioVdone = false →
        writes (.firstFaultCommit ts) fa 0x100 [.now, .regs, .ledgBad, .folioDone, .folioVdone] (fun t =>
        t.core.folioDone = true ∧ t.core.folioVdone = true ∧ t.core.get F.LEDG_STATUS_FFVERD = 1 ∧ num t (fa + 0xF8) 1 = ver.code ∧
        num t (fa + 0xF9) 1 = 255 - ver.code ∧ num t (fa + 0xFA) 2 = 0 ∧ num t (fa + 0xFC) 4 = us % 2 ^ 32))) ∧
    (s.core.live = true → s.core.arrayFree = true → s.core.hday = some h →
      (saved + 60000000000 ≤ open_.ns → Gives (.healthCheckpoint ts) s (fun d => d.hday = some open_ ∧ d.hsaved = some open_ ∧
        d.holder = s.core.hsaved ∧ d.hcopy = s.core.hcopy + 1 ∧ (d.readReg 0x1C31).toNat % 2 ^ 17 = open_.ns / 1000000000 % 2 ^ 17 ∧
        s.core.only [.now, .hday, .hsaved, .holder, .hcopy, .copyVer, .ledgBad] d)) ∧
      (open_.ns < saved + 60000000000 → exec (.healthCheckpoint ts) s = .next (s.advance ts)) ∧
      (86400000000000 ≤ open_.ns → writes (.healthDayClose ts) day 3072
        [.now, .regs, .ledgBad, .hday, .hsaved, .holder, .hcopy, .copyVer, .fresh, .jq, .jIn, .jLost] (fun t =>
        (∃ g, t.core.hday = some g ∧ g.day = h.day + 1 ∧ g.ns = open_.ns - 86400000000000 ∧ (g.acc.get n).nint = 0 ∧ (g.acc.get n).faults = 0) ∧
        t.core.get F.HLTH_EVENT_CLOSED = 1 ∧ num t rec_ 4 = h.bootFirst.toNat ∧ num t (rec_ + 4) 4 = s.core.bootno.toNat ∧
        num t (rec_ + 8) 4 = acc.onNs / 1000000000 % 2 ^ 32 ∧
        (acc.nint ≠ 0 → num t (rec_ + 12) 4 = acc.vMin % 2 ^ 32 ∧ num t (rec_ + 16) 4 = acc.vMax % 2 ^ 32 ∧
          num t (rec_ + 24) 4 = acc.ppMax % 2 ^ 32 ∧ num t (rec_ + 28) 4 = acc.rmsMax % 2 ^ 32) ∧
        num t (rec_ + 32) 4 = min acc.droops 0xFFFFFFFF ∧ num t (rec_ + 36) 4 = acc.nint % 2 ^ 32 ∧ num t (rec_ + 40) 2 = min acc.uvShort 0xFFFF ∧
        num t (rec_ + 42) 2 = min acc.pgShort 0xFFFF ∧ num t (rec_ + 44) 2 = min acc.uvCnt 0xFFFF ∧ num t (rec_ + 46) 2 = min acc.ovCnt 0xFFFF ∧
        num t (rec_ + 48) 2 = min acc.faults 0xFFFF ∧ num t (rec_ + 50) 2 = min acc.cycles 0xFFFF ∧
        num t (rec_ + 52) 2 = min (acc.margNs / 1000000000) 0xFFFF ∧
        num t (rec_ + 56) 2 = bit acc.clip 1 + bit (decide (acc.nint = 0)) 2 + bit h.gap 4 ∧
        num t (rec_ + 60) 4 = crc32 (leBytes 4 h.day ++ t.ledgerBytes rec_ 60) % 2 ^ 32))) ∧
    ((s.advance ts).core.healthDue = true → exec (.archiveCommitEnd ts) s = .next (s.advance ts)) ∧
    (s.core.live = true → s.core.arrayFree = true → (s.advance ts).core.healthDue = false → s.core.arch = some a → a.mask = BitVec.ofNat 6 (2 ^ c.val) → s.core.get (F.CAP_STATUS_STATE c) = 0 ∨ s.core.get (F.CAP_STATUS_STATE c) = 3 →
      writes (.archiveCommitEnd ts) entry 132096 [.now, .regs, .ledgBad, .caps, .heatRes, .afill, .arch, .copyVer, .jq, .jIn, .jLost] (fun t =>
        t.core.arch = none ∧ t.core.afill = (s.core.afill.1 + 132096, s.core.afill.2 + 1) ∧ t.core.get F.LEDG_EVENT_ARCH_DONE = 1 ∧
        t.core.get (F.CAP_STATUS_ARCH c) = 0 ∧ num t entry 4 = 0x48435241 ∧ num t (entry + 6) 1 = 2 ^ c.val ∧ num t (entry + 8) 4 = 132096 ∧
        num t (entry + 12) 4 = s.core.afill.2 % 2 ^ 32 ∧
        num t (entry + 64 + 160 * c.val) 4 = (s.core.cap c).snap.toNat ∧
        (∀ i, i < 65536 → num t (entry + 0x400 + 2 * i) 2 = (sget (fun _ => 0) (s.bufs.get c) i).toNat) ∧
        s.core.records 0x0A04 0 (BitVec.ofNat 32 s.core.afill.1) (BitVec.ofNat 32 (2 ^ c.val + 256)) t.core ∧
        (∀ x ∈ t.core.heatRes, x.who ≠ .arch)))) ∧
  (∀ (s : State) (ts i j : Nat) (e : Ecc),
    let at_ := s.core.scrubAt
    let ns := s.core.lat.ns + (match s.core.lat.since with | some b => s.at ts - b | none => 0)
    let counts : Prop := s.core.dev = .run ∧ s.core.eff ≠ .watch ∧ s.core.sag < 2 ∧ s.core.mainAlive = true
    let due : Prop := s.core.lat.ramAt + 1000000000 ≤ ns
    let up : Prop := s.core.live = true ∧ s.core.eff ≠ .watch ∧ s.core.arrayFree = true ∧ (s.advance ts).core.healthDue = false ∧
      s.core.arch = none ∧ ∀ p : Fin 4, (s.core.ports.get p).wwin = none
    let moves (d : Dev) : Prop := d.scrubAt = (if at_ + 8 = 0x4000000 then 0 else at_ + 8) ∧
      d.get F.LEDG_SCRUB_PROGRESS = (if at_ + 8 = 0x4000000 then 0 else (at_ + 8) * 100 / 0x4000000) % 128 ∧
      d.get F.LEDG_SCRUB_PASSES = (if at_ + 8 = 0x4000000 then (s.core.get F.LEDG_SCRUB_PASSES + 1) % 65536 else s.core.get F.LEDG_SCRUB_PASSES)
    let more (f : Fld) (k : Nat) (d : Dev) : Prop := d.get f = min 65535 (s.core.get f + k)
    let steps : List Fld := [F.LEDG_SCRUB_PROGRESS, F.LEDG_SCRUB_PASSES]
    (up → at_ ∉ s.core.ledgBad → e = .clean → Gives (.scrubRead ts e) s (fun d => moves d ∧ s.core.only [.now, .regs, .scrubAt] d ∧
      s.core.onlyRegs steps d)) ∧
    (up → at_ ∉ s.core.ledgBad → e = .corrected → Gives (.scrubRead ts e) s (fun d => moves d ∧ more F.LEDG_ECC_CORR 1 d ∧
      d.get F.LEDG_EVENT_ECC_CORR = 1 ∧ s.core.only [.now, .regs, .scrubAt] d ∧
      s.core.onlyRegs ([F.LEDG_ECC_CORR, F.LEDG_EVENT_ECC_CORR] ++ steps) d)) ∧
    (up → at_ ∈ s.core.ledgBad ∨ e = .uncorrectable → Gives (.scrubRead ts e) s (fun d => moves d ∧ more F.LEDG_ECC_UNCORR 1 d ∧
      d.get F.LEDG_EVENT_ECC_UNCORR = 1 ∧ at_ ∈ d.ledgBad ∧ s.core.records 0x0A03 0 (BitVec.ofNat 32 at_) 0 d ∧
      s.core.only (errorParts ++ [.now, .scrubAt, .ledgBad]) d)) ∧
    (¬ counts ∨ ¬ due → Gives (.ramScrub ts j [i] [i]) s (fun d => s.core.only [.now, .lat] d)) ∧
    (counts → due →
      Gives (.ramScrub ts j [] []) s (fun d => more F.SAFE_RAMECC_CORR j d ∧ d.lat.ramAt = ns ∧ s.core.only [.now, .lat, .regs] d ∧
        s.core.onlyRegs [F.SAFE_RAMECC_CORR] d) ∧
      Gives (.ramScrub ts j [i] []) s (fun d => more F.SAFE_RAMECC_CORR j d ∧ more F.SAFE_RAMECC_UNCORR 1 d ∧ i ∈ d.iramBad ∧
        d.dramBad = s.core.dramBad ∧ (∃ obj v w, s.core.records 0x0801 obj v w d) ∧
        ((∀ q ∈ s.core.probing, q.path ≠ .iword i) → s.core.probes.length < 16 → ∃ q ∈ d.probes, q.path = .iword i ∧ q.typ = 0x0801) ∧
        s.core.only (errorParts ++ [.now, .iramBad]) d) ∧
      Gives (.ramScrub ts j [] [i]) s (fun d => more F.SAFE_RAMECC_CORR j d ∧ more F.SAFE_RAMECC_UNCORR 1 d ∧ i ∈ d.dramBad ∧
        d.iramBad = s.core.iramBad ∧ (∃ obj v w, s.core.records 0x0801 obj v w d) ∧
        s.core.only (errorParts ++ [.now, .dramBad]) d)))

/-! ### Errors, probes and the regions (15) -/

/-- R547-R556, R265, R266, R570-R572: a waiting probe starts, or is INCONCLUSIVE at once where it cannot run, as with the main region stopped; its end gives every
error on its path the verdict, with LASTING's consequences; a PROBE's verdict, of the sense path, window, converter, current report or
stage temperature that it names, reaches its teller; a probed word of data RAM is left 0. The vault runs the pin test of FLT_N, with
the main region stopped too. Latent tests start when due, FLT_N is pulsed, a failed latent test of a converter declares CONV_PLAUS with a
probe of its own, and a late test is recorded. How SAFE.PROBE shows a path, and the parts that the model does not judge, are log
entry 23, the model's choice. -/
def Obligations.Probes : Prop :=
  ∀ (s : State) (ts code bad a : Nat) (n : Fin 48) (c : Fin 6) (q : Probe) (k : Fin 8) (rd : Fin 16) (kind : LatKind)
      (path : Path) (fd : List Int),
    let up : Prop := s.core.live = true ∧ s.core.mainAlive = true
    let mine (path : Path) : List Probe := s.core.probes.filter (fun q => q.path == path)
    let rest (path : Path) : List Probe := s.core.probes.filter (fun q => q.path != path)
    let idle (path : Path) : Prop := (∃ q ∈ s.core.probes, q.path = path) ∧ (∀ q ∈ s.core.probing, q.path ≠ path) ∧ s.core.eff ≠ .watch
    let shows (d : Dev) (path : Path) (kind obj : Nat) : Prop := d.probing = s.core.probing ++ mine path ∧ d.probes = rest path ∧
      d.get F.SAFE_PROBE_KIND = kind ∧ d.get F.SAFE_PROBE_OBJ = obj ∧ d.get F.SAFE_PROBE_RUNNING = 1
    let judged (v : Verdict) (d : Dev) : Prop := s.core.takesRecord = true → ∃ r : JRec, (s.core.jIn, r) ∈ d.jq ∧ r.typ = 0x0A01 ∧
      r.obj = q.obj ∧ r.arg1 = BitVec.ofNat 32 (v.code + q.cls * 256 + q.typ * 65536) ∧ (∀ i, q.recNo = some i → r.slotOf = some i)
    let sole (path : Path) : Prop := s.core.probing = [q] ∧ q.path = path ∧ q.latent = false ∧ q.joined = false ∧ q.folio = false ∧ s.core.folioVer = none ∧
      ∀ n : Fin 48, s.core.get (F.RAIL_WSTATUS_BADOV n) ≠ 1
    let ended (d : Dev) (v : Verdict) : Prop := d.probing = [] ∧ d.get F.SAFE_PROBE_VERDICT = v.code ∧
      d.get F.SAFE_PROBE_SEQ = (s.core.get F.SAFE_PROBE_SEQ + 1) % 2 ^ F.SAFE_PROBE_SEQ.w ∧ d.get F.SAFE_PROBE_RUNNING = 0
    let vaults : Prop := code = 0x49 → s.core.get F.SAFE_STATUS_VAULTLOST ≠ 1
    let named : Prop := (match path with
      | .sense _ | .window _ | .conv _ => fd = []
      | .isns _ => fd.length = 1
      | .tsns _ => fd.length = 2
      | _ => False)
    let passes : Prop := (match path with
      | .sense m => s.core.get (F.CV_OWRES_OPEN_P (cvOf m)) = 0 ∧ s.core.get (F.CV_OWRES_OPEN_N (cvOf m)) = 0
      | .window m => bad = 0 ∧ ∀ w, (s.core.cv (cvOf m)).wdone = some w → w.badUv = false ∧ w.badOv = false
      | .conv v => bad = 0 ∧ (s.core.cv v).pbad = 0
      | .isns p => ∀ v ∈ fd, (4 * (v - 500 * (s.core.get (F.PH_ICFG_RIS p) : Int))).natAbs ≤ 500 * s.core.get (F.PH_ICFG_RIS p)
      | .tsns _ => (fd.getD 0 0).natAbs < 20000 ∧ -550 ≤ fd.getD 1 0 ∧ fd.getD 1 0 ≤ 2000
      | _ => False)
    let aborted : Prop := ∃ m, path = .sense m ∧ s.core.get (F.CV_OWRES_ABORTED (cvOf m)) = 1
    let quiet : List Part := [.now, .regs, .probing, .jq, .jIn, .jLost, .fresh]
    let t := s.core.teller k
    let ns := s.core.lat.ns + (match s.core.lat.since with | some b => s.at ts - b | none => 0)
    let counts : Prop := s.core.dev = .run ∧ s.core.eff ≠ .watch ∧ s.core.sag < 2 ∧ s.core.mainAlive = true
    let rail : Fin 48 := Fin.ofNat 48 (s.core.get F.SAFE_LATSTAT_NEXTRAIL)
    let v := cvOf rail
    let every := s.core.latEvery kind
    let due := s.core.lat.due.get kind.idx
    (up → idle (.pin code) → code < 256 → vaults → Gives (.probeStart ts (.pin code)) s (fun d => shows d (.pin code) 7 code ∧
      s.core.only [.now, .regs, .probes, .probing] d)) ∧
    (up → idle (.window n) → (s.core.cv (cvOf n)).wtest = none → (s.core.cv (cvOf n)).restore = none → s.core.convProbed (cvOf n) = false →
      (∀ q ∈ s.core.probes, dacOf q.path = some (cvOf n) → q.path = .window n) → Gives (.probeStart ts (.window n)) s (fun d =>
        shows d (.window n) 1 n ∧ d.get (F.RAIL_WSTATUS_TESTING n) = 1 ∧
        (∃ w, (d.cv (cvOf n)).wtest = some w ∧ w.rail = n ∧ w.ov = false ∧ w.probe = true ∧ w.since = s.at ts) ∧
        s.core.only [.now, .regs, .probes, .probing, .cvs] d)) ∧
    (up → idle .tally → s.core.tst ≠ tLost → s.core.probes = [q] → q.typ ≠ 0 → q.latent = false → q.joined = false → q.folio = false → q.teller = none →
      Gives (.probeStart ts .tally) s (fun d => d.probes = [] ∧ d.probing = s.core.probing ∧ judged .inconclusive d ∧
        s.core.only [.now, .regs, .probes, .jq, .jIn, .jLost, .fresh] d)) ∧
    (up → sole (.pin code) → q.typ ≠ 0 → q.teller = none → vaults →
      Gives (.probeEnd ts (.pin code) 0 []) s (fun d => ended d .transient ∧ judged .transient d ∧ s.core.only quiet d) ∧
      (bad ≠ 0 → Gives (.probeEnd ts (.pin code) bad []) s (fun d => ended d .lasting ∧ judged .lasting d ∧ d.get F.SAFE_EVENT_LASTING = 1 ∧
        d.alerts 8 ∧ s.core.only (quiet ++ [.smbRel, .evq, .evOvf, .evDropped]) d))) ∧
    (up → sole path → named → s.core.probeOver path = true → s.core.eff ≠ .watch → s.core.folioDone = false → q.typ = 0 → q.teller = some k →
      t.wait = some (.probe rd path) → t.st = .waiting → t.step = false →
      let tells (v : Verdict) : Prop := Gives (.probeEnd ts path bad fd) s (fun d => ended d v ∧
        d.teller k = { (t.xw rd (BitVec.ofNat 32 v.code)).onto with
          z := v == .transient
          st := .running
          wait := none
          runAt := s.at ts })
      (¬ aborted → passes → tells .transient) ∧ (¬ aborted → ¬ passes → tells .lasting) ∧ (aborted → tells .inconclusive)) ∧
    (up → s.core.probing = [q] → q.path = .conv c → q.latent = true → q.joined = false → s.core.eff ≠ .watch → 5 ≤ (s.core.cv c).pstep →
      (s.core.cv c).restore = none → (s.core.cv c).pbad ≠ 0 → s.core.probes = [] → Gives (.probeEnd ts (.conv c) bad []) s (fun d =>
        d.get (F.CV_EVENT_PLAUS c) = 1 ∧ d.get (F.CV_STATUS_INVALID c) = s.core.get (F.CV_STATUS_INVALID c) ∧ d.rails = s.core.rails ∧
        ∃ p ∈ d.probes, p.path = .conv c ∧ p.typ = 0x0502)) ∧
    (up → sole (.conv c) → s.core.dev = .run → s.core.folioDone = false → 5 ≤ (s.core.cv c).pstep → (s.core.cv c).restore = none → (s.core.cv c).pbad ≠ 0 → q.typ ≠ 0 → q.teller = none →
      Gives (.probeEnd ts (.conv c) bad []) s (fun d => ended d .lasting ∧ judged .lasting d ∧ d.get (F.CV_STATUS_INVALID c) = 1 ∧
        (s.core.get (F.CV_STATUS_INVALID c) ≠ 1 → (∀ j : Fin 8, d.get (F.RAIL_MEAS_VALID (8 * c.val + j.val)) = 0) ∧
          (∀ i, i < 5 → (d.get (F.CV_DIAGRES c i)).testBit 31 = false) ∧ (d.get (F.CV_INJRES_WORD c)).testBit 31 = false))) ∧
    (s.core.live = true → s.core.mainAlive = false → sole (.pin 0x49) → s.core.vault.mainHeld = false → s.core.get F.SAFE_STATUS_VAULTLOST ≠ 1 →
      q.typ ≠ 0 → q.teller = none → Gives (.probeEnd ts (.pin 0x49) 0 []) s (fun d => ended d .transient ∧ judged .transient d ∧
        s.core.only quiet d)) ∧
    (s.core.live = true → s.core.mainAlive = false → q.typ ≠ 0 → q.teller = none → code ≠ 0x49 →
      (sole (.pin code) → Gives (.probeEnd ts (.pin code) bad []) s (fun d => ended d .inconclusive ∧ judged .inconclusive d ∧ s.core.only quiet d)) ∧
      (s.core.probes = [q] → q.path = .pin code → q.latent = false → q.joined = false → q.folio = false →
        Gives (.probeStart ts (.pin code)) s (fun d => d.probes = [] ∧ d.probing = s.core.probing ∧ judged .inconclusive d ∧
          s.core.only [.now, .regs, .probes, .jq, .jIn, .jLost, .fresh] d))) ∧
    (up → sole (.dword a) → q.typ ≠ 0 → q.teller = none → ∃ u : State, exec (.probeEnd ts (.dword a) 0 []) s = .next u ∧
      ended u.core .transient ∧ a ∉ u.core.dramBad ∧ u.ledger = s.ledger ∧ u.iram = s.iram ∧ u.bufs = s.bufs ∧ u.pending = s.pending ∧
      (∀ i, sget (fun _ => 0) u.dram i = if 4 * a ≤ i ∧ i < 4 * a + 4 then 0 else sget (fun _ => 0) s.dram i) ∧
      s.core.only (.dramBad :: quiet) u.core) ∧
    (counts → s.core.lat.due.get LatKind.window.idx ≤ ns → s.core.lat.going.get LatKind.window.idx = false →
      s.core.dacIdle v = true → s.core.get (F.RAIL_CFG_PGUSE rail) ≠ 1 → Gives (.latentTestStart ts .window) s (fun d =>
        d.lat.going.get LatKind.window.idx = true ∧ d.get (F.RAIL_WSTATUS_TESTING rail) = 1 ∧
        (∃ w, (d.cv v).wtest = some w ∧ w.rail = rail ∧ w.probe = false) ∧ (∃ p ∈ d.probing, p.path = .window rail ∧ p.latent = true) ∧
        d.get F.SAFE_PROBE_KIND = 1 ∧ d.get F.SAFE_PROBE_OBJ = rail.val ∧ d.get F.SAFE_PROBE_RUNNING = 1 ∧
        s.core.only [.now, .regs, .cvs, .probing, .lat] d)) ∧
    (counts → s.core.get F.SAFE_STATUS_VAULTLOST ≠ 1 → s.core.get F.SAFE_CFG_LATFLT ≠ 0 → s.core.lat.due.get LatKind.flt.idx ≤ ns → s.core.fltLow = false →
      Gives (.latentFltPulse ts true) s (fun d => d.get F.SAFE_LATSTAT_FTESTS = (s.core.get F.SAFE_LATSTAT_FTESTS + 1) % 2 ^ F.SAFE_LATSTAT_FTESTS.w ∧
        d.lat.due.get LatKind.flt.idx = s.core.lat.due.get LatKind.flt.idx + s.core.get F.SAFE_CFG_LATFLT * 60000000000 ∧
        s.core.only [.now, .regs, .lat] d) ∧
      Gives (.latentFltPulse ts false) s (fun d => d.get F.SAFE_EVENT_PIN_TEST = 1 ∧ s.core.records 0x0A1D 0x49 1 0 d ∧
        s.core.only (errorParts ++ [.now]) d)) ∧
    (s.core.live = true → every ≠ 0 → due + every ≤ ns → s.core.lat.late.get kind.idx = false → Gives (.latentLate ts kind) s (fun d =>
      d.lat.late.get kind.idx = true ∧ d.get F.SAFE_STATUS_LATE = 1 ∧ d.get F.SAFE_EVENT_LATENT_LATE = 1 ∧
      s.core.records 0x0A1B kind.idx (BitVec.ofNat 32 ((ns - due - every) / 1000000000)) 0 d ∧
      s.core.only [.now, .regs, .lat, .jq, .jIn, .jLost] d))

/-- R558-R563, R566, R85, R351, R462: the checks between the regions. The vault counts REFCLK edges and measures VREF's
deviation; CLOCK_XCHK, MAIN_STOP, VCORE_FAIL and REF_XCHK are dangerous, and where the main region cannot act the
controllers go to mid-level; with VVLT_FAIL the vault is lost, and the main region switches every USED rail fast off and
asserts the claimed reset outputs; VCORE_FAIL also cuts what the main region writes into the array (R506; when a word begins is log entry
13, the model's choice); a driven pin that differs from its commanded level is declared and probed. -/
def Obligations.RegionChecks : Prop :=
  ∀ (s : State) (ts count : Nat) (unlock above : Bool) (dev : Int) (n : Fin 48),
    let u := (s.advance ts).core
    let bit (b : Bool) : Nat := if b then 1 else 0
    let vaultUp : Prop := (s.core.dev = .boot ∨ s.core.dev = .bootFail ∨ s.core.dev = .run ∨ s.core.dev = .holdUp) ∧
      s.core.get F.SAFE_STATUS_VAULTLOST ≠ 1
    let ok : Prop := 243 ≤ count ∧ count ≤ 257
    let small : Prop := -150 ≤ dev ∧ dev ≤ 150
    let grave (c : Instr) (typ : Nat) (ev : Fld) (a0 a1 : Word) (ps : List Part) (P : Dev → Prop) : Prop := Gives c s (fun d =>
      d.get ev = 1 ∧ s.core.records typ 0 a0 a1 d ∧ d.alerts 4 ∧ s.core.enters .dangerous typ (s.at ts) d ∧ P d ∧
      s.core.only (errorParts ++ .now :: ps) d)
    let midLevel (d : Dev) : Prop := d.vault.shadow = true ∧ ∀ m : Fin 8, s.core.get (F.SC_STATUS_OP m) ≠ 0 → d.get (F.SC_STATUS_OP m) = 1
    let held (d : Dev) : Prop := midLevel d ∧ d.vault.mainHeld = true ∧ d.vault.coreLost = true ∧ (d.readReg 0x1E10).getLsbD 0 = false
    let running (n : Fin 48) : Prop := (s.core.rail n).code = .rising ∨ (s.core.rail n).code = .qualifying ∨ (s.core.rail n).code = .good
    let level := ((s.core.rail n).out == .on) == (s.core.get (F.RAIL_CFG_ENPOL n) == 1)
    (vaultUp → s.core.usecOn = true → Gives (.vaultClockWindow ts count) s (fun d => d.get F.VLT_CLK_COUNT = min 511 count ∧
      (ok → d.get F.VLT_CLK_BAD = 0 ∧ d.get F.VLT_STATUS_CLKOK = 1) ∧
      (¬ ok → d.get F.VLT_CLK_BAD = min 2 (s.core.get F.VLT_CLK_BAD + 1) ∧ d.get F.VLT_STATUS_CLKOK = 0) ∧
      d.checks.clkPrev = s.core.get F.VLT_CLK_COUNT ∧ s.core.only [.now, .regs, .checks] d ∧
      s.core.onlyRegs [F.VLT_CLK_COUNT, F.VLT_CLK_BAD, F.VLT_STATUS_CLKOK] d)) ∧
    (vaultUp → s.core.get F.VLT_CLK_BAD = 2 → s.core.get F.SAFE_STATUS_CLKFAIL = 0 → grave (.clockXchk ts) 0x0A10 F.SAFE_EVENT_CLOCK_XCHK
      (BitVec.ofNat 32 (s.core.get F.VLT_CLK_COUNT)) (BitVec.ofNat 32 s.core.checks.clkPrev) [.scs, .phs] (fun d =>
        midLevel d ∧ d.get F.SAFE_STATUS_CLKFAIL = 1)) ∧
    (vaultUp → s.core.usecOn = true → s.core.mainAlive = true →
      unlock = true ∨ (s.core.live = true ∧ s.core.closeAt + 3 * (if s.core.eff = .watch then 51200 else 10240) ≤ s.at ts) →
      grave (.mainStop ts unlock) 0x0A11 F.SAFE_EVENT_MAIN_STOP (BitVec.ofNat 32 (bit unlock)) 0 [.scs, .phs] (fun d =>
        midLevel d ∧ d.vault.mainDead = true ∧ (d.readReg 0x1E10).getLsbD 3 = false)) ∧
    (vaultUp → s.core.usecOn = true → s.core.vault.mainHeld = false →
      (s.core.still (s.at ts) = true → grave (.vcoreFail ts above) 0x0A12 F.SAFE_EVENT_VCORE_FAIL (BitVec.ofNat 32 (bit above)) 0
        [.scs, .phs, .ledgBad] held) ∧
      (∃ t : State, exec (.vcoreFail ts above) s = .next t ∧ held t.core ∧ t.core.get F.SAFE_EVENT_VCORE_FAIL = 1 ∧
        s.core.records 0x0A12 0 (BitVec.ofNat 32 (bit above)) 0 t.core ∧ s.core.enters .dangerous 0x0A12 (s.at ts) t.core ∧
        s.cuts (s.at ts) t ∧ t.core.recent = [] ∧ t.iram = s.iram ∧ t.dram = s.dram ∧ t.bufs = s.bufs ∧ t.pending = s.pending)) ∧
    (s.core.live = true ∨ s.core.dev = .boot ∨ s.core.dev = .bootFail → s.core.mainAlive = true → s.core.usecOn = true →
      s.core.get F.SAFE_STATUS_VAULTLOST = 0 → Gives (.vvltFail ts above) s (fun d => d.get F.SAFE_STATUS_VAULTLOST = 1 ∧
      d.get F.SAFE_EVENT_VVLT_FAIL = 1 ∧ (d.readReg 0x1E10).getLsbD 1 = false ∧ d.vault.run = none ∧ d.vault.pend = none ∧
      d.vault.drive = none ∧ d.alerts 4 ∧
      (s.core.get (F.RAIL_CFG_USED n) = 1 → running n → (d.rail n).out ≠ .on) ∧
      (∀ k : Fin 8, s.core.get (F.RSTO_CFG_CLAIM k) = 1 → (d.get F.RSTO_STATUS_ASSERTED).testBit k = true) ∧
      s.core.records 0x0A13 0 (BitVec.ofNat 32 (bit above)) 0 d ∧
      ((∀ m, (s.core.rail m).code = .off ∨ (s.core.rail m).code = .unused) → s.core.only (.now :: errorParts) d))) ∧
    (vaultUp → s.core.usecOn = true → Gives (.refCompare ts dev) s (fun d =>
      signed 16 (d.get F.VLT_REF_DEV) = max (-32768) (min 32767 dev) ∧
      (small → d.checks.refBad = 0 ∧ d.get F.VLT_STATUS_REFOK = 1) ∧
      (¬ small → d.get F.VLT_STATUS_REFOK = 0 ∧ (s.core.checks.refBad ≤ 2 → d.checks.refBad = min 2 (s.core.checks.refBad + 1))) ∧
      s.core.only [.now, .regs, .checks] d ∧ s.core.onlyRegs [F.VLT_REF_DEV, F.VLT_STATUS_REFOK] d)) ∧
    (vaultUp → s.core.checks.refBad = 2 → grave (.refXchk ts) 0x0A14 F.SAFE_EVENT_REF_XCHK (u.readReg 0x1E12) 0 [.checks] (fun d =>
      d.checks.refBad = 3)) ∧
    (8 ≤ n.val → s.core.live = true → s.core.mainAlive = true → s.core.pwr.vsupLow = false → s.core.get (F.RAIL_CFG_CLAIM n) = 1 →
      s.core.get (F.RAIL_CFG_ENMODE n) = 0 → Gives (.outMismatch ts n) s (fun d => d.get F.SAFE_EVENT_OUT_MISMATCH = 1 ∧
        s.core.records 0x0A17 n (BitVec.ofNat 32 (bit level)) (BitVec.ofNat 32 (1 - bit level)) d ∧
        ((∀ q ∈ s.core.probing, q.path ≠ .pin n) → s.core.probes.length < 16 → ∃ q ∈ d.probes, q.path = .pin n ∧ q.typ = 0x0A17) ∧
        s.core.only (.now :: errorParts) d))

/-! ### Output pins (20) -/

/-- R678-R682, R157, R363-R365, R628, R689, R690: outside RUN, HOLD-UP and WATCH, and with VSUP below 11.0 V, every EN, PWM, RSTO, MD and SEQ_OUT
pin is high-impedance but for EXTEST, and with VSUP below 11.0 V FLT_N, the gates and the doors' outputs too; between frames a
door drives no data pin, and CANTX is recessive; STAT shows on SIOx1 of doors A and B the alert, the device state, WATCH, the
last frame and HOLD; FLT_N is low exactly where the vault has a cause to pull it. An EN pin whose rail is claimed shows by ENPOL and ENMODE whether the rail's output is on. RAIL_START brings its
rail's EN pin to the active level and no other EN, PWM, RSTO, MD or SEQ_OUT pin changes with it. At VIN_RISE_LOCKOUT every
pin is released. In BOOT-FAIL the instruction EXTEST brings EN, PWM, RSTO, SEQ_OUT, the alerts and the doors' pins to what their
boundary cells say and FLT_N stays as it was; HIGHZ releases them. The model's choices (log entry 34): a PWM pin whose enable cell is 0 is
high-impedance, an EN pin drives both levels in EXTEST, and the pins of the doors and TDO rest between frames. -/
def Obligations.OutputPins : Prop :=
  ∀ (s : State) (ts : Nat) (n : Fin 48) (x : Fin 4) (cells levels : BitVec 239),
    let quiet (d : Dev) : Prop := (∀ m, d.enPin m = .z) ∧ (∀ p, d.pwmPin p = .z) ∧ (∀ k, d.rstoPin k = .z) ∧
      (∀ m, d.mdPin m = none) ∧ d.seqOutPin = .z
    let still (d : Dev) : Prop := (∀ (y : Fin 2) (i : Fin 4), d.sioPin y i = .z) ∧ d.sclPin = .z ∧ d.sdaPin = .z ∧ d.tdoPin = .z
    let hi : Pin := if s.core.get (F.RAIL_CFG_ENMODE n) = 1 then .z else .high
    let pol : Prop := s.core.get (F.RAIL_CFG_ENPOL n) = 1
    let up : Prop := s.core.dev = .run ∨ s.core.dev = .holdUp
    let cell (c : Nat) : Pin :=
      if cells.getLsbD (c + 1) = false then .z else if cells.getLsbD c then .high else .low
    let drain (c : Nat) : Pin := if cells.getLsbD (c + 1) = true ∧ cells.getLsbD c = false then .low else .z
    (¬ up → (s.core.dev = .bootFail → s.core.tapIr ≠ 0) → quiet s.core) ∧
    (s.core.pwr.vsupLow = true → quiet s.core ∧ s.core.fltPin = .z ∧ s.core.orGatePin = .z ∧ s.core.chgGatePin = .z ∧
      (∀ d, s.core.alertPin d = .z) ∧ still s.core ∧ s.core.canTxPin = .z ∧ s.core.statSent x = none ∧ s.core.canSends = false ∧ ∀ ws : List Word, s.core.sent ws = []) ∧
    (s.core.muted = false → x.val < 2 → s.core.doorsUp = true → ∃ b : Byte, s.core.statSent x = some b ∧
      (b.getLsbD 7 = true ↔ s.core.get (F.DOOR_ACAUSE_CAUSE x) &&& s.core.get (F.DOOR_AEN_EN x) ≠ 0) ∧
      b.toNat / 16 % 8 = s.core.dev.code % 8 ∧ (b.getLsbD 3 = true ↔ s.core.eff = .watch) ∧
      (b.getLsbD 2 = true ↔ (s.core.port x).wwin = none ∧ ((s.core.port x).lastRes = 0xA5 ∨ (s.core.port x).lastRes = 0x69)) ∧
      (b.getLsbD 1 = true ↔ (s.core.port x).wwin ≠ none) ∧ b.getLsbD 0 = (s.core.door x).hold) ∧
    (s.core.pwr.vsupLow = false → (s.core.fltPin = .low ↔ s.core.vault.drive ≠ none)) ∧
    (up → s.core.pwr.vsupLow = false → 8 ≤ n.val → s.core.get (F.RAIL_CFG_CLAIM n) = 1 →
      ((s.core.rail n).out = .on → s.core.enPin n = if pol then hi else .low) ∧
      ((s.core.rail n).out ≠ .on → s.core.enPin n = if pol then .low else hi) ∧
      (s.core.startOk n = true → Gives (.railStart ts n) s (fun d => d.enPin n = (if pol then hi else .low) ∧
        (∀ m, m ≠ n → d.enPin m = s.core.enPin m) ∧ (∀ p, d.pwmPin p = s.core.pwmPin p) ∧
        (∀ k, d.rstoPin k = s.core.rstoPin k) ∧ (∀ m, d.mdPin m = s.core.mdPin m) ∧ d.seqOutPin = s.core.seqOutPin))) ∧
    (n.val < 8 ∨ (s.core.dev ≠ .bootFail ∧ s.core.get (F.RAIL_CFG_CLAIM n) = 0) → s.core.enPin n = .z) ∧
    (s.core.dev = .bootFail → s.core.pwr.vsupLow = false →
      Gives (.tapInstruction ts 0 cells levels) s (fun d => d.fltPin = s.core.fltPin ∧ d.seqOutPin = drain 66 ∧
        (8 ≤ n.val → d.enPin n = cell (53 + 2 * n.val)) ∧ (∀ p : Fin 24, d.pwmPin p = cell (2 * p.val)) ∧
        (∀ k : Fin 8, s.core.get (F.RSTO_CFG_DRIVE k) = 0 → d.rstoPin k = drain (48 + 2 * k.val)) ∧
        d.alertPin 0 = drain 203 ∧ d.alertPin 1 = drain 219 ∧ d.alertPin 2 = drain 227 ∧ (∀ m, d.mdPin m = none) ∧
        (∀ (y : Fin 2) (i : Fin 4), d.sioPin y i = cell (192 + 16 * y.val + 3 * i.val)) ∧ d.sclPin = drain 222 ∧ d.sdaPin = drain 225 ∧
        d.canTxPin = cell 232 ∧ d.statSent x = none ∧ d.canSends = false) ∧
      Gives (.tapInstruction ts 2 cells levels) s (fun d => quiet d ∧ d.fltPin = s.core.fltPin ∧ (∀ x, d.alertPin x = .z) ∧ still d ∧
        d.canTxPin = .z)) ∧
    (s.core.pwr.vsupLow = false → s.core.tapTakes = false → still s.core ∧ (s.core.canTxPin = .high ↔ s.core.doorsUp = true)) ∧
    (s.core.dev = .powerHold → Gives (.vinRiseLockout ts) s (fun d => quiet d ∧ d.fltPin = .z ∧ d.alertPin 0 = .z ∧
      d.alertPin 1 = .z ∧ d.alertPin 2 = .z))
end

