-- ==== Sys2Proof/Laws/Sparse.lean ====
section
/-! SUPPORT. The laws of sparse stores: a read after a write, and that every write keeps the canonical form. -/

namespace Sys2Proof.Machine

section reads
variable {α : Type}

theorem sget_sdrop {d : Nat → α} {m : List (Nat × α)} {k j : Nat} :
    sget d (sdrop m k) j = if j = k then d k else sget d m j := by
  induction m with
  | nil => by_cases hj : j = k <;> simp [sdrop, sget, hj]
  | cons p m ih =>
    obtain ⟨a, x⟩ := p
    unfold sdrop at ih ⊢
    by_cases ha : a = k
    · subst ha
      by_cases hj : j = a
      · simpa [sget, hj] using ih
      · simpa [sget, hj] using ih
    · by_cases hj : j = k
      · have : k ≠ a := fun h => ha h.symm
        simpa [sget, ha, hj, this] using ih
      · by_cases hja : j = a <;> simp_all [sget]

/-- A read of a run has its length. -/
@[simp] theorem sgetRun_length {d : Nat → α} {m : List (Nat × α)} {k n : Nat} : (sgetRun d m k n).length = n := by
  simp [sgetRun]

variable [DecidableEq α]

/-- A read after a write. -/
theorem sget_sset {d : Nat → α} {m : List (Nat × α)} {k j : Nat} {v : α} :
    sget d (sset d m k v) j = if j = k then v else sget d m j := by
  induction m with
  | nil => by_cases hv : v = d k <;> by_cases hj : j = k <;> simp [sset, hv, hj, sget]
  | cons p m ih =>
    obtain ⟨a, x⟩ := p
    unfold sset
    split
    · split
      · rename_i hka hv
        by_cases hj : j = k
        · subst hj
          have : j ≠ a := by omega
          simp [sget, this, sget_sdrop, hv]
        · simp [sget, hj, sget_sdrop]
      · rfl
    · split
      · rename_i hka
        subst hka
        split
        · rename_i hv
          by_cases hj : j = k <;> simp [sget_sdrop, sget, hj, hv]
        · by_cases hj : j = k <;> simp [sget, hj]
      · rename_i hka hka'
        simp only [sget, ih]
        by_cases hj : j = k
        · subst hj; simp [hka']
        · simp [hj]

@[simp] theorem sget_sset_same {d : Nat → α} {m : List (Nat × α)} {k : Nat} {v : α} :
    sget d (sset d m k v) k = v := by simp [sget_sset]

theorem sget_sset_ne {d : Nat → α} {m : List (Nat × α)} {k j : Nat} {v : α} (hj : j ≠ k) :
    sget d (sset d m k v) j = sget d m j := by simp [sget_sset, hj]

/-- A run of writes leaves the keys outside it as they read. -/
theorem sget_ssetRun_out {d : Nat → α} {m : List (Nat × α)} {k j : Nat} {vs : List α}
    (hj : j < k ∨ k + vs.length ≤ j) : sget d (ssetRun d m k vs) j = sget d m j := by
  induction vs generalizing m k with
  | nil => rfl
  | cons v vs ih =>
    simp only [List.length_cons] at hj
    rw [ssetRun, ih (by omega), sget_sset_ne (by omega)]

/-- A run of writes reads back. -/
theorem sget_ssetRun_in {d : Nat → α} {m : List (Nat × α)} {k i : Nat} {vs : List α}
    (hi : i < vs.length) : sget d (ssetRun d m k vs) (k + i) = vs[i] := by
  induction vs generalizing m k i with
  | nil => simp at hi
  | cons v vs ih =>
    cases i with
    | zero => rw [ssetRun, sget_ssetRun_out (by omega)]; simp
    | succ i =>
      have := ih (m := sset d m k v) (k := k + 1) (i := i) (by simpa using hi)
      simpa [ssetRun, Nat.add_comm, Nat.add_left_comm, Nat.add_assoc] using this

end reads

section canonical
variable {α : Type} [DecidableEq α]

theorem swfFrom_mono {d : Nat → α} {b c : Nat} {m : List (Nat × α)} (hbc : b ≤ c) (h : swfFrom d c m = true) :
    swfFrom d b m = true := by
  cases m with
  | nil => rfl
  | cons p m =>
    obtain ⟨a, x⟩ := p
    simp only [swfFrom, Bool.and_eq_true, decide_eq_true_eq] at h ⊢
    exact ⟨⟨by omega, h.1.2⟩, h.2⟩

theorem swfFrom_sdrop {d : Nat → α} {b k : Nat} {m : List (Nat × α)} (h : swfFrom d b m = true) :
    swfFrom d b (sdrop m k) = true := by
  induction m generalizing b with
  | nil => rfl
  | cons p m ih =>
    obtain ⟨a, x⟩ := p
    simp only [swfFrom, Bool.and_eq_true, decide_eq_true_eq] at h
    obtain ⟨⟨hba, hx⟩, hm⟩ := h
    unfold sdrop at ih ⊢
    by_cases ha : a = k
    · simpa [ha] using swfFrom_mono (by omega) (ih hm)
    · simp [ha, swfFrom, hba, hx]
      simpa using ih hm

theorem swfFrom_sset {d : Nat → α} {b : Nat} {m : List (Nat × α)} {k : Nat} {v : α}
    (h : swfFrom d b m = true) (hk : b ≤ k) : swfFrom d b (sset d m k v) = true := by
  induction m generalizing b with
  | nil => by_cases hv : v = d k <;> simp [sset, hv, swfFrom, hk]
  | cons p m ih =>
    obtain ⟨a, x⟩ := p
    simp only [swfFrom, Bool.and_eq_true, decide_eq_true_eq] at h
    obtain ⟨⟨hba, hx⟩, hm⟩ := h
    unfold sset
    split
    · split
      · simp [swfFrom, hba, hx, swfFrom_sdrop hm]
      · rename_i hka hv
        simp [swfFrom, hk, hv, hx, hm]; omega
    · split
      · split
        · exact swfFrom_mono (by omega) (swfFrom_sdrop hm)
        · rename_i hka hv
          subst hka
          simp [swfFrom, hv, hm, hba]
      · simp only [swfFrom, Bool.and_eq_true, decide_eq_true_eq]
        exact ⟨⟨hba, hx⟩, ih hm (by omega)⟩

/-- A write keeps the canonical form. -/
theorem swf_sset {d : Nat → α} {m : List (Nat × α)} {k : Nat} {v : α} (h : swf d m = true) :
    swf d (sset d m k v) = true := swfFrom_sset h (Nat.zero_le _)

theorem swf_ssetRun {d : Nat → α} {m : List (Nat × α)} {k : Nat} {vs : List α} (h : swf d m = true) :
    swf d (ssetRun d m k vs) = true := by
  induction vs generalizing m k with
  | nil => exact h
  | cons v vs ih => exact ih (swf_sset h)

@[simp] theorem swf_nil (d : Nat → α) : swf d [] = true := rfl

end canonical

end Sys2Proof.Machine
end

