-- ==== Sys2Proof/Laws/Memory.lean ====
section
/-! SUPPORT. Every operation over an addressed memory keeps its canonical form (`State.memWf`), and reset has it. -/

namespace Sys2Proof.Machine

/-! ### The form -/

theorem State.memWf_iff (s : State) : s.memWf = true ↔ swf factoryByte s.ledger = true ∧ swf (fun _ => 0) s.iram = true ∧
    swf (fun _ => 0) s.dram = true ∧ ∀ c : Fin 6, swf (fun _ => 0) (s.bufs.get c) = true := by
  simp [State.memWf, List.all_eq_true, and_assoc]

/-- The form is that of the four memories: what else a state holds does not matter. -/
theorem State.memWf_congr {s t : State} (h1 : t.ledger = s.ledger) (h2 : t.iram = s.iram) (h3 : t.dram = s.dram)
    (h4 : t.bufs = s.bufs) : t.memWf = s.memWf := by unfold State.memWf; rw [h1, h2, h3, h4]

@[simp] theorem State.memWf_lift (s : State) (f : Dev → Dev) : (s.lift f).memWf = s.memWf := rfl

@[simp] theorem State.memWf_advance (s : State) (ts : Nat) : (s.advance ts).memWf = s.memWf := rfl

@[simp] theorem State.memWf_pending (s : State) (q : List Instr) : ({ s with pending := q } : State).memWf = s.memWf := rfl

@[simp] theorem State.memWf_core (s : State) (d : Dev) : ({ s with core := d } : State).memWf = s.memWf := rfl

theorem State.reset_memWf : State.reset.memWf = true := by decide +kernel

/-! ### Writes -/

theorem State.memWf_ledgerPut {s : State} {a : Nat} {bs : List Byte} (h : s.memWf = true) :
    (s.ledgerPut a bs).memWf = true := by
  rw [State.memWf_iff] at h ⊢
  exact ⟨swf_ssetRun h.1, h.2⟩

theorem State.memWf_ledgerWrite {s : State} {a : Nat} {bs : List Byte} (h : s.memWf = true) :
    (s.ledgerWrite a bs).memWf = true :=
  State.memWf_ledgerPut h

/-- A fold of an operation that keeps the form. -/
theorem State.memWf_foldl {α : Type} (l : List α) (f : State → α → State) (hf : ∀ (t : State) (x : α), t.memWf = true → (f t x).memWf = true)
    {s : State} (h : s.memWf = true) : (l.foldl f s).memWf = true := by
  induction l generalizing s with
  | nil => exact h
  | cons x l ih => exact ih (hf s x h)

theorem State.memWf_putBlocks {s : State} {bs : List (Nat × List Byte)} (h : s.memWf = true) : (s.putBlocks bs).memWf = true :=
  State.memWf_foldl bs _ (fun _ _ ht => State.memWf_ledgerPut ht) h

theorem State.memWf_dataWrite {s : State} {a : Nat} {bs : List Byte} (h : s.memWf = true) :
    (s.dataWrite a bs).memWf = true := by
  rw [State.memWf_iff] at h ⊢
  exact ⟨h.1, h.2.1, swf_ssetRun h.2.2.1, h.2.2.2⟩

theorem swf_foldl_sset {α : Type} [DecidableEq α] {d : Nat → α} {ws : List (Nat × α)} {m : List (Nat × α)}
    (h : swf d m = true) : swf d (ws.foldl (fun (b : List (Nat × α)) w => sset d b w.1 w.2) m) = true := by
  induction ws generalizing m with
  | nil => exact h
  | cons w ws ih => exact ih (swf_sset h)

theorem State.memWf_applyBuf {s : State} {c : Fin 6} {r : Dev × BufWords} (h : s.memWf = true) :
    (s.applyBuf c r).memWf = true := by
  rw [State.memWf_iff] at h ⊢
  refine ⟨h.1, h.2.1, h.2.2.1, fun x => ?_⟩
  have e : (s.applyBuf c r).bufs.get x = if c = x then
      r.2.foldl (fun (b : List (Nat × BitVec 16)) w => sset (fun _ => 0) b w.1 w.2) (s.bufs.get c) else s.bufs.get x := by
    by_cases hx : c = x
    · subst hx; simp [State.applyBuf, Vector.get_eq_getElem]
    · have : c.val ≠ x.val := fun h => hx (Fin.ext h)
      simp [State.applyBuf, Vector.get_eq_getElem, hx, this]
  rw [e]
  split
  · exact swf_foldl_sset (h.2.2.2 c)
  · exact h.2.2.2 x

theorem State.memWf_dark {s : State} (h : s.memWf = true) : s.dark.memWf = true := by
  rw [State.memWf_iff] at h ⊢
  exact ⟨h.1, rfl, rfl, fun c => by simp [State.dark, Vector.get_eq_getElem]⟩

theorem State.memWf_loadBank {s : State} {b : Bool} (h : s.memWf = true) : (s.loadBank b).memWf = true := by
  rw [State.memWf_iff] at h ⊢
  unfold State.loadBank
  generalize (List.range (s.img b 0x1C 4)).map _ = code
  generalize s.ledgerBytes (bankBase b + s.img b 0x20 4) (s.img b 0x24 4) = data
  exact ⟨h.1, swf_ssetRun (swf_nil _), swf_ssetRun (swf_nil _), h.2.2.2⟩

theorem State.memWf_probedWord {s : State} {p : Path} {pass : Bool} (h : s.memWf = true) :
    (s.probedWord p pass).memWf = true := by
  unfold State.probedWord
  split
  · split <;> exact h
  · split <;> exact h
  · have h' : ∀ a, ({ s with dram := ssetRun (fun _ => 0) s.dram (4 * a) [0, 0, 0, 0] } : State).memWf = true := fun a =>
      State.memWf_dataWrite h
    dsimp only
    split
    · exact h' _
    · exact h' _
  · split
    · dsimp only
      split
      · exact State.memWf_ledgerWrite h
      · rw [State.memWf_lift]
        exact State.memWf_ledgerWrite h
    · exact h
  · exact h

/-! ### What is built of them -/

theorem State.memWf_writeCopy {s : State} {c v : Nat} (h : s.memWf = true) : (s.writeCopy c v).memWf = true :=
  State.memWf_ledgerWrite h

theorem State.memWf_emptyFolio {s : State} (h : s.memWf = true) : s.emptyFolio.memWf = true := by
  rw [State.emptyFolio, State.memWf_lift]
  exact State.memWf_ledgerWrite h

theorem State.memWf_writeVerdict {s : State} (h : s.memWf = true) : s.writeVerdict.memWf = true := by
  unfold State.writeVerdict
  split
  · split
    · rw [State.memWf_lift]
      exact State.memWf_ledgerWrite h
    · exact h
  · exact h

theorem memWf_firstFaultCommit {s : State} {ts : Nat} (h : s.memWf = true) : (firstFaultCommit ts s).memWf = true := by
  have hu : (s.advance ts).memWf = true := h
  unfold firstFaultCommit
  generalize s.advance ts = u at hu ⊢
  dsimp only
  split
  · split
    · refine State.memWf_writeVerdict ?_
      rw [State.memWf_lift]
      exact State.memWf_ledgerWrite hu
    · exact hu
  · exact hu

theorem memWf_journalWrite {s : State} {ts : Nat} (h : s.memWf = true) : (journalWrite ts s).memWf = true := by
  have hu : (s.advance ts).memWf = true := h
  unfold journalWrite
  generalize s.advance ts = u at hu ⊢
  dsimp only
  split
  · split
    · rw [State.memWf_lift]
      exact State.memWf_ledgerWrite hu
    · exact hu
  · exact hu

theorem State.memWf_flush {s : State} (h : s.memWf = true) : s.flush.memWf = true :=
  State.memWf_foldl _ _ (fun _ _ => memWf_journalWrite) (memWf_firstFaultCommit h)

theorem State.memWf_leaveRun {s : State} {d : DevState} (h : s.memWf = true) : (s.leaveRun d).memWf = true := by
  unfold State.leaveRun
  dsimp only
  split
  · rw [State.memWf_lift]
    exact State.memWf_flush h
  · refine State.memWf_dark ?_
    rw [State.memWf_lift]
    exact State.memWf_flush h

theorem memWf_healthDayClose {s : State} {ts : Nat} (h : s.memWf = true) : (healthDayClose ts s).memWf = true := by
  have hu : (s.advance ts).memWf = true := h
  unfold healthDayClose
  generalize s.advance ts = u at hu ⊢
  dsimp only
  split
  · split
    · rw [State.memWf_lift]
      exact State.memWf_ledgerWrite hu
    · exact hu
  · exact hu

theorem memWf_archiveCommitEnd {s : State} {ts : Nat} (h : s.memWf = true) : (archiveCommitEnd ts s).memWf = true := by
  have hu : (s.advance ts).memWf = true := h
  unfold archiveCommitEnd
  generalize s.advance ts = u at hu ⊢
  dsimp only
  split
  · split
    · rw [State.memWf_lift]
      exact State.memWf_putBlocks hu
    · exact hu
  · exact hu

theorem memWf_usecWrapCopy {s : State} {ts : Nat} (h : s.memWf = true) : (usecWrapCopy ts s).memWf = true := by
  have hu : (s.advance ts).memWf = true := h
  unfold usecWrapCopy
  generalize s.advance ts = u at hu ⊢
  dsimp only
  split
  · split
    · rw [State.memWf_lift]
      exact State.memWf_writeCopy hu
    · exact hu
  · exact hu

theorem memWf_usecWrap {s : State} {ts : Nat} (h : s.memWf = true) : (usecWrap ts s).memWf = true := by
  have hu := memWf_firstFaultCommit (ts := ts) h
  unfold usecWrap
  generalize firstFaultCommit ts s = u at hu ⊢
  dsimp only
  have hw : (u.lift (fun c => c.wrap)).memWf = true := hu
  split
  · split
    · exact State.memWf_emptyFolio hw
    · exact hw
  · exact hu

theorem State.memWf_windowWrite {s : State} {a : Nat} {vs : List Word} {ecc : List Ecc} (h : s.memWf = true) :
    (s.windowWrite a vs ecc).memWf = true := by
  unfold State.windowWrite
  dsimp only
  refine State.memWf_putBlocks ?_
  rw [State.memWf_lift]
  split
  · exact h
  · rw [State.memWf_lift]
    exact State.memWf_putBlocks ((State.memWf_lift s _).trans h)

/-! ### A supply that fails (R506) -/

theorem State.memWf_undo {s : State} {r : Recent} {a b : Nat} (h : s.memWf = true) : (s.undo r a b).memWf = true := by
  rw [State.memWf_iff] at h ⊢
  exact ⟨swf_ssetRun h.1, h.2⟩

theorem State.memWf_tearWord {s : State} {torn : Option Nat} {r : Recent} (h : s.memWf = true) :
    (s.tearWord torn r).2.memWf = true := by
  unfold State.tearWord
  dsimp only
  split
  · split
    · exact h
    · split
      · exact h
      · exact State.memWf_undo h
  · exact h

theorem State.memWf_tearOne {s : State} {torn : Option Nat} {r : Recent} (h : s.memWf = true) : (s.tearOne torn r).memWf = true := by
  unfold State.tearOne
  dsimp only
  split
  · exact State.memWf_tearWord h
  · rw [State.memWf_lift]
    exact State.memWf_undo (State.memWf_tearWord h)

theorem State.memWf_partBlocks {s : State} {torn : Option Nat} {k : Nat} {bs : List (Nat × List Byte)} (h : s.memWf = true) :
    (s.partBlocks torn k bs).memWf = true := by
  unfold State.partBlocks
  split
  · rw [State.memWf_lift]
    exact State.memWf_putBlocks h
  · exact State.memWf_putBlocks h

theorem State.memWf_tearDoor {s : State} {torn : Option Nat} {d : Fin 4} (h : s.memWf = true) : (s.tearDoor torn d).memWf = true := by
  unfold State.tearDoor
  split
  · exact State.memWf_partBlocks h
  · exact h

theorem State.memWf_tearArch {s : State} {torn : Option Nat} (h : s.memWf = true) : (s.tearArch torn).memWf = true := by
  unfold State.tearArch
  split
  · dsimp only
    split
    · exact State.memWf_partBlocks h
    · rw [State.memWf_lift]
      exact State.memWf_partBlocks h
  · exact h

theorem State.memWf_tears {s : State} {torn : Option Nat} (h : s.memWf = true) : (s.tears torn).memWf = true := by
  unfold State.tears
  have hr : (s.core.recent.reverse.foldl (State.tearOne torn) s).memWf = true :=
    State.memWf_foldl _ _ (fun _ _ => State.memWf_tearOne) h
  rw [State.memWf_lift]
  split
  · exact hr
  · exact State.memWf_foldl _ _ (fun _ _ => State.memWf_tearDoor) (State.memWf_tearArch hr)

theorem State.memWf_pauses {s : State} {torn : Option Nat} (h : s.memWf = true) : (s.pauses torn).memWf = true := by
  unfold State.pauses
  refine State.memWf_foldl _ _ (fun t r ht => ?_) ((State.memWf_lift s _).trans h)
  dsimp only
  rw [State.memWf_lift]
  exact State.memWf_tearWord ht

end Sys2Proof.Machine
end

