-- ==== Sys2Proof/Laws/State.lean ====
section
/-! SUPPORT. The laws of State: for every update of one field, what every field reads afterwards. -/

namespace Sys2Proof.Machine

/-- A vector read after a write. -/
theorem vget_set {α : Type} {n : Nat} (v : Vector α n) (i j : Fin n) (x : α) :
    (v.set i.val x i.isLt).get j = if j = i then x else v.get j := by
  simp only [Vector.get_eq_getElem, Vector.getElem_set]
  by_cases h : j = i
  · subst h; simp
  · have h' : i.val ≠ j.val := fun e => h (Fin.ext e.symm)
    simp [h, h']

/-! ### Fields that an update leaves -/

@[simp] theorem Dev.put_now (s : Dev) (f : Fld) (v : Nat) : (s.put f v).now = s.now := rfl
@[simp] theorem Dev.put_before (s : Dev) (f : Fld) (v : Nat) : (s.put f v).before = s.before := rfl
@[simp] theorem Dev.put_fresh (s : Dev) (f : Fld) (v : Nat) : (s.put f v).fresh = s.fresh := rfl
@[simp] theorem Dev.put_dev (s : Dev) (f : Fld) (v : Nat) : (s.put f v).dev = s.dev := rfl
@[simp] theorem Dev.put_rails (s : Dev) (f : Fld) (v : Nat) : (s.put f v).rails = s.rails := rfl
@[simp] theorem Dev.put_tellers (s : Dev) (f : Fld) (v : Nat) : (s.put f v).tellers = s.tellers := rfl
@[simp] theorem Dev.put_owners (s : Dev) (f : Fld) (v : Nat) : (s.put f v).owners = s.owners := rfl
@[simp] theorem Dev.put_doors (s : Dev) (f : Fld) (v : Nat) : (s.put f v).doors = s.doors := rfl
@[simp] theorem Dev.put_vault (s : Dev) (f : Fld) (v : Nat) : (s.put f v).vault = s.vault := rfl
@[simp] theorem Dev.put_usecOn (s : Dev) (f : Fld) (v : Nat) : (s.put f v).usecOn = s.usecOn := rfl
@[simp] theorem Dev.put_usec0 (s : Dev) (f : Fld) (v : Nat) : (s.put f v).usec0 = s.usec0 := rfl
@[simp] theorem Dev.put_shadowAt (s : Dev) (f : Fld) (v : Nat) : (s.put f v).shadowAt = s.shadowAt := rfl
@[simp] theorem Dev.put_bootno (s : Dev) (f : Fld) (v : Nat) : (s.put f v).bootno = s.bootno := rfl
@[simp] theorem Dev.put_bootnoOk (s : Dev) (f : Fld) (v : Nat) : (s.put f v).bootnoOk = s.bootnoOk := rfl
@[simp] theorem Dev.put_trims (s : Dev) (f : Fld) (v : Nat) : (s.put f v).trims = s.trims := rfl
@[simp] theorem Dev.put_rev (s : Dev) (f : Fld) (v : Nat) : (s.put f v).rev = s.rev := rfl
@[simp] theorem Dev.put_angle (s : Dev) (f : Fld) (v : Nat) : (s.put f v).angle = s.angle := rfl
@[simp] theorem Dev.put_tal (s : Dev) (f : Fld) (v : Nat) : (s.put f v).tal = s.tal := rfl
@[simp] theorem Dev.put_shutters (s : Dev) (f : Fld) (v : Nat) : (s.put f v).shutters = s.shutters := rfl
@[simp] theorem Dev.put_cvs (s : Dev) (f : Fld) (v : Nat) : (s.put f v).cvs = s.cvs := rfl
@[simp] theorem Dev.put_caps (s : Dev) (f : Fld) (v : Nat) : (s.put f v).caps = s.caps := rfl
@[simp] theorem Dev.put_stats (s : Dev) (f : Fld) (v : Nat) : (s.put f v).stats = s.stats := rfl
@[simp] theorem Dev.put_statAt (s : Dev) (f : Fld) (v : Nat) : (s.put f v).statAt = s.statAt := rfl
@[simp] theorem Dev.put_statLen (s : Dev) (f : Fld) (v : Nat) : (s.put f v).statLen = s.statLen := rfl
@[simp] theorem Dev.put_cvFast (s : Dev) (f : Fld) (v : Nat) : (s.put f v).cvFast = s.cvFast := rfl
@[simp] theorem Dev.put_tickAt (s : Dev) (f : Fld) (v : Nat) : (s.put f v).tickAt = s.tickAt := rfl
@[simp] theorem Dev.put_jq (s : Dev) (f : Fld) (v : Nat) : (s.put f v).jq = s.jq := rfl
@[simp] theorem Dev.put_jIn (s : Dev) (f : Fld) (v : Nat) : (s.put f v).jIn = s.jIn := rfl
@[simp] theorem Dev.put_jLost (s : Dev) (f : Fld) (v : Nat) : (s.put f v).jLost = s.jLost := rfl
@[simp] theorem Dev.put_folio (s : Dev) (f : Fld) (v : Nat) : (s.put f v).folio = s.folio := rfl
@[simp] theorem Dev.put_folioVer (s : Dev) (f : Fld) (v : Nat) : (s.put f v).folioVer = s.folioVer := rfl
@[simp] theorem Dev.put_ledgBad (s : Dev) (f : Fld) (v : Nat) : (s.put f v).ledgBad = s.ledgBad := rfl
@[simp] theorem Dev.put_recent (s : Dev) (f : Fld) (v : Nat) : (s.put f v).recent = s.recent := rfl
@[simp] theorem Dev.put_v18ok (s : Dev) (f : Fld) (v : Nat) : (s.put f v).v18ok = s.v18ok := rfl
@[simp] theorem Dev.put_scrubAt (s : Dev) (f : Fld) (v : Nat) : (s.put f v).scrubAt = s.scrubAt := rfl
@[simp] theorem Dev.put_afill (s : Dev) (f : Fld) (v : Nat) : (s.put f v).afill = s.afill := rfl
@[simp] theorem Dev.put_wrapCopy (s : Dev) (f : Fld) (v : Nat) : (s.put f v).wrapCopy = s.wrapCopy := rfl
@[simp] theorem Dev.put_jck (s : Dev) (f : Fld) (v : Nat) : (s.put f v).jck = s.jck := rfl
@[simp] theorem Dev.put_folioDone (s : Dev) (f : Fld) (v : Nat) : (s.put f v).folioDone = s.folioDone := rfl
@[simp] theorem Dev.put_folioVdone (s : Dev) (f : Fld) (v : Nat) : (s.put f v).folioVdone = s.folioVdone := rfl
@[simp] theorem Dev.put_hday (s : Dev) (f : Fld) (v : Nat) : (s.put f v).hday = s.hday := rfl
@[simp] theorem Dev.put_hsaved (s : Dev) (f : Fld) (v : Nat) : (s.put f v).hsaved = s.hsaved := rfl
@[simp] theorem Dev.put_holder (s : Dev) (f : Fld) (v : Nat) : (s.put f v).holder = s.holder := rfl
@[simp] theorem Dev.put_hcopy (s : Dev) (f : Fld) (v : Nat) : (s.put f v).hcopy = s.hcopy := rfl
@[simp] theorem Dev.put_copyVer (s : Dev) (f : Fld) (v : Nat) : (s.put f v).copyVer = s.copyVer := rfl
@[simp] theorem Dev.put_hClean (s : Dev) (f : Fld) (v : Nat) : (s.put f v).hClean = s.hClean := rfl
@[simp] theorem Dev.put_calOpen (s : Dev) (f : Fld) (v : Nat) : (s.put f v).calOpen = s.calOpen := rfl
@[simp] theorem Dev.put_calKey (s : Dev) (f : Fld) (v : Nat) : (s.put f v).calKey = s.calKey := rfl
@[simp] theorem Dev.put_calDirty (s : Dev) (f : Fld) (v : Nat) : (s.put f v).calDirty = s.calDirty := rfl
@[simp] theorem Dev.put_probes (s : Dev) (f : Fld) (v : Nat) : (s.put f v).probes = s.probes := rfl
@[simp] theorem Dev.put_probing (s : Dev) (f : Fld) (v : Nat) : (s.put f v).probing = s.probing := rfl
@[simp] theorem Dev.put_lat (s : Dev) (f : Fld) (v : Nat) : (s.put f v).lat = s.lat := rfl
@[simp] theorem Dev.put_smbRel (s : Dev) (f : Fld) (v : Nat) : (s.put f v).smbRel = s.smbRel := rfl
@[simp] theorem Dev.put_evq (s : Dev) (f : Fld) (v : Nat) : (s.put f v).evq = s.evq := rfl
@[simp] theorem Dev.put_evOvf (s : Dev) (f : Fld) (v : Nat) : (s.put f v).evOvf = s.evOvf := rfl
@[simp] theorem Dev.put_evDropped (s : Dev) (f : Fld) (v : Nat) : (s.put f v).evDropped = s.evDropped := rfl
@[simp] theorem Dev.put_evSent (s : Dev) (f : Fld) (v : Nat) : (s.put f v).evSent = s.evSent := rfl
@[simp] theorem Dev.put_awake (s : Dev) (f : Fld) (v : Nat) : (s.put f v).awake = s.awake := rfl
@[simp] theorem Dev.put_watchExit (s : Dev) (f : Fld) (v : Nat) : (s.put f v).watchExit = s.watchExit := rfl
@[simp] theorem Dev.put_inrushUj (s : Dev) (f : Fld) (v : Nat) : (s.put f v).inrushUj = s.inrushUj := rfl
@[simp] theorem Dev.put_preqs (s : Dev) (f : Fld) (v : Nat) : (s.put f v).preqs = s.preqs := rfl
@[simp] theorem Dev.put_schedAt (s : Dev) (f : Fld) (v : Nat) : (s.put f v).schedAt = s.schedAt := rfl
@[simp] theorem Dev.put_holdO (s : Dev) (f : Fld) (v : Nat) : (s.put f v).holdO = s.holdO := rfl
@[simp] theorem Dev.put_holdE (s : Dev) (f : Fld) (v : Nat) : (s.put f v).holdE = s.holdE := rfl
@[simp] theorem Dev.put_holdAt (s : Dev) (f : Fld) (v : Nat) : (s.put f v).holdAt = s.holdAt := rfl
@[simp] theorem Dev.put_holdShort (s : Dev) (f : Fld) (v : Nat) : (s.put f v).holdShort = s.holdShort := rfl
@[simp] theorem Dev.put_heatRes (s : Dev) (f : Fld) (v : Nat) : (s.put f v).heatRes = s.heatRes := rfl
@[simp] theorem Dev.put_thUp (s : Dev) (f : Fld) (v : Nat) : (s.put f v).thUp = s.thUp := rfl
@[simp] theorem Dev.put_thDown (s : Dev) (f : Fld) (v : Nat) : (s.put f v).thDown = s.thDown := rfl
@[simp] theorem Dev.put_thTrip (s : Dev) (f : Fld) (v : Nat) : (s.put f v).thTrip = s.thTrip := rfl
@[simp] theorem Dev.put_thFloors (s : Dev) (f : Fld) (v : Nat) : (s.put f v).thFloors = s.thFloors := rfl
@[simp] theorem Dev.put_thHot (s : Dev) (f : Fld) (v : Nat) : (s.put f v).thHot = s.thHot := rfl
@[simp] theorem Dev.put_thCause (s : Dev) (f : Fld) (v : Nat) : (s.put f v).thCause = s.thCause := rfl
@[simp] theorem Dev.put_headMw (s : Dev) (f : Fld) (v : Nat) : (s.put f v).headMw = s.headMw := rfl
@[simp] theorem Dev.put_rstoAt (s : Dev) (f : Fld) (v : Nat) : (s.put f v).rstoAt = s.rstoAt := rfl
@[simp] theorem Dev.put_cascAt (s : Dev) (f : Fld) (v : Nat) : (s.put f v).cascAt = s.cascAt := rfl
@[simp] theorem Dev.put_seqIn (s : Dev) (f : Fld) (v : Nat) : (s.put f v).seqIn = s.seqIn := rfl
@[simp] theorem Dev.put_closeAt (s : Dev) (f : Fld) (v : Nat) : (s.put f v).closeAt = s.closeAt := rfl
@[simp] theorem Dev.put_sampled (s : Dev) (f : Fld) (v : Nat) : (s.put f v).sampled = s.sampled := rfl
@[simp] theorem Dev.put_vaultRails (s : Dev) (f : Fld) (v : Nat) : (s.put f v).vaultRails = s.vaultRails := rfl
@[simp] theorem Dev.put_vaultMargins (s : Dev) (f : Fld) (v : Nat) : (s.put f v).vaultMargins = s.vaultMargins := rfl
@[simp] theorem Dev.put_scs (s : Dev) (f : Fld) (v : Nat) : (s.put f v).scs = s.scs := rfl
@[simp] theorem Dev.put_phs (s : Dev) (f : Fld) (v : Nat) : (s.put f v).phs = s.phs := rfl
@[simp] theorem Dev.put_mdAt (s : Dev) (f : Fld) (v : Nat) : (s.put f v).mdAt = s.mdAt := rfl
@[simp] theorem Dev.put_mgEnd (s : Dev) (f : Fld) (v : Nat) : (s.put f v).mgEnd = s.mgEnd := rfl
@[simp] theorem Dev.put_pwr (s : Dev) (f : Fld) (v : Nat) : (s.put f v).pwr = s.pwr := rfl
@[simp] theorem Dev.put_checks (s : Dev) (f : Fld) (v : Nat) : (s.put f v).checks = s.checks := rfl
@[simp] theorem Dev.put_arch (s : Dev) (f : Fld) (v : Nat) : (s.put f v).arch = s.arch := rfl
@[simp] theorem Dev.put_iramBad (s : Dev) (f : Fld) (v : Nat) : (s.put f v).iramBad = s.iramBad := rfl
@[simp] theorem Dev.put_dramBad (s : Dev) (f : Fld) (v : Nat) : (s.put f v).dramBad = s.dramBad := rfl
@[simp] theorem Dev.put_ports (s : Dev) (f : Fld) (v : Nat) : (s.put f v).ports = s.ports := rfl
@[simp] theorem Dev.put_can (s : Dev) (f : Fld) (v : Nat) : (s.put f v).can = s.can := rfl
@[simp] theorem Dev.put_smbArl (s : Dev) (f : Fld) (v : Nat) : (s.put f v).smbArl = s.smbArl := rfl
@[simp] theorem Dev.put_tapIr (s : Dev) (f : Fld) (v : Nat) : (s.put f v).tapIr = s.tapIr := rfl
@[simp] theorem Dev.put_tapCells (s : Dev) (f : Fld) (v : Nat) : (s.put f v).tapCells = s.tapCells := rfl
@[simp] theorem Dev.put_tapIrOut (s : Dev) (f : Fld) (v : Nat) : (s.put f v).tapIrOut = s.tapIrOut := rfl
@[simp] theorem Dev.put_tapOut (s : Dev) (f : Fld) (v : Nat) : (s.put f v).tapOut = s.tapOut := rfl
@[simp] theorem Dev.put_rail (s : Dev) (f : Fld) (v : Nat) (m : Fin 48) : (s.put f v).rail m = s.rail m := rfl
@[simp] theorem Dev.put_teller (s : Dev) (f : Fld) (v : Nat) (j : Fin 8) : (s.put f v).teller j = s.teller j := rfl
@[simp] theorem Dev.put_door (s : Dev) (f : Fld) (v : Nat) (y : Fin 4) : (s.put f v).door y = s.door y := rfl
@[simp] theorem Dev.put_owner (s : Dev) (f : Fld) (v : Nat) (q : BitVec 8) : (s.put f v).owner q = s.owner q := rfl
@[simp] theorem Dev.put_cv (s : Dev) (f : Fld) (v : Nat) (z : Fin 6) : (s.put f v).cv z = s.cv z := rfl
@[simp] theorem Dev.put_cap (s : Dev) (f : Fld) (v : Nat) (z : Fin 6) : (s.put f v).cap z = s.cap z := rfl
@[simp] theorem Dev.put_sc (s : Dev) (f : Fld) (v : Nat) (m : Fin 8) : (s.put f v).sc m = s.sc m := rfl
@[simp] theorem Dev.put_ph (s : Dev) (f : Fld) (v : Nat) (q : Fin 24) : (s.put f v).ph q = s.ph q := rfl
@[simp] theorem Dev.put_port (s : Dev) (f : Fld) (v : Nat) (y : Fin 4) : (s.put f v).port y = s.port y := rfl

@[simp] theorem Dev.setRail_now (s : Dev) (n : Fin 48) (r : Rail) : (s.setRail n r).now = s.now := rfl
@[simp] theorem Dev.setRail_before (s : Dev) (n : Fin 48) (r : Rail) : (s.setRail n r).before = s.before := rfl
@[simp] theorem Dev.setRail_fresh (s : Dev) (n : Fin 48) (r : Rail) : (s.setRail n r).fresh = s.fresh := rfl
@[simp] theorem Dev.setRail_dev (s : Dev) (n : Fin 48) (r : Rail) : (s.setRail n r).dev = s.dev := rfl
@[simp] theorem Dev.setRail_regs (s : Dev) (n : Fin 48) (r : Rail) : (s.setRail n r).regs = s.regs := rfl
@[simp] theorem Dev.setRail_tellers (s : Dev) (n : Fin 48) (r : Rail) : (s.setRail n r).tellers = s.tellers := rfl
@[simp] theorem Dev.setRail_owners (s : Dev) (n : Fin 48) (r : Rail) : (s.setRail n r).owners = s.owners := rfl
@[simp] theorem Dev.setRail_doors (s : Dev) (n : Fin 48) (r : Rail) : (s.setRail n r).doors = s.doors := rfl
@[simp] theorem Dev.setRail_vault (s : Dev) (n : Fin 48) (r : Rail) : (s.setRail n r).vault = s.vault := rfl
@[simp] theorem Dev.setRail_usecOn (s : Dev) (n : Fin 48) (r : Rail) : (s.setRail n r).usecOn = s.usecOn := rfl
@[simp] theorem Dev.setRail_usec0 (s : Dev) (n : Fin 48) (r : Rail) : (s.setRail n r).usec0 = s.usec0 := rfl
@[simp] theorem Dev.setRail_shadowAt (s : Dev) (n : Fin 48) (r : Rail) : (s.setRail n r).shadowAt = s.shadowAt := rfl
@[simp] theorem Dev.setRail_bootno (s : Dev) (n : Fin 48) (r : Rail) : (s.setRail n r).bootno = s.bootno := rfl
@[simp] theorem Dev.setRail_bootnoOk (s : Dev) (n : Fin 48) (r : Rail) : (s.setRail n r).bootnoOk = s.bootnoOk := rfl
@[simp] theorem Dev.setRail_trims (s : Dev) (n : Fin 48) (r : Rail) : (s.setRail n r).trims = s.trims := rfl
@[simp] theorem Dev.setRail_rev (s : Dev) (n : Fin 48) (r : Rail) : (s.setRail n r).rev = s.rev := rfl
@[simp] theorem Dev.setRail_angle (s : Dev) (n : Fin 48) (r : Rail) : (s.setRail n r).angle = s.angle := rfl
@[simp] theorem Dev.setRail_tal (s : Dev) (n : Fin 48) (r : Rail) : (s.setRail n r).tal = s.tal := rfl
@[simp] theorem Dev.setRail_shutters (s : Dev) (n : Fin 48) (r : Rail) : (s.setRail n r).shutters = s.shutters := rfl
@[simp] theorem Dev.setRail_cvs (s : Dev) (n : Fin 48) (r : Rail) : (s.setRail n r).cvs = s.cvs := rfl
@[simp] theorem Dev.setRail_caps (s : Dev) (n : Fin 48) (r : Rail) : (s.setRail n r).caps = s.caps := rfl
@[simp] theorem Dev.setRail_stats (s : Dev) (n : Fin 48) (r : Rail) : (s.setRail n r).stats = s.stats := rfl
@[simp] theorem Dev.setRail_statAt (s : Dev) (n : Fin 48) (r : Rail) : (s.setRail n r).statAt = s.statAt := rfl
@[simp] theorem Dev.setRail_statLen (s : Dev) (n : Fin 48) (r : Rail) : (s.setRail n r).statLen = s.statLen := rfl
@[simp] theorem Dev.setRail_cvFast (s : Dev) (n : Fin 48) (r : Rail) : (s.setRail n r).cvFast = s.cvFast := rfl
@[simp] theorem Dev.setRail_tickAt (s : Dev) (n : Fin 48) (r : Rail) : (s.setRail n r).tickAt = s.tickAt := rfl
@[simp] theorem Dev.setRail_jq (s : Dev) (n : Fin 48) (r : Rail) : (s.setRail n r).jq = s.jq := rfl
@[simp] theorem Dev.setRail_jIn (s : Dev) (n : Fin 48) (r : Rail) : (s.setRail n r).jIn = s.jIn := rfl
@[simp] theorem Dev.setRail_jLost (s : Dev) (n : Fin 48) (r : Rail) : (s.setRail n r).jLost = s.jLost := rfl
@[simp] theorem Dev.setRail_folio (s : Dev) (n : Fin 48) (r : Rail) : (s.setRail n r).folio = s.folio := rfl
@[simp] theorem Dev.setRail_folioVer (s : Dev) (n : Fin 48) (r : Rail) : (s.setRail n r).folioVer = s.folioVer := rfl
@[simp] theorem Dev.setRail_ledgBad (s : Dev) (n : Fin 48) (r : Rail) : (s.setRail n r).ledgBad = s.ledgBad := rfl
@[simp] theorem Dev.setRail_recent (s : Dev) (n : Fin 48) (r : Rail) : (s.setRail n r).recent = s.recent := rfl
@[simp] theorem Dev.setRail_v18ok (s : Dev) (n : Fin 48) (r : Rail) : (s.setRail n r).v18ok = s.v18ok := rfl
@[simp] theorem Dev.setRail_scrubAt (s : Dev) (n : Fin 48) (r : Rail) : (s.setRail n r).scrubAt = s.scrubAt := rfl
@[simp] theorem Dev.setRail_afill (s : Dev) (n : Fin 48) (r : Rail) : (s.setRail n r).afill = s.afill := rfl
@[simp] theorem Dev.setRail_wrapCopy (s : Dev) (n : Fin 48) (r : Rail) : (s.setRail n r).wrapCopy = s.wrapCopy := rfl
@[simp] theorem Dev.setRail_jck (s : Dev) (n : Fin 48) (r : Rail) : (s.setRail n r).jck = s.jck := rfl
@[simp] theorem Dev.setRail_folioDone (s : Dev) (n : Fin 48) (r : Rail) : (s.setRail n r).folioDone = s.folioDone := rfl
@[simp] theorem Dev.setRail_folioVdone (s : Dev) (n : Fin 48) (r : Rail) : (s.setRail n r).folioVdone = s.folioVdone := rfl
@[simp] theorem Dev.setRail_hday (s : Dev) (n : Fin 48) (r : Rail) : (s.setRail n r).hday = s.hday := rfl
@[simp] theorem Dev.setRail_hsaved (s : Dev) (n : Fin 48) (r : Rail) : (s.setRail n r).hsaved = s.hsaved := rfl
@[simp] theorem Dev.setRail_holder (s : Dev) (n : Fin 48) (r : Rail) : (s.setRail n r).holder = s.holder := rfl
@[simp] theorem Dev.setRail_hcopy (s : Dev) (n : Fin 48) (r : Rail) : (s.setRail n r).hcopy = s.hcopy := rfl
@[simp] theorem Dev.setRail_copyVer (s : Dev) (n : Fin 48) (r : Rail) : (s.setRail n r).copyVer = s.copyVer := rfl
@[simp] theorem Dev.setRail_hClean (s : Dev) (n : Fin 48) (r : Rail) : (s.setRail n r).hClean = s.hClean := rfl
@[simp] theorem Dev.setRail_calOpen (s : Dev) (n : Fin 48) (r : Rail) : (s.setRail n r).calOpen = s.calOpen := rfl
@[simp] theorem Dev.setRail_calKey (s : Dev) (n : Fin 48) (r : Rail) : (s.setRail n r).calKey = s.calKey := rfl
@[simp] theorem Dev.setRail_calDirty (s : Dev) (n : Fin 48) (r : Rail) : (s.setRail n r).calDirty = s.calDirty := rfl
@[simp] theorem Dev.setRail_probes (s : Dev) (n : Fin 48) (r : Rail) : (s.setRail n r).probes = s.probes := rfl
@[simp] theorem Dev.setRail_probing (s : Dev) (n : Fin 48) (r : Rail) : (s.setRail n r).probing = s.probing := rfl
@[simp] theorem Dev.setRail_lat (s : Dev) (n : Fin 48) (r : Rail) : (s.setRail n r).lat = s.lat := rfl
@[simp] theorem Dev.setRail_smbRel (s : Dev) (n : Fin 48) (r : Rail) : (s.setRail n r).smbRel = s.smbRel := rfl
@[simp] theorem Dev.setRail_evq (s : Dev) (n : Fin 48) (r : Rail) : (s.setRail n r).evq = s.evq := rfl
@[simp] theorem Dev.setRail_evOvf (s : Dev) (n : Fin 48) (r : Rail) : (s.setRail n r).evOvf = s.evOvf := rfl
@[simp] theorem Dev.setRail_evDropped (s : Dev) (n : Fin 48) (r : Rail) : (s.setRail n r).evDropped = s.evDropped := rfl
@[simp] theorem Dev.setRail_evSent (s : Dev) (n : Fin 48) (r : Rail) : (s.setRail n r).evSent = s.evSent := rfl
@[simp] theorem Dev.setRail_awake (s : Dev) (n : Fin 48) (r : Rail) : (s.setRail n r).awake = s.awake := rfl
@[simp] theorem Dev.setRail_watchExit (s : Dev) (n : Fin 48) (r : Rail) : (s.setRail n r).watchExit = s.watchExit := rfl
@[simp] theorem Dev.setRail_inrushUj (s : Dev) (n : Fin 48) (r : Rail) : (s.setRail n r).inrushUj = s.inrushUj := rfl
@[simp] theorem Dev.setRail_preqs (s : Dev) (n : Fin 48) (r : Rail) : (s.setRail n r).preqs = s.preqs := rfl
@[simp] theorem Dev.setRail_schedAt (s : Dev) (n : Fin 48) (r : Rail) : (s.setRail n r).schedAt = s.schedAt := rfl
@[simp] theorem Dev.setRail_holdO (s : Dev) (n : Fin 48) (r : Rail) : (s.setRail n r).holdO = s.holdO := rfl
@[simp] theorem Dev.setRail_holdE (s : Dev) (n : Fin 48) (r : Rail) : (s.setRail n r).holdE = s.holdE := rfl
@[simp] theorem Dev.setRail_holdAt (s : Dev) (n : Fin 48) (r : Rail) : (s.setRail n r).holdAt = s.holdAt := rfl
@[simp] theorem Dev.setRail_holdShort (s : Dev) (n : Fin 48) (r : Rail) : (s.setRail n r).holdShort = s.holdShort := rfl
@[simp] theorem Dev.setRail_heatRes (s : Dev) (n : Fin 48) (r : Rail) : (s.setRail n r).heatRes = s.heatRes := rfl
@[simp] theorem Dev.setRail_thUp (s : Dev) (n : Fin 48) (r : Rail) : (s.setRail n r).thUp = s.thUp := rfl
@[simp] theorem Dev.setRail_thDown (s : Dev) (n : Fin 48) (r : Rail) : (s.setRail n r).thDown = s.thDown := rfl
@[simp] theorem Dev.setRail_thTrip (s : Dev) (n : Fin 48) (r : Rail) : (s.setRail n r).thTrip = s.thTrip := rfl
@[simp] theorem Dev.setRail_thFloors (s : Dev) (n : Fin 48) (r : Rail) : (s.setRail n r).thFloors = s.thFloors := rfl
@[simp] theorem Dev.setRail_thHot (s : Dev) (n : Fin 48) (r : Rail) : (s.setRail n r).thHot = s.thHot := rfl
@[simp] theorem Dev.setRail_thCause (s : Dev) (n : Fin 48) (r : Rail) : (s.setRail n r).thCause = s.thCause := rfl
@[simp] theorem Dev.setRail_headMw (s : Dev) (n : Fin 48) (r : Rail) : (s.setRail n r).headMw = s.headMw := rfl
@[simp] theorem Dev.setRail_rstoAt (s : Dev) (n : Fin 48) (r : Rail) : (s.setRail n r).rstoAt = s.rstoAt := rfl
@[simp] theorem Dev.setRail_cascAt (s : Dev) (n : Fin 48) (r : Rail) : (s.setRail n r).cascAt = s.cascAt := rfl
@[simp] theorem Dev.setRail_seqIn (s : Dev) (n : Fin 48) (r : Rail) : (s.setRail n r).seqIn = s.seqIn := rfl
@[simp] theorem Dev.setRail_closeAt (s : Dev) (n : Fin 48) (r : Rail) : (s.setRail n r).closeAt = s.closeAt := rfl
@[simp] theorem Dev.setRail_sampled (s : Dev) (n : Fin 48) (r : Rail) : (s.setRail n r).sampled = s.sampled := rfl
@[simp] theorem Dev.setRail_vaultRails (s : Dev) (n : Fin 48) (r : Rail) : (s.setRail n r).vaultRails = s.vaultRails := rfl
@[simp] theorem Dev.setRail_vaultMargins (s : Dev) (n : Fin 48) (r : Rail) : (s.setRail n r).vaultMargins = s.vaultMargins := rfl
@[simp] theorem Dev.setRail_scs (s : Dev) (n : Fin 48) (r : Rail) : (s.setRail n r).scs = s.scs := rfl
@[simp] theorem Dev.setRail_phs (s : Dev) (n : Fin 48) (r : Rail) : (s.setRail n r).phs = s.phs := rfl
@[simp] theorem Dev.setRail_mdAt (s : Dev) (n : Fin 48) (r : Rail) : (s.setRail n r).mdAt = s.mdAt := rfl
@[simp] theorem Dev.setRail_mgEnd (s : Dev) (n : Fin 48) (r : Rail) : (s.setRail n r).mgEnd = s.mgEnd := rfl
@[simp] theorem Dev.setRail_pwr (s : Dev) (n : Fin 48) (r : Rail) : (s.setRail n r).pwr = s.pwr := rfl
@[simp] theorem Dev.setRail_checks (s : Dev) (n : Fin 48) (r : Rail) : (s.setRail n r).checks = s.checks := rfl
@[simp] theorem Dev.setRail_arch (s : Dev) (n : Fin 48) (r : Rail) : (s.setRail n r).arch = s.arch := rfl
@[simp] theorem Dev.setRail_iramBad (s : Dev) (n : Fin 48) (r : Rail) : (s.setRail n r).iramBad = s.iramBad := rfl
@[simp] theorem Dev.setRail_dramBad (s : Dev) (n : Fin 48) (r : Rail) : (s.setRail n r).dramBad = s.dramBad := rfl
@[simp] theorem Dev.setRail_ports (s : Dev) (n : Fin 48) (r : Rail) : (s.setRail n r).ports = s.ports := rfl
@[simp] theorem Dev.setRail_can (s : Dev) (n : Fin 48) (r : Rail) : (s.setRail n r).can = s.can := rfl
@[simp] theorem Dev.setRail_smbArl (s : Dev) (n : Fin 48) (r : Rail) : (s.setRail n r).smbArl = s.smbArl := rfl
@[simp] theorem Dev.setRail_tapIr (s : Dev) (n : Fin 48) (r : Rail) : (s.setRail n r).tapIr = s.tapIr := rfl
@[simp] theorem Dev.setRail_tapCells (s : Dev) (n : Fin 48) (r : Rail) : (s.setRail n r).tapCells = s.tapCells := rfl
@[simp] theorem Dev.setRail_tapIrOut (s : Dev) (n : Fin 48) (r : Rail) : (s.setRail n r).tapIrOut = s.tapIrOut := rfl
@[simp] theorem Dev.setRail_tapOut (s : Dev) (n : Fin 48) (r : Rail) : (s.setRail n r).tapOut = s.tapOut := rfl
@[simp] theorem Dev.setRail_teller (s : Dev) (n : Fin 48) (r : Rail) (j : Fin 8) : (s.setRail n r).teller j = s.teller j := rfl
@[simp] theorem Dev.setRail_door (s : Dev) (n : Fin 48) (r : Rail) (y : Fin 4) : (s.setRail n r).door y = s.door y := rfl
@[simp] theorem Dev.setRail_owner (s : Dev) (n : Fin 48) (r : Rail) (q : BitVec 8) : (s.setRail n r).owner q = s.owner q := rfl
@[simp] theorem Dev.setRail_cv (s : Dev) (n : Fin 48) (r : Rail) (z : Fin 6) : (s.setRail n r).cv z = s.cv z := rfl
@[simp] theorem Dev.setRail_cap (s : Dev) (n : Fin 48) (r : Rail) (z : Fin 6) : (s.setRail n r).cap z = s.cap z := rfl
@[simp] theorem Dev.setRail_sc (s : Dev) (n : Fin 48) (r : Rail) (m : Fin 8) : (s.setRail n r).sc m = s.sc m := rfl
@[simp] theorem Dev.setRail_ph (s : Dev) (n : Fin 48) (r : Rail) (q : Fin 24) : (s.setRail n r).ph q = s.ph q := rfl
@[simp] theorem Dev.setRail_port (s : Dev) (n : Fin 48) (r : Rail) (y : Fin 4) : (s.setRail n r).port y = s.port y := rfl
@[simp] theorem Dev.setRail_get (s : Dev) (n : Fin 48) (r : Rail) (g : Fld) : (s.setRail n r).get g = s.get g := rfl

@[simp] theorem Dev.setTeller_now (s : Dev) (k : Fin 8) (t : Teller) : (s.setTeller k t).now = s.now := rfl
@[simp] theorem Dev.setTeller_before (s : Dev) (k : Fin 8) (t : Teller) : (s.setTeller k t).before = s.before := rfl
@[simp] theorem Dev.setTeller_fresh (s : Dev) (k : Fin 8) (t : Teller) : (s.setTeller k t).fresh = s.fresh := rfl
@[simp] theorem Dev.setTeller_dev (s : Dev) (k : Fin 8) (t : Teller) : (s.setTeller k t).dev = s.dev := rfl
@[simp] theorem Dev.setTeller_regs (s : Dev) (k : Fin 8) (t : Teller) : (s.setTeller k t).regs = s.regs := rfl
@[simp] theorem Dev.setTeller_rails (s : Dev) (k : Fin 8) (t : Teller) : (s.setTeller k t).rails = s.rails := rfl
@[simp] theorem Dev.setTeller_owners (s : Dev) (k : Fin 8) (t : Teller) : (s.setTeller k t).owners = s.owners := rfl
@[simp] theorem Dev.setTeller_doors (s : Dev) (k : Fin 8) (t : Teller) : (s.setTeller k t).doors = s.doors := rfl
@[simp] theorem Dev.setTeller_vault (s : Dev) (k : Fin 8) (t : Teller) : (s.setTeller k t).vault = s.vault := rfl
@[simp] theorem Dev.setTeller_usecOn (s : Dev) (k : Fin 8) (t : Teller) : (s.setTeller k t).usecOn = s.usecOn := rfl
@[simp] theorem Dev.setTeller_usec0 (s : Dev) (k : Fin 8) (t : Teller) : (s.setTeller k t).usec0 = s.usec0 := rfl
@[simp] theorem Dev.setTeller_shadowAt (s : Dev) (k : Fin 8) (t : Teller) : (s.setTeller k t).shadowAt = s.shadowAt := rfl
@[simp] theorem Dev.setTeller_bootno (s : Dev) (k : Fin 8) (t : Teller) : (s.setTeller k t).bootno = s.bootno := rfl
@[simp] theorem Dev.setTeller_bootnoOk (s : Dev) (k : Fin 8) (t : Teller) : (s.setTeller k t).bootnoOk = s.bootnoOk := rfl
@[simp] theorem Dev.setTeller_trims (s : Dev) (k : Fin 8) (t : Teller) : (s.setTeller k t).trims = s.trims := rfl
@[simp] theorem Dev.setTeller_rev (s : Dev) (k : Fin 8) (t : Teller) : (s.setTeller k t).rev = s.rev := rfl
@[simp] theorem Dev.setTeller_angle (s : Dev) (k : Fin 8) (t : Teller) : (s.setTeller k t).angle = s.angle := rfl
@[simp] theorem Dev.setTeller_tal (s : Dev) (k : Fin 8) (t : Teller) : (s.setTeller k t).tal = s.tal := rfl
@[simp] theorem Dev.setTeller_shutters (s : Dev) (k : Fin 8) (t : Teller) : (s.setTeller k t).shutters = s.shutters := rfl
@[simp] theorem Dev.setTeller_cvs (s : Dev) (k : Fin 8) (t : Teller) : (s.setTeller k t).cvs = s.cvs := rfl
@[simp] theorem Dev.setTeller_caps (s : Dev) (k : Fin 8) (t : Teller) : (s.setTeller k t).caps = s.caps := rfl
@[simp] theorem Dev.setTeller_stats (s : Dev) (k : Fin 8) (t : Teller) : (s.setTeller k t).stats = s.stats := rfl
@[simp] theorem Dev.setTeller_statAt (s : Dev) (k : Fin 8) (t : Teller) : (s.setTeller k t).statAt = s.statAt := rfl
@[simp] theorem Dev.setTeller_statLen (s : Dev) (k : Fin 8) (t : Teller) : (s.setTeller k t).statLen = s.statLen := rfl
@[simp] theorem Dev.setTeller_cvFast (s : Dev) (k : Fin 8) (t : Teller) : (s.setTeller k t).cvFast = s.cvFast := rfl
@[simp] theorem Dev.setTeller_tickAt (s : Dev) (k : Fin 8) (t : Teller) : (s.setTeller k t).tickAt = s.tickAt := rfl
@[simp] theorem Dev.setTeller_jq (s : Dev) (k : Fin 8) (t : Teller) : (s.setTeller k t).jq = s.jq := rfl
@[simp] theorem Dev.setTeller_jIn (s : Dev) (k : Fin 8) (t : Teller) : (s.setTeller k t).jIn = s.jIn := rfl
@[simp] theorem Dev.setTeller_jLost (s : Dev) (k : Fin 8) (t : Teller) : (s.setTeller k t).jLost = s.jLost := rfl
@[simp] theorem Dev.setTeller_folio (s : Dev) (k : Fin 8) (t : Teller) : (s.setTeller k t).folio = s.folio := rfl
@[simp] theorem Dev.setTeller_folioVer (s : Dev) (k : Fin 8) (t : Teller) : (s.setTeller k t).folioVer = s.folioVer := rfl
@[simp] theorem Dev.setTeller_ledgBad (s : Dev) (k : Fin 8) (t : Teller) : (s.setTeller k t).ledgBad = s.ledgBad := rfl
@[simp] theorem Dev.setTeller_recent (s : Dev) (k : Fin 8) (t : Teller) : (s.setTeller k t).recent = s.recent := rfl
@[simp] theorem Dev.setTeller_v18ok (s : Dev) (k : Fin 8) (t : Teller) : (s.setTeller k t).v18ok = s.v18ok := rfl
@[simp] theorem Dev.setTeller_scrubAt (s : Dev) (k : Fin 8) (t : Teller) : (s.setTeller k t).scrubAt = s.scrubAt := rfl
@[simp] theorem Dev.setTeller_afill (s : Dev) (k : Fin 8) (t : Teller) : (s.setTeller k t).afill = s.afill := rfl
@[simp] theorem Dev.setTeller_wrapCopy (s : Dev) (k : Fin 8) (t : Teller) : (s.setTeller k t).wrapCopy = s.wrapCopy := rfl
@[simp] theorem Dev.setTeller_jck (s : Dev) (k : Fin 8) (t : Teller) : (s.setTeller k t).jck = s.jck := rfl
@[simp] theorem Dev.setTeller_folioDone (s : Dev) (k : Fin 8) (t : Teller) : (s.setTeller k t).folioDone = s.folioDone := rfl
@[simp] theorem Dev.setTeller_folioVdone (s : Dev) (k : Fin 8) (t : Teller) : (s.setTeller k t).folioVdone = s.folioVdone := rfl
@[simp] theorem Dev.setTeller_hday (s : Dev) (k : Fin 8) (t : Teller) : (s.setTeller k t).hday = s.hday := rfl
@[simp] theorem Dev.setTeller_hsaved (s : Dev) (k : Fin 8) (t : Teller) : (s.setTeller k t).hsaved = s.hsaved := rfl
@[simp] theorem Dev.setTeller_holder (s : Dev) (k : Fin 8) (t : Teller) : (s.setTeller k t).holder = s.holder := rfl
@[simp] theorem Dev.setTeller_hcopy (s : Dev) (k : Fin 8) (t : Teller) : (s.setTeller k t).hcopy = s.hcopy := rfl
@[simp] theorem Dev.setTeller_copyVer (s : Dev) (k : Fin 8) (t : Teller) : (s.setTeller k t).copyVer = s.copyVer := rfl
@[simp] theorem Dev.setTeller_hClean (s : Dev) (k : Fin 8) (t : Teller) : (s.setTeller k t).hClean = s.hClean := rfl
@[simp] theorem Dev.setTeller_calOpen (s : Dev) (k : Fin 8) (t : Teller) : (s.setTeller k t).calOpen = s.calOpen := rfl
@[simp] theorem Dev.setTeller_calKey (s : Dev) (k : Fin 8) (t : Teller) : (s.setTeller k t).calKey = s.calKey := rfl
@[simp] theorem Dev.setTeller_calDirty (s : Dev) (k : Fin 8) (t : Teller) : (s.setTeller k t).calDirty = s.calDirty := rfl
@[simp] theorem Dev.setTeller_probes (s : Dev) (k : Fin 8) (t : Teller) : (s.setTeller k t).probes = s.probes := rfl
@[simp] theorem Dev.setTeller_probing (s : Dev) (k : Fin 8) (t : Teller) : (s.setTeller k t).probing = s.probing := rfl
@[simp] theorem Dev.setTeller_lat (s : Dev) (k : Fin 8) (t : Teller) : (s.setTeller k t).lat = s.lat := rfl
@[simp] theorem Dev.setTeller_smbRel (s : Dev) (k : Fin 8) (t : Teller) : (s.setTeller k t).smbRel = s.smbRel := rfl
@[simp] theorem Dev.setTeller_evq (s : Dev) (k : Fin 8) (t : Teller) : (s.setTeller k t).evq = s.evq := rfl
@[simp] theorem Dev.setTeller_evOvf (s : Dev) (k : Fin 8) (t : Teller) : (s.setTeller k t).evOvf = s.evOvf := rfl
@[simp] theorem Dev.setTeller_evDropped (s : Dev) (k : Fin 8) (t : Teller) : (s.setTeller k t).evDropped = s.evDropped := rfl
@[simp] theorem Dev.setTeller_evSent (s : Dev) (k : Fin 8) (t : Teller) : (s.setTeller k t).evSent = s.evSent := rfl
@[simp] theorem Dev.setTeller_awake (s : Dev) (k : Fin 8) (t : Teller) : (s.setTeller k t).awake = s.awake := rfl
@[simp] theorem Dev.setTeller_watchExit (s : Dev) (k : Fin 8) (t : Teller) : (s.setTeller k t).watchExit = s.watchExit := rfl
@[simp] theorem Dev.setTeller_inrushUj (s : Dev) (k : Fin 8) (t : Teller) : (s.setTeller k t).inrushUj = s.inrushUj := rfl
@[simp] theorem Dev.setTeller_preqs (s : Dev) (k : Fin 8) (t : Teller) : (s.setTeller k t).preqs = s.preqs := rfl
@[simp] theorem Dev.setTeller_schedAt (s : Dev) (k : Fin 8) (t : Teller) : (s.setTeller k t).schedAt = s.schedAt := rfl
@[simp] theorem Dev.setTeller_holdO (s : Dev) (k : Fin 8) (t : Teller) : (s.setTeller k t).holdO = s.holdO := rfl
@[simp] theorem Dev.setTeller_holdE (s : Dev) (k : Fin 8) (t : Teller) : (s.setTeller k t).holdE = s.holdE := rfl
@[simp] theorem Dev.setTeller_holdAt (s : Dev) (k : Fin 8) (t : Teller) : (s.setTeller k t).holdAt = s.holdAt := rfl
@[simp] theorem Dev.setTeller_holdShort (s : Dev) (k : Fin 8) (t : Teller) : (s.setTeller k t).holdShort = s.holdShort := rfl
@[simp] theorem Dev.setTeller_heatRes (s : Dev) (k : Fin 8) (t : Teller) : (s.setTeller k t).heatRes = s.heatRes := rfl
@[simp] theorem Dev.setTeller_thUp (s : Dev) (k : Fin 8) (t : Teller) : (s.setTeller k t).thUp = s.thUp := rfl
@[simp] theorem Dev.setTeller_thDown (s : Dev) (k : Fin 8) (t : Teller) : (s.setTeller k t).thDown = s.thDown := rfl
@[simp] theorem Dev.setTeller_thTrip (s : Dev) (k : Fin 8) (t : Teller) : (s.setTeller k t).thTrip = s.thTrip := rfl
@[simp] theorem Dev.setTeller_thFloors (s : Dev) (k : Fin 8) (t : Teller) : (s.setTeller k t).thFloors = s.thFloors := rfl
@[simp] theorem Dev.setTeller_thHot (s : Dev) (k : Fin 8) (t : Teller) : (s.setTeller k t).thHot = s.thHot := rfl
@[simp] theorem Dev.setTeller_thCause (s : Dev) (k : Fin 8) (t : Teller) : (s.setTeller k t).thCause = s.thCause := rfl
@[simp] theorem Dev.setTeller_headMw (s : Dev) (k : Fin 8) (t : Teller) : (s.setTeller k t).headMw = s.headMw := rfl
@[simp] theorem Dev.setTeller_rstoAt (s : Dev) (k : Fin 8) (t : Teller) : (s.setTeller k t).rstoAt = s.rstoAt := rfl
@[simp] theorem Dev.setTeller_cascAt (s : Dev) (k : Fin 8) (t : Teller) : (s.setTeller k t).cascAt = s.cascAt := rfl
@[simp] theorem Dev.setTeller_seqIn (s : Dev) (k : Fin 8) (t : Teller) : (s.setTeller k t).seqIn = s.seqIn := rfl
@[simp] theorem Dev.setTeller_closeAt (s : Dev) (k : Fin 8) (t : Teller) : (s.setTeller k t).closeAt = s.closeAt := rfl
@[simp] theorem Dev.setTeller_sampled (s : Dev) (k : Fin 8) (t : Teller) : (s.setTeller k t).sampled = s.sampled := rfl
@[simp] theorem Dev.setTeller_vaultRails (s : Dev) (k : Fin 8) (t : Teller) : (s.setTeller k t).vaultRails = s.vaultRails := rfl
@[simp] theorem Dev.setTeller_vaultMargins (s : Dev) (k : Fin 8) (t : Teller) : (s.setTeller k t).vaultMargins = s.vaultMargins := rfl
@[simp] theorem Dev.setTeller_scs (s : Dev) (k : Fin 8) (t : Teller) : (s.setTeller k t).scs = s.scs := rfl
@[simp] theorem Dev.setTeller_phs (s : Dev) (k : Fin 8) (t : Teller) : (s.setTeller k t).phs = s.phs := rfl
@[simp] theorem Dev.setTeller_mdAt (s : Dev) (k : Fin 8) (t : Teller) : (s.setTeller k t).mdAt = s.mdAt := rfl
@[simp] theorem Dev.setTeller_mgEnd (s : Dev) (k : Fin 8) (t : Teller) : (s.setTeller k t).mgEnd = s.mgEnd := rfl
@[simp] theorem Dev.setTeller_pwr (s : Dev) (k : Fin 8) (t : Teller) : (s.setTeller k t).pwr = s.pwr := rfl
@[simp] theorem Dev.setTeller_checks (s : Dev) (k : Fin 8) (t : Teller) : (s.setTeller k t).checks = s.checks := rfl
@[simp] theorem Dev.setTeller_arch (s : Dev) (k : Fin 8) (t : Teller) : (s.setTeller k t).arch = s.arch := rfl
@[simp] theorem Dev.setTeller_iramBad (s : Dev) (k : Fin 8) (t : Teller) : (s.setTeller k t).iramBad = s.iramBad := rfl
@[simp] theorem Dev.setTeller_dramBad (s : Dev) (k : Fin 8) (t : Teller) : (s.setTeller k t).dramBad = s.dramBad := rfl
@[simp] theorem Dev.setTeller_ports (s : Dev) (k : Fin 8) (t : Teller) : (s.setTeller k t).ports = s.ports := rfl
@[simp] theorem Dev.setTeller_can (s : Dev) (k : Fin 8) (t : Teller) : (s.setTeller k t).can = s.can := rfl
@[simp] theorem Dev.setTeller_smbArl (s : Dev) (k : Fin 8) (t : Teller) : (s.setTeller k t).smbArl = s.smbArl := rfl
@[simp] theorem Dev.setTeller_tapIr (s : Dev) (k : Fin 8) (t : Teller) : (s.setTeller k t).tapIr = s.tapIr := rfl
@[simp] theorem Dev.setTeller_tapCells (s : Dev) (k : Fin 8) (t : Teller) : (s.setTeller k t).tapCells = s.tapCells := rfl
@[simp] theorem Dev.setTeller_tapIrOut (s : Dev) (k : Fin 8) (t : Teller) : (s.setTeller k t).tapIrOut = s.tapIrOut := rfl
@[simp] theorem Dev.setTeller_tapOut (s : Dev) (k : Fin 8) (t : Teller) : (s.setTeller k t).tapOut = s.tapOut := rfl
@[simp] theorem Dev.setTeller_rail (s : Dev) (k : Fin 8) (t : Teller) (m : Fin 48) : (s.setTeller k t).rail m = s.rail m := rfl
@[simp] theorem Dev.setTeller_door (s : Dev) (k : Fin 8) (t : Teller) (y : Fin 4) : (s.setTeller k t).door y = s.door y := rfl
@[simp] theorem Dev.setTeller_owner (s : Dev) (k : Fin 8) (t : Teller) (q : BitVec 8) : (s.setTeller k t).owner q = s.owner q := rfl
@[simp] theorem Dev.setTeller_cv (s : Dev) (k : Fin 8) (t : Teller) (z : Fin 6) : (s.setTeller k t).cv z = s.cv z := rfl
@[simp] theorem Dev.setTeller_cap (s : Dev) (k : Fin 8) (t : Teller) (z : Fin 6) : (s.setTeller k t).cap z = s.cap z := rfl
@[simp] theorem Dev.setTeller_sc (s : Dev) (k : Fin 8) (t : Teller) (m : Fin 8) : (s.setTeller k t).sc m = s.sc m := rfl
@[simp] theorem Dev.setTeller_ph (s : Dev) (k : Fin 8) (t : Teller) (q : Fin 24) : (s.setTeller k t).ph q = s.ph q := rfl
@[simp] theorem Dev.setTeller_port (s : Dev) (k : Fin 8) (t : Teller) (y : Fin 4) : (s.setTeller k t).port y = s.port y := rfl
@[simp] theorem Dev.setTeller_get (s : Dev) (k : Fin 8) (t : Teller) (g : Fld) : (s.setTeller k t).get g = s.get g := rfl

@[simp] theorem Dev.setDoor_now (s : Dev) (d : Fin 4) (x : Door) : (s.setDoor d x).now = s.now := rfl
@[simp] theorem Dev.setDoor_before (s : Dev) (d : Fin 4) (x : Door) : (s.setDoor d x).before = s.before := rfl
@[simp] theorem Dev.setDoor_fresh (s : Dev) (d : Fin 4) (x : Door) : (s.setDoor d x).fresh = s.fresh := rfl
@[simp] theorem Dev.setDoor_dev (s : Dev) (d : Fin 4) (x : Door) : (s.setDoor d x).dev = s.dev := rfl
@[simp] theorem Dev.setDoor_regs (s : Dev) (d : Fin 4) (x : Door) : (s.setDoor d x).regs = s.regs := rfl
@[simp] theorem Dev.setDoor_rails (s : Dev) (d : Fin 4) (x : Door) : (s.setDoor d x).rails = s.rails := rfl
@[simp] theorem Dev.setDoor_tellers (s : Dev) (d : Fin 4) (x : Door) : (s.setDoor d x).tellers = s.tellers := rfl
@[simp] theorem Dev.setDoor_owners (s : Dev) (d : Fin 4) (x : Door) : (s.setDoor d x).owners = s.owners := rfl
@[simp] theorem Dev.setDoor_vault (s : Dev) (d : Fin 4) (x : Door) : (s.setDoor d x).vault = s.vault := rfl
@[simp] theorem Dev.setDoor_usecOn (s : Dev) (d : Fin 4) (x : Door) : (s.setDoor d x).usecOn = s.usecOn := rfl
@[simp] theorem Dev.setDoor_usec0 (s : Dev) (d : Fin 4) (x : Door) : (s.setDoor d x).usec0 = s.usec0 := rfl
@[simp] theorem Dev.setDoor_shadowAt (s : Dev) (d : Fin 4) (x : Door) : (s.setDoor d x).shadowAt = s.shadowAt := rfl
@[simp] theorem Dev.setDoor_bootno (s : Dev) (d : Fin 4) (x : Door) : (s.setDoor d x).bootno = s.bootno := rfl
@[simp] theorem Dev.setDoor_bootnoOk (s : Dev) (d : Fin 4) (x : Door) : (s.setDoor d x).bootnoOk = s.bootnoOk := rfl
@[simp] theorem Dev.setDoor_trims (s : Dev) (d : Fin 4) (x : Door) : (s.setDoor d x).trims = s.trims := rfl
@[simp] theorem Dev.setDoor_rev (s : Dev) (d : Fin 4) (x : Door) : (s.setDoor d x).rev = s.rev := rfl
@[simp] theorem Dev.setDoor_angle (s : Dev) (d : Fin 4) (x : Door) : (s.setDoor d x).angle = s.angle := rfl
@[simp] theorem Dev.setDoor_tal (s : Dev) (d : Fin 4) (x : Door) : (s.setDoor d x).tal = s.tal := rfl
@[simp] theorem Dev.setDoor_shutters (s : Dev) (d : Fin 4) (x : Door) : (s.setDoor d x).shutters = s.shutters := rfl
@[simp] theorem Dev.setDoor_cvs (s : Dev) (d : Fin 4) (x : Door) : (s.setDoor d x).cvs = s.cvs := rfl
@[simp] theorem Dev.setDoor_caps (s : Dev) (d : Fin 4) (x : Door) : (s.setDoor d x).caps = s.caps := rfl
@[simp] theorem Dev.setDoor_stats (s : Dev) (d : Fin 4) (x : Door) : (s.setDoor d x).stats = s.stats := rfl
@[simp] theorem Dev.setDoor_statAt (s : Dev) (d : Fin 4) (x : Door) : (s.setDoor d x).statAt = s.statAt := rfl
@[simp] theorem Dev.setDoor_statLen (s : Dev) (d : Fin 4) (x : Door) : (s.setDoor d x).statLen = s.statLen := rfl
@[simp] theorem Dev.setDoor_cvFast (s : Dev) (d : Fin 4) (x : Door) : (s.setDoor d x).cvFast = s.cvFast := rfl
@[simp] theorem Dev.setDoor_tickAt (s : Dev) (d : Fin 4) (x : Door) : (s.setDoor d x).tickAt = s.tickAt := rfl
@[simp] theorem Dev.setDoor_jq (s : Dev) (d : Fin 4) (x : Door) : (s.setDoor d x).jq = s.jq := rfl
@[simp] theorem Dev.setDoor_jIn (s : Dev) (d : Fin 4) (x : Door) : (s.setDoor d x).jIn = s.jIn := rfl
@[simp] theorem Dev.setDoor_jLost (s : Dev) (d : Fin 4) (x : Door) : (s.setDoor d x).jLost = s.jLost := rfl
@[simp] theorem Dev.setDoor_folio (s : Dev) (d : Fin 4) (x : Door) : (s.setDoor d x).folio = s.folio := rfl
@[simp] theorem Dev.setDoor_folioVer (s : Dev) (d : Fin 4) (x : Door) : (s.setDoor d x).folioVer = s.folioVer := rfl
@[simp] theorem Dev.setDoor_ledgBad (s : Dev) (d : Fin 4) (x : Door) : (s.setDoor d x).ledgBad = s.ledgBad := rfl
@[simp] theorem Dev.setDoor_recent (s : Dev) (d : Fin 4) (x : Door) : (s.setDoor d x).recent = s.recent := rfl
@[simp] theorem Dev.setDoor_v18ok (s : Dev) (d : Fin 4) (x : Door) : (s.setDoor d x).v18ok = s.v18ok := rfl
@[simp] theorem Dev.setDoor_scrubAt (s : Dev) (d : Fin 4) (x : Door) : (s.setDoor d x).scrubAt = s.scrubAt := rfl
@[simp] theorem Dev.setDoor_afill (s : Dev) (d : Fin 4) (x : Door) : (s.setDoor d x).afill = s.afill := rfl
@[simp] theorem Dev.setDoor_wrapCopy (s : Dev) (d : Fin 4) (x : Door) : (s.setDoor d x).wrapCopy = s.wrapCopy := rfl
@[simp] theorem Dev.setDoor_jck (s : Dev) (d : Fin 4) (x : Door) : (s.setDoor d x).jck = s.jck := rfl
@[simp] theorem Dev.setDoor_folioDone (s : Dev) (d : Fin 4) (x : Door) : (s.setDoor d x).folioDone = s.folioDone := rfl
@[simp] theorem Dev.setDoor_folioVdone (s : Dev) (d : Fin 4) (x : Door) : (s.setDoor d x).folioVdone = s.folioVdone := rfl
@[simp] theorem Dev.setDoor_hday (s : Dev) (d : Fin 4) (x : Door) : (s.setDoor d x).hday = s.hday := rfl
@[simp] theorem Dev.setDoor_hsaved (s : Dev) (d : Fin 4) (x : Door) : (s.setDoor d x).hsaved = s.hsaved := rfl
@[simp] theorem Dev.setDoor_holder (s : Dev) (d : Fin 4) (x : Door) : (s.setDoor d x).holder = s.holder := rfl
@[simp] theorem Dev.setDoor_hcopy (s : Dev) (d : Fin 4) (x : Door) : (s.setDoor d x).hcopy = s.hcopy := rfl
@[simp] theorem Dev.setDoor_copyVer (s : Dev) (d : Fin 4) (x : Door) : (s.setDoor d x).copyVer = s.copyVer := rfl
@[simp] theorem Dev.setDoor_hClean (s : Dev) (d : Fin 4) (x : Door) : (s.setDoor d x).hClean = s.hClean := rfl
@[simp] theorem Dev.setDoor_calOpen (s : Dev) (d : Fin 4) (x : Door) : (s.setDoor d x).calOpen = s.calOpen := rfl
@[simp] theorem Dev.setDoor_calKey (s : Dev) (d : Fin 4) (x : Door) : (s.setDoor d x).calKey = s.calKey := rfl
@[simp] theorem Dev.setDoor_calDirty (s : Dev) (d : Fin 4) (x : Door) : (s.setDoor d x).calDirty = s.calDirty := rfl
@[simp] theorem Dev.setDoor_probes (s : Dev) (d : Fin 4) (x : Door) : (s.setDoor d x).probes = s.probes := rfl
@[simp] theorem Dev.setDoor_probing (s : Dev) (d : Fin 4) (x : Door) : (s.setDoor d x).probing = s.probing := rfl
@[simp] theorem Dev.setDoor_lat (s : Dev) (d : Fin 4) (x : Door) : (s.setDoor d x).lat = s.lat := rfl
@[simp] theorem Dev.setDoor_smbRel (s : Dev) (d : Fin 4) (x : Door) : (s.setDoor d x).smbRel = s.smbRel := rfl
@[simp] theorem Dev.setDoor_evq (s : Dev) (d : Fin 4) (x : Door) : (s.setDoor d x).evq = s.evq := rfl
@[simp] theorem Dev.setDoor_evOvf (s : Dev) (d : Fin 4) (x : Door) : (s.setDoor d x).evOvf = s.evOvf := rfl
@[simp] theorem Dev.setDoor_evDropped (s : Dev) (d : Fin 4) (x : Door) : (s.setDoor d x).evDropped = s.evDropped := rfl
@[simp] theorem Dev.setDoor_evSent (s : Dev) (d : Fin 4) (x : Door) : (s.setDoor d x).evSent = s.evSent := rfl
@[simp] theorem Dev.setDoor_awake (s : Dev) (d : Fin 4) (x : Door) : (s.setDoor d x).awake = s.awake := rfl
@[simp] theorem Dev.setDoor_watchExit (s : Dev) (d : Fin 4) (x : Door) : (s.setDoor d x).watchExit = s.watchExit := rfl
@[simp] theorem Dev.setDoor_inrushUj (s : Dev) (d : Fin 4) (x : Door) : (s.setDoor d x).inrushUj = s.inrushUj := rfl
@[simp] theorem Dev.setDoor_preqs (s : Dev) (d : Fin 4) (x : Door) : (s.setDoor d x).preqs = s.preqs := rfl
@[simp] theorem Dev.setDoor_schedAt (s : Dev) (d : Fin 4) (x : Door) : (s.setDoor d x).schedAt = s.schedAt := rfl
@[simp] theorem Dev.setDoor_holdO (s : Dev) (d : Fin 4) (x : Door) : (s.setDoor d x).holdO = s.holdO := rfl
@[simp] theorem Dev.setDoor_holdE (s : Dev) (d : Fin 4) (x : Door) : (s.setDoor d x).holdE = s.holdE := rfl
@[simp] theorem Dev.setDoor_holdAt (s : Dev) (d : Fin 4) (x : Door) : (s.setDoor d x).holdAt = s.holdAt := rfl
@[simp] theorem Dev.setDoor_holdShort (s : Dev) (d : Fin 4) (x : Door) : (s.setDoor d x).holdShort = s.holdShort := rfl
@[simp] theorem Dev.setDoor_heatRes (s : Dev) (d : Fin 4) (x : Door) : (s.setDoor d x).heatRes = s.heatRes := rfl
@[simp] theorem Dev.setDoor_thUp (s : Dev) (d : Fin 4) (x : Door) : (s.setDoor d x).thUp = s.thUp := rfl
@[simp] theorem Dev.setDoor_thDown (s : Dev) (d : Fin 4) (x : Door) : (s.setDoor d x).thDown = s.thDown := rfl
@[simp] theorem Dev.setDoor_thTrip (s : Dev) (d : Fin 4) (x : Door) : (s.setDoor d x).thTrip = s.thTrip := rfl
@[simp] theorem Dev.setDoor_thFloors (s : Dev) (d : Fin 4) (x : Door) : (s.setDoor d x).thFloors = s.thFloors := rfl
@[simp] theorem Dev.setDoor_thHot (s : Dev) (d : Fin 4) (x : Door) : (s.setDoor d x).thHot = s.thHot := rfl
@[simp] theorem Dev.setDoor_thCause (s : Dev) (d : Fin 4) (x : Door) : (s.setDoor d x).thCause = s.thCause := rfl
@[simp] theorem Dev.setDoor_headMw (s : Dev) (d : Fin 4) (x : Door) : (s.setDoor d x).headMw = s.headMw := rfl
@[simp] theorem Dev.setDoor_rstoAt (s : Dev) (d : Fin 4) (x : Door) : (s.setDoor d x).rstoAt = s.rstoAt := rfl
@[simp] theorem Dev.setDoor_cascAt (s : Dev) (d : Fin 4) (x : Door) : (s.setDoor d x).cascAt = s.cascAt := rfl
@[simp] theorem Dev.setDoor_seqIn (s : Dev) (d : Fin 4) (x : Door) : (s.setDoor d x).seqIn = s.seqIn := rfl
@[simp] theorem Dev.setDoor_closeAt (s : Dev) (d : Fin 4) (x : Door) : (s.setDoor d x).closeAt = s.closeAt := rfl
@[simp] theorem Dev.setDoor_sampled (s : Dev) (d : Fin 4) (x : Door) : (s.setDoor d x).sampled = s.sampled := rfl
@[simp] theorem Dev.setDoor_vaultRails (s : Dev) (d : Fin 4) (x : Door) : (s.setDoor d x).vaultRails = s.vaultRails := rfl
@[simp] theorem Dev.setDoor_vaultMargins (s : Dev) (d : Fin 4) (x : Door) : (s.setDoor d x).vaultMargins = s.vaultMargins := rfl
@[simp] theorem Dev.setDoor_scs (s : Dev) (d : Fin 4) (x : Door) : (s.setDoor d x).scs = s.scs := rfl
@[simp] theorem Dev.setDoor_phs (s : Dev) (d : Fin 4) (x : Door) : (s.setDoor d x).phs = s.phs := rfl
@[simp] theorem Dev.setDoor_mdAt (s : Dev) (d : Fin 4) (x : Door) : (s.setDoor d x).mdAt = s.mdAt := rfl
@[simp] theorem Dev.setDoor_mgEnd (s : Dev) (d : Fin 4) (x : Door) : (s.setDoor d x).mgEnd = s.mgEnd := rfl
@[simp] theorem Dev.setDoor_pwr (s : Dev) (d : Fin 4) (x : Door) : (s.setDoor d x).pwr = s.pwr := rfl
@[simp] theorem Dev.setDoor_checks (s : Dev) (d : Fin 4) (x : Door) : (s.setDoor d x).checks = s.checks := rfl
@[simp] theorem Dev.setDoor_arch (s : Dev) (d : Fin 4) (x : Door) : (s.setDoor d x).arch = s.arch := rfl
@[simp] theorem Dev.setDoor_iramBad (s : Dev) (d : Fin 4) (x : Door) : (s.setDoor d x).iramBad = s.iramBad := rfl
@[simp] theorem Dev.setDoor_dramBad (s : Dev) (d : Fin 4) (x : Door) : (s.setDoor d x).dramBad = s.dramBad := rfl
@[simp] theorem Dev.setDoor_ports (s : Dev) (d : Fin 4) (x : Door) : (s.setDoor d x).ports = s.ports := rfl
@[simp] theorem Dev.setDoor_can (s : Dev) (d : Fin 4) (x : Door) : (s.setDoor d x).can = s.can := rfl
@[simp] theorem Dev.setDoor_smbArl (s : Dev) (d : Fin 4) (x : Door) : (s.setDoor d x).smbArl = s.smbArl := rfl
@[simp] theorem Dev.setDoor_tapIr (s : Dev) (d : Fin 4) (x : Door) : (s.setDoor d x).tapIr = s.tapIr := rfl
@[simp] theorem Dev.setDoor_tapCells (s : Dev) (d : Fin 4) (x : Door) : (s.setDoor d x).tapCells = s.tapCells := rfl
@[simp] theorem Dev.setDoor_tapIrOut (s : Dev) (d : Fin 4) (x : Door) : (s.setDoor d x).tapIrOut = s.tapIrOut := rfl
@[simp] theorem Dev.setDoor_tapOut (s : Dev) (d : Fin 4) (x : Door) : (s.setDoor d x).tapOut = s.tapOut := rfl
@[simp] theorem Dev.setDoor_rail (s : Dev) (d : Fin 4) (x : Door) (m : Fin 48) : (s.setDoor d x).rail m = s.rail m := rfl
@[simp] theorem Dev.setDoor_teller (s : Dev) (d : Fin 4) (x : Door) (j : Fin 8) : (s.setDoor d x).teller j = s.teller j := rfl
@[simp] theorem Dev.setDoor_owner (s : Dev) (d : Fin 4) (x : Door) (q : BitVec 8) : (s.setDoor d x).owner q = s.owner q := rfl
@[simp] theorem Dev.setDoor_cv (s : Dev) (d : Fin 4) (x : Door) (z : Fin 6) : (s.setDoor d x).cv z = s.cv z := rfl
@[simp] theorem Dev.setDoor_cap (s : Dev) (d : Fin 4) (x : Door) (z : Fin 6) : (s.setDoor d x).cap z = s.cap z := rfl
@[simp] theorem Dev.setDoor_sc (s : Dev) (d : Fin 4) (x : Door) (m : Fin 8) : (s.setDoor d x).sc m = s.sc m := rfl
@[simp] theorem Dev.setDoor_ph (s : Dev) (d : Fin 4) (x : Door) (q : Fin 24) : (s.setDoor d x).ph q = s.ph q := rfl
@[simp] theorem Dev.setDoor_port (s : Dev) (d : Fin 4) (x : Door) (y : Fin 4) : (s.setDoor d x).port y = s.port y := rfl
@[simp] theorem Dev.setDoor_get (s : Dev) (d : Fin 4) (x : Door) (g : Fld) : (s.setDoor d x).get g = s.get g := rfl

@[simp] theorem Dev.setOwner_now (s : Dev) (r : BitVec 8) (o : Owner) : (s.setOwner r o).now = s.now := rfl
@[simp] theorem Dev.setOwner_before (s : Dev) (r : BitVec 8) (o : Owner) : (s.setOwner r o).before = s.before := rfl
@[simp] theorem Dev.setOwner_fresh (s : Dev) (r : BitVec 8) (o : Owner) : (s.setOwner r o).fresh = s.fresh := rfl
@[simp] theorem Dev.setOwner_dev (s : Dev) (r : BitVec 8) (o : Owner) : (s.setOwner r o).dev = s.dev := rfl
@[simp] theorem Dev.setOwner_regs (s : Dev) (r : BitVec 8) (o : Owner) : (s.setOwner r o).regs = s.regs := rfl
@[simp] theorem Dev.setOwner_rails (s : Dev) (r : BitVec 8) (o : Owner) : (s.setOwner r o).rails = s.rails := rfl
@[simp] theorem Dev.setOwner_tellers (s : Dev) (r : BitVec 8) (o : Owner) : (s.setOwner r o).tellers = s.tellers := rfl
@[simp] theorem Dev.setOwner_doors (s : Dev) (r : BitVec 8) (o : Owner) : (s.setOwner r o).doors = s.doors := rfl
@[simp] theorem Dev.setOwner_vault (s : Dev) (r : BitVec 8) (o : Owner) : (s.setOwner r o).vault = s.vault := rfl
@[simp] theorem Dev.setOwner_usecOn (s : Dev) (r : BitVec 8) (o : Owner) : (s.setOwner r o).usecOn = s.usecOn := rfl
@[simp] theorem Dev.setOwner_usec0 (s : Dev) (r : BitVec 8) (o : Owner) : (s.setOwner r o).usec0 = s.usec0 := rfl
@[simp] theorem Dev.setOwner_shadowAt (s : Dev) (r : BitVec 8) (o : Owner) : (s.setOwner r o).shadowAt = s.shadowAt := rfl
@[simp] theorem Dev.setOwner_bootno (s : Dev) (r : BitVec 8) (o : Owner) : (s.setOwner r o).bootno = s.bootno := rfl
@[simp] theorem Dev.setOwner_bootnoOk (s : Dev) (r : BitVec 8) (o : Owner) : (s.setOwner r o).bootnoOk = s.bootnoOk := rfl
@[simp] theorem Dev.setOwner_trims (s : Dev) (r : BitVec 8) (o : Owner) : (s.setOwner r o).trims = s.trims := rfl
@[simp] theorem Dev.setOwner_rev (s : Dev) (r : BitVec 8) (o : Owner) : (s.setOwner r o).rev = s.rev := rfl
@[simp] theorem Dev.setOwner_angle (s : Dev) (r : BitVec 8) (o : Owner) : (s.setOwner r o).angle = s.angle := rfl
@[simp] theorem Dev.setOwner_tal (s : Dev) (r : BitVec 8) (o : Owner) : (s.setOwner r o).tal = s.tal := rfl
@[simp] theorem Dev.setOwner_shutters (s : Dev) (r : BitVec 8) (o : Owner) : (s.setOwner r o).shutters = s.shutters := rfl
@[simp] theorem Dev.setOwner_cvs (s : Dev) (r : BitVec 8) (o : Owner) : (s.setOwner r o).cvs = s.cvs := rfl
@[simp] theorem Dev.setOwner_caps (s : Dev) (r : BitVec 8) (o : Owner) : (s.setOwner r o).caps = s.caps := rfl
@[simp] theorem Dev.setOwner_stats (s : Dev) (r : BitVec 8) (o : Owner) : (s.setOwner r o).stats = s.stats := rfl
@[simp] theorem Dev.setOwner_statAt (s : Dev) (r : BitVec 8) (o : Owner) : (s.setOwner r o).statAt = s.statAt := rfl
@[simp] theorem Dev.setOwner_statLen (s : Dev) (r : BitVec 8) (o : Owner) : (s.setOwner r o).statLen = s.statLen := rfl
@[simp] theorem Dev.setOwner_cvFast (s : Dev) (r : BitVec 8) (o : Owner) : (s.setOwner r o).cvFast = s.cvFast := rfl
@[simp] theorem Dev.setOwner_tickAt (s : Dev) (r : BitVec 8) (o : Owner) : (s.setOwner r o).tickAt = s.tickAt := rfl
@[simp] theorem Dev.setOwner_jq (s : Dev) (r : BitVec 8) (o : Owner) : (s.setOwner r o).jq = s.jq := rfl
@[simp] theorem Dev.setOwner_jIn (s : Dev) (r : BitVec 8) (o : Owner) : (s.setOwner r o).jIn = s.jIn := rfl
@[simp] theorem Dev.setOwner_jLost (s : Dev) (r : BitVec 8) (o : Owner) : (s.setOwner r o).jLost = s.jLost := rfl
@[simp] theorem Dev.setOwner_folio (s : Dev) (r : BitVec 8) (o : Owner) : (s.setOwner r o).folio = s.folio := rfl
@[simp] theorem Dev.setOwner_folioVer (s : Dev) (r : BitVec 8) (o : Owner) : (s.setOwner r o).folioVer = s.folioVer := rfl
@[simp] theorem Dev.setOwner_ledgBad (s : Dev) (r : BitVec 8) (o : Owner) : (s.setOwner r o).ledgBad = s.ledgBad := rfl
@[simp] theorem Dev.setOwner_recent (s : Dev) (r : BitVec 8) (o : Owner) : (s.setOwner r o).recent = s.recent := rfl
@[simp] theorem Dev.setOwner_v18ok (s : Dev) (r : BitVec 8) (o : Owner) : (s.setOwner r o).v18ok = s.v18ok := rfl
@[simp] theorem Dev.setOwner_scrubAt (s : Dev) (r : BitVec 8) (o : Owner) : (s.setOwner r o).scrubAt = s.scrubAt := rfl
@[simp] theorem Dev.setOwner_afill (s : Dev) (r : BitVec 8) (o : Owner) : (s.setOwner r o).afill = s.afill := rfl
@[simp] theorem Dev.setOwner_wrapCopy (s : Dev) (r : BitVec 8) (o : Owner) : (s.setOwner r o).wrapCopy = s.wrapCopy := rfl
@[simp] theorem Dev.setOwner_jck (s : Dev) (r : BitVec 8) (o : Owner) : (s.setOwner r o).jck = s.jck := rfl
@[simp] theorem Dev.setOwner_folioDone (s : Dev) (r : BitVec 8) (o : Owner) : (s.setOwner r o).folioDone = s.folioDone := rfl
@[simp] theorem Dev.setOwner_folioVdone (s : Dev) (r : BitVec 8) (o : Owner) : (s.setOwner r o).folioVdone = s.folioVdone := rfl
@[simp] theorem Dev.setOwner_hday (s : Dev) (r : BitVec 8) (o : Owner) : (s.setOwner r o).hday = s.hday := rfl
@[simp] theorem Dev.setOwner_hsaved (s : Dev) (r : BitVec 8) (o : Owner) : (s.setOwner r o).hsaved = s.hsaved := rfl
@[simp] theorem Dev.setOwner_holder (s : Dev) (r : BitVec 8) (o : Owner) : (s.setOwner r o).holder = s.holder := rfl
@[simp] theorem Dev.setOwner_hcopy (s : Dev) (r : BitVec 8) (o : Owner) : (s.setOwner r o).hcopy = s.hcopy := rfl
@[simp] theorem Dev.setOwner_copyVer (s : Dev) (r : BitVec 8) (o : Owner) : (s.setOwner r o).copyVer = s.copyVer := rfl
@[simp] theorem Dev.setOwner_hClean (s : Dev) (r : BitVec 8) (o : Owner) : (s.setOwner r o).hClean = s.hClean := rfl
@[simp] theorem Dev.setOwner_calOpen (s : Dev) (r : BitVec 8) (o : Owner) : (s.setOwner r o).calOpen = s.calOpen := rfl
@[simp] theorem Dev.setOwner_calKey (s : Dev) (r : BitVec 8) (o : Owner) : (s.setOwner r o).calKey = s.calKey := rfl
@[simp] theorem Dev.setOwner_calDirty (s : Dev) (r : BitVec 8) (o : Owner) : (s.setOwner r o).calDirty = s.calDirty := rfl
@[simp] theorem Dev.setOwner_probes (s : Dev) (r : BitVec 8) (o : Owner) : (s.setOwner r o).probes = s.probes := rfl
@[simp] theorem Dev.setOwner_probing (s : Dev) (r : BitVec 8) (o : Owner) : (s.setOwner r o).probing = s.probing := rfl
@[simp] theorem Dev.setOwner_lat (s : Dev) (r : BitVec 8) (o : Owner) : (s.setOwner r o).lat = s.lat := rfl
@[simp] theorem Dev.setOwner_smbRel (s : Dev) (r : BitVec 8) (o : Owner) : (s.setOwner r o).smbRel = s.smbRel := rfl
@[simp] theorem Dev.setOwner_evq (s : Dev) (r : BitVec 8) (o : Owner) : (s.setOwner r o).evq = s.evq := rfl
@[simp] theorem Dev.setOwner_evOvf (s : Dev) (r : BitVec 8) (o : Owner) : (s.setOwner r o).evOvf = s.evOvf := rfl
@[simp] theorem Dev.setOwner_evDropped (s : Dev) (r : BitVec 8) (o : Owner) : (s.setOwner r o).evDropped = s.evDropped := rfl
@[simp] theorem Dev.setOwner_evSent (s : Dev) (r : BitVec 8) (o : Owner) : (s.setOwner r o).evSent = s.evSent := rfl
@[simp] theorem Dev.setOwner_awake (s : Dev) (r : BitVec 8) (o : Owner) : (s.setOwner r o).awake = s.awake := rfl
@[simp] theorem Dev.setOwner_watchExit (s : Dev) (r : BitVec 8) (o : Owner) : (s.setOwner r o).watchExit = s.watchExit := rfl
@[simp] theorem Dev.setOwner_inrushUj (s : Dev) (r : BitVec 8) (o : Owner) : (s.setOwner r o).inrushUj = s.inrushUj := rfl
@[simp] theorem Dev.setOwner_preqs (s : Dev) (r : BitVec 8) (o : Owner) : (s.setOwner r o).preqs = s.preqs := rfl
@[simp] theorem Dev.setOwner_schedAt (s : Dev) (r : BitVec 8) (o : Owner) : (s.setOwner r o).schedAt = s.schedAt := rfl
@[simp] theorem Dev.setOwner_holdO (s : Dev) (r : BitVec 8) (o : Owner) : (s.setOwner r o).holdO = s.holdO := rfl
@[simp] theorem Dev.setOwner_holdE (s : Dev) (r : BitVec 8) (o : Owner) : (s.setOwner r o).holdE = s.holdE := rfl
@[simp] theorem Dev.setOwner_holdAt (s : Dev) (r : BitVec 8) (o : Owner) : (s.setOwner r o).holdAt = s.holdAt := rfl
@[simp] theorem Dev.setOwner_holdShort (s : Dev) (r : BitVec 8) (o : Owner) : (s.setOwner r o).holdShort = s.holdShort := rfl
@[simp] theorem Dev.setOwner_heatRes (s : Dev) (r : BitVec 8) (o : Owner) : (s.setOwner r o).heatRes = s.heatRes := rfl
@[simp] theorem Dev.setOwner_thUp (s : Dev) (r : BitVec 8) (o : Owner) : (s.setOwner r o).thUp = s.thUp := rfl
@[simp] theorem Dev.setOwner_thDown (s : Dev) (r : BitVec 8) (o : Owner) : (s.setOwner r o).thDown = s.thDown := rfl
@[simp] theorem Dev.setOwner_thTrip (s : Dev) (r : BitVec 8) (o : Owner) : (s.setOwner r o).thTrip = s.thTrip := rfl
@[simp] theorem Dev.setOwner_thFloors (s : Dev) (r : BitVec 8) (o : Owner) : (s.setOwner r o).thFloors = s.thFloors := rfl
@[simp] theorem Dev.setOwner_thHot (s : Dev) (r : BitVec 8) (o : Owner) : (s.setOwner r o).thHot = s.thHot := rfl
@[simp] theorem Dev.setOwner_thCause (s : Dev) (r : BitVec 8) (o : Owner) : (s.setOwner r o).thCause = s.thCause := rfl
@[simp] theorem Dev.setOwner_headMw (s : Dev) (r : BitVec 8) (o : Owner) : (s.setOwner r o).headMw = s.headMw := rfl
@[simp] theorem Dev.setOwner_rstoAt (s : Dev) (r : BitVec 8) (o : Owner) : (s.setOwner r o).rstoAt = s.rstoAt := rfl
@[simp] theorem Dev.setOwner_cascAt (s : Dev) (r : BitVec 8) (o : Owner) : (s.setOwner r o).cascAt = s.cascAt := rfl
@[simp] theorem Dev.setOwner_seqIn (s : Dev) (r : BitVec 8) (o : Owner) : (s.setOwner r o).seqIn = s.seqIn := rfl
@[simp] theorem Dev.setOwner_closeAt (s : Dev) (r : BitVec 8) (o : Owner) : (s.setOwner r o).closeAt = s.closeAt := rfl
@[simp] theorem Dev.setOwner_sampled (s : Dev) (r : BitVec 8) (o : Owner) : (s.setOwner r o).sampled = s.sampled := rfl
@[simp] theorem Dev.setOwner_vaultRails (s : Dev) (r : BitVec 8) (o : Owner) : (s.setOwner r o).vaultRails = s.vaultRails := rfl
@[simp] theorem Dev.setOwner_vaultMargins (s : Dev) (r : BitVec 8) (o : Owner) : (s.setOwner r o).vaultMargins = s.vaultMargins := rfl
@[simp] theorem Dev.setOwner_scs (s : Dev) (r : BitVec 8) (o : Owner) : (s.setOwner r o).scs = s.scs := rfl
@[simp] theorem Dev.setOwner_phs (s : Dev) (r : BitVec 8) (o : Owner) : (s.setOwner r o).phs = s.phs := rfl
@[simp] theorem Dev.setOwner_mdAt (s : Dev) (r : BitVec 8) (o : Owner) : (s.setOwner r o).mdAt = s.mdAt := rfl
@[simp] theorem Dev.setOwner_mgEnd (s : Dev) (r : BitVec 8) (o : Owner) : (s.setOwner r o).mgEnd = s.mgEnd := rfl
@[simp] theorem Dev.setOwner_pwr (s : Dev) (r : BitVec 8) (o : Owner) : (s.setOwner r o).pwr = s.pwr := rfl
@[simp] theorem Dev.setOwner_checks (s : Dev) (r : BitVec 8) (o : Owner) : (s.setOwner r o).checks = s.checks := rfl
@[simp] theorem Dev.setOwner_arch (s : Dev) (r : BitVec 8) (o : Owner) : (s.setOwner r o).arch = s.arch := rfl
@[simp] theorem Dev.setOwner_iramBad (s : Dev) (r : BitVec 8) (o : Owner) : (s.setOwner r o).iramBad = s.iramBad := rfl
@[simp] theorem Dev.setOwner_dramBad (s : Dev) (r : BitVec 8) (o : Owner) : (s.setOwner r o).dramBad = s.dramBad := rfl
@[simp] theorem Dev.setOwner_ports (s : Dev) (r : BitVec 8) (o : Owner) : (s.setOwner r o).ports = s.ports := rfl
@[simp] theorem Dev.setOwner_can (s : Dev) (r : BitVec 8) (o : Owner) : (s.setOwner r o).can = s.can := rfl
@[simp] theorem Dev.setOwner_smbArl (s : Dev) (r : BitVec 8) (o : Owner) : (s.setOwner r o).smbArl = s.smbArl := rfl
@[simp] theorem Dev.setOwner_tapIr (s : Dev) (r : BitVec 8) (o : Owner) : (s.setOwner r o).tapIr = s.tapIr := rfl
@[simp] theorem Dev.setOwner_tapCells (s : Dev) (r : BitVec 8) (o : Owner) : (s.setOwner r o).tapCells = s.tapCells := rfl
@[simp] theorem Dev.setOwner_tapIrOut (s : Dev) (r : BitVec 8) (o : Owner) : (s.setOwner r o).tapIrOut = s.tapIrOut := rfl
@[simp] theorem Dev.setOwner_tapOut (s : Dev) (r : BitVec 8) (o : Owner) : (s.setOwner r o).tapOut = s.tapOut := rfl
@[simp] theorem Dev.setOwner_rail (s : Dev) (r : BitVec 8) (o : Owner) (m : Fin 48) : (s.setOwner r o).rail m = s.rail m := rfl
@[simp] theorem Dev.setOwner_teller (s : Dev) (r : BitVec 8) (o : Owner) (j : Fin 8) : (s.setOwner r o).teller j = s.teller j := rfl
@[simp] theorem Dev.setOwner_door (s : Dev) (r : BitVec 8) (o : Owner) (y : Fin 4) : (s.setOwner r o).door y = s.door y := rfl
@[simp] theorem Dev.setOwner_cv (s : Dev) (r : BitVec 8) (o : Owner) (z : Fin 6) : (s.setOwner r o).cv z = s.cv z := rfl
@[simp] theorem Dev.setOwner_cap (s : Dev) (r : BitVec 8) (o : Owner) (z : Fin 6) : (s.setOwner r o).cap z = s.cap z := rfl
@[simp] theorem Dev.setOwner_sc (s : Dev) (r : BitVec 8) (o : Owner) (m : Fin 8) : (s.setOwner r o).sc m = s.sc m := rfl
@[simp] theorem Dev.setOwner_ph (s : Dev) (r : BitVec 8) (o : Owner) (q : Fin 24) : (s.setOwner r o).ph q = s.ph q := rfl
@[simp] theorem Dev.setOwner_port (s : Dev) (r : BitVec 8) (o : Owner) (y : Fin 4) : (s.setOwner r o).port y = s.port y := rfl
@[simp] theorem Dev.setOwner_get (s : Dev) (r : BitVec 8) (o : Owner) (g : Fld) : (s.setOwner r o).get g = s.get g := rfl

@[simp] theorem Dev.setCv_now (s : Dev) (c : Fin 6) (x : Conv) : (s.setCv c x).now = s.now := rfl
@[simp] theorem Dev.setCv_before (s : Dev) (c : Fin 6) (x : Conv) : (s.setCv c x).before = s.before := rfl
@[simp] theorem Dev.setCv_fresh (s : Dev) (c : Fin 6) (x : Conv) : (s.setCv c x).fresh = s.fresh := rfl
@[simp] theorem Dev.setCv_dev (s : Dev) (c : Fin 6) (x : Conv) : (s.setCv c x).dev = s.dev := rfl
@[simp] theorem Dev.setCv_regs (s : Dev) (c : Fin 6) (x : Conv) : (s.setCv c x).regs = s.regs := rfl
@[simp] theorem Dev.setCv_rails (s : Dev) (c : Fin 6) (x : Conv) : (s.setCv c x).rails = s.rails := rfl
@[simp] theorem Dev.setCv_tellers (s : Dev) (c : Fin 6) (x : Conv) : (s.setCv c x).tellers = s.tellers := rfl
@[simp] theorem Dev.setCv_owners (s : Dev) (c : Fin 6) (x : Conv) : (s.setCv c x).owners = s.owners := rfl
@[simp] theorem Dev.setCv_doors (s : Dev) (c : Fin 6) (x : Conv) : (s.setCv c x).doors = s.doors := rfl
@[simp] theorem Dev.setCv_vault (s : Dev) (c : Fin 6) (x : Conv) : (s.setCv c x).vault = s.vault := rfl
@[simp] theorem Dev.setCv_usecOn (s : Dev) (c : Fin 6) (x : Conv) : (s.setCv c x).usecOn = s.usecOn := rfl
@[simp] theorem Dev.setCv_usec0 (s : Dev) (c : Fin 6) (x : Conv) : (s.setCv c x).usec0 = s.usec0 := rfl
@[simp] theorem Dev.setCv_shadowAt (s : Dev) (c : Fin 6) (x : Conv) : (s.setCv c x).shadowAt = s.shadowAt := rfl
@[simp] theorem Dev.setCv_bootno (s : Dev) (c : Fin 6) (x : Conv) : (s.setCv c x).bootno = s.bootno := rfl
@[simp] theorem Dev.setCv_bootnoOk (s : Dev) (c : Fin 6) (x : Conv) : (s.setCv c x).bootnoOk = s.bootnoOk := rfl
@[simp] theorem Dev.setCv_trims (s : Dev) (c : Fin 6) (x : Conv) : (s.setCv c x).trims = s.trims := rfl
@[simp] theorem Dev.setCv_rev (s : Dev) (c : Fin 6) (x : Conv) : (s.setCv c x).rev = s.rev := rfl
@[simp] theorem Dev.setCv_angle (s : Dev) (c : Fin 6) (x : Conv) : (s.setCv c x).angle = s.angle := rfl
@[simp] theorem Dev.setCv_tal (s : Dev) (c : Fin 6) (x : Conv) : (s.setCv c x).tal = s.tal := rfl
@[simp] theorem Dev.setCv_shutters (s : Dev) (c : Fin 6) (x : Conv) : (s.setCv c x).shutters = s.shutters := rfl
@[simp] theorem Dev.setCv_caps (s : Dev) (c : Fin 6) (x : Conv) : (s.setCv c x).caps = s.caps := rfl
@[simp] theorem Dev.setCv_stats (s : Dev) (c : Fin 6) (x : Conv) : (s.setCv c x).stats = s.stats := rfl
@[simp] theorem Dev.setCv_statAt (s : Dev) (c : Fin 6) (x : Conv) : (s.setCv c x).statAt = s.statAt := rfl
@[simp] theorem Dev.setCv_statLen (s : Dev) (c : Fin 6) (x : Conv) : (s.setCv c x).statLen = s.statLen := rfl
@[simp] theorem Dev.setCv_cvFast (s : Dev) (c : Fin 6) (x : Conv) : (s.setCv c x).cvFast = s.cvFast := rfl
@[simp] theorem Dev.setCv_tickAt (s : Dev) (c : Fin 6) (x : Conv) : (s.setCv c x).tickAt = s.tickAt := rfl
@[simp] theorem Dev.setCv_jq (s : Dev) (c : Fin 6) (x : Conv) : (s.setCv c x).jq = s.jq := rfl
@[simp] theorem Dev.setCv_jIn (s : Dev) (c : Fin 6) (x : Conv) : (s.setCv c x).jIn = s.jIn := rfl
@[simp] theorem Dev.setCv_jLost (s : Dev) (c : Fin 6) (x : Conv) : (s.setCv c x).jLost = s.jLost := rfl
@[simp] theorem Dev.setCv_folio (s : Dev) (c : Fin 6) (x : Conv) : (s.setCv c x).folio = s.folio := rfl
@[simp] theorem Dev.setCv_folioVer (s : Dev) (c : Fin 6) (x : Conv) : (s.setCv c x).folioVer = s.folioVer := rfl
@[simp] theorem Dev.setCv_ledgBad (s : Dev) (c : Fin 6) (x : Conv) : (s.setCv c x).ledgBad = s.ledgBad := rfl
@[simp] theorem Dev.setCv_recent (s : Dev) (c : Fin 6) (x : Conv) : (s.setCv c x).recent = s.recent := rfl
@[simp] theorem Dev.setCv_v18ok (s : Dev) (c : Fin 6) (x : Conv) : (s.setCv c x).v18ok = s.v18ok := rfl
@[simp] theorem Dev.setCv_scrubAt (s : Dev) (c : Fin 6) (x : Conv) : (s.setCv c x).scrubAt = s.scrubAt := rfl
@[simp] theorem Dev.setCv_afill (s : Dev) (c : Fin 6) (x : Conv) : (s.setCv c x).afill = s.afill := rfl
@[simp] theorem Dev.setCv_wrapCopy (s : Dev) (c : Fin 6) (x : Conv) : (s.setCv c x).wrapCopy = s.wrapCopy := rfl
@[simp] theorem Dev.setCv_jck (s : Dev) (c : Fin 6) (x : Conv) : (s.setCv c x).jck = s.jck := rfl
@[simp] theorem Dev.setCv_folioDone (s : Dev) (c : Fin 6) (x : Conv) : (s.setCv c x).folioDone = s.folioDone := rfl
@[simp] theorem Dev.setCv_folioVdone (s : Dev) (c : Fin 6) (x : Conv) : (s.setCv c x).folioVdone = s.folioVdone := rfl
@[simp] theorem Dev.setCv_hday (s : Dev) (c : Fin 6) (x : Conv) : (s.setCv c x).hday = s.hday := rfl
@[simp] theorem Dev.setCv_hsaved (s : Dev) (c : Fin 6) (x : Conv) : (s.setCv c x).hsaved = s.hsaved := rfl
@[simp] theorem Dev.setCv_holder (s : Dev) (c : Fin 6) (x : Conv) : (s.setCv c x).holder = s.holder := rfl
@[simp] theorem Dev.setCv_hcopy (s : Dev) (c : Fin 6) (x : Conv) : (s.setCv c x).hcopy = s.hcopy := rfl
@[simp] theorem Dev.setCv_copyVer (s : Dev) (c : Fin 6) (x : Conv) : (s.setCv c x).copyVer = s.copyVer := rfl
@[simp] theorem Dev.setCv_hClean (s : Dev) (c : Fin 6) (x : Conv) : (s.setCv c x).hClean = s.hClean := rfl
@[simp] theorem Dev.setCv_calOpen (s : Dev) (c : Fin 6) (x : Conv) : (s.setCv c x).calOpen = s.calOpen := rfl
@[simp] theorem Dev.setCv_calKey (s : Dev) (c : Fin 6) (x : Conv) : (s.setCv c x).calKey = s.calKey := rfl
@[simp] theorem Dev.setCv_calDirty (s : Dev) (c : Fin 6) (x : Conv) : (s.setCv c x).calDirty = s.calDirty := rfl
@[simp] theorem Dev.setCv_probes (s : Dev) (c : Fin 6) (x : Conv) : (s.setCv c x).probes = s.probes := rfl
@[simp] theorem Dev.setCv_probing (s : Dev) (c : Fin 6) (x : Conv) : (s.setCv c x).probing = s.probing := rfl
@[simp] theorem Dev.setCv_lat (s : Dev) (c : Fin 6) (x : Conv) : (s.setCv c x).lat = s.lat := rfl
@[simp] theorem Dev.setCv_smbRel (s : Dev) (c : Fin 6) (x : Conv) : (s.setCv c x).smbRel = s.smbRel := rfl
@[simp] theorem Dev.setCv_evq (s : Dev) (c : Fin 6) (x : Conv) : (s.setCv c x).evq = s.evq := rfl
@[simp] theorem Dev.setCv_evOvf (s : Dev) (c : Fin 6) (x : Conv) : (s.setCv c x).evOvf = s.evOvf := rfl
@[simp] theorem Dev.setCv_evDropped (s : Dev) (c : Fin 6) (x : Conv) : (s.setCv c x).evDropped = s.evDropped := rfl
@[simp] theorem Dev.setCv_evSent (s : Dev) (c : Fin 6) (x : Conv) : (s.setCv c x).evSent = s.evSent := rfl
@[simp] theorem Dev.setCv_awake (s : Dev) (c : Fin 6) (x : Conv) : (s.setCv c x).awake = s.awake := rfl
@[simp] theorem Dev.setCv_watchExit (s : Dev) (c : Fin 6) (x : Conv) : (s.setCv c x).watchExit = s.watchExit := rfl
@[simp] theorem Dev.setCv_inrushUj (s : Dev) (c : Fin 6) (x : Conv) : (s.setCv c x).inrushUj = s.inrushUj := rfl
@[simp] theorem Dev.setCv_preqs (s : Dev) (c : Fin 6) (x : Conv) : (s.setCv c x).preqs = s.preqs := rfl
@[simp] theorem Dev.setCv_schedAt (s : Dev) (c : Fin 6) (x : Conv) : (s.setCv c x).schedAt = s.schedAt := rfl
@[simp] theorem Dev.setCv_holdO (s : Dev) (c : Fin 6) (x : Conv) : (s.setCv c x).holdO = s.holdO := rfl
@[simp] theorem Dev.setCv_holdE (s : Dev) (c : Fin 6) (x : Conv) : (s.setCv c x).holdE = s.holdE := rfl
@[simp] theorem Dev.setCv_holdAt (s : Dev) (c : Fin 6) (x : Conv) : (s.setCv c x).holdAt = s.holdAt := rfl
@[simp] theorem Dev.setCv_holdShort (s : Dev) (c : Fin 6) (x : Conv) : (s.setCv c x).holdShort = s.holdShort := rfl
@[simp] theorem Dev.setCv_heatRes (s : Dev) (c : Fin 6) (x : Conv) : (s.setCv c x).heatRes = s.heatRes := rfl
@[simp] theorem Dev.setCv_thUp (s : Dev) (c : Fin 6) (x : Conv) : (s.setCv c x).thUp = s.thUp := rfl
@[simp] theorem Dev.setCv_thDown (s : Dev) (c : Fin 6) (x : Conv) : (s.setCv c x).thDown = s.thDown := rfl
@[simp] theorem Dev.setCv_thTrip (s : Dev) (c : Fin 6) (x : Conv) : (s.setCv c x).thTrip = s.thTrip := rfl
@[simp] theorem Dev.setCv_thFloors (s : Dev) (c : Fin 6) (x : Conv) : (s.setCv c x).thFloors = s.thFloors := rfl
@[simp] theorem Dev.setCv_thHot (s : Dev) (c : Fin 6) (x : Conv) : (s.setCv c x).thHot = s.thHot := rfl
@[simp] theorem Dev.setCv_thCause (s : Dev) (c : Fin 6) (x : Conv) : (s.setCv c x).thCause = s.thCause := rfl
@[simp] theorem Dev.setCv_headMw (s : Dev) (c : Fin 6) (x : Conv) : (s.setCv c x).headMw = s.headMw := rfl
@[simp] theorem Dev.setCv_rstoAt (s : Dev) (c : Fin 6) (x : Conv) : (s.setCv c x).rstoAt = s.rstoAt := rfl
@[simp] theorem Dev.setCv_cascAt (s : Dev) (c : Fin 6) (x : Conv) : (s.setCv c x).cascAt = s.cascAt := rfl
@[simp] theorem Dev.setCv_seqIn (s : Dev) (c : Fin 6) (x : Conv) : (s.setCv c x).seqIn = s.seqIn := rfl
@[simp] theorem Dev.setCv_closeAt (s : Dev) (c : Fin 6) (x : Conv) : (s.setCv c x).closeAt = s.closeAt := rfl
@[simp] theorem Dev.setCv_sampled (s : Dev) (c : Fin 6) (x : Conv) : (s.setCv c x).sampled = s.sampled := rfl
@[simp] theorem Dev.setCv_vaultRails (s : Dev) (c : Fin 6) (x : Conv) : (s.setCv c x).vaultRails = s.vaultRails := rfl
@[simp] theorem Dev.setCv_vaultMargins (s : Dev) (c : Fin 6) (x : Conv) : (s.setCv c x).vaultMargins = s.vaultMargins := rfl
@[simp] theorem Dev.setCv_scs (s : Dev) (c : Fin 6) (x : Conv) : (s.setCv c x).scs = s.scs := rfl
@[simp] theorem Dev.setCv_phs (s : Dev) (c : Fin 6) (x : Conv) : (s.setCv c x).phs = s.phs := rfl
@[simp] theorem Dev.setCv_mdAt (s : Dev) (c : Fin 6) (x : Conv) : (s.setCv c x).mdAt = s.mdAt := rfl
@[simp] theorem Dev.setCv_mgEnd (s : Dev) (c : Fin 6) (x : Conv) : (s.setCv c x).mgEnd = s.mgEnd := rfl
@[simp] theorem Dev.setCv_pwr (s : Dev) (c : Fin 6) (x : Conv) : (s.setCv c x).pwr = s.pwr := rfl
@[simp] theorem Dev.setCv_checks (s : Dev) (c : Fin 6) (x : Conv) : (s.setCv c x).checks = s.checks := rfl
@[simp] theorem Dev.setCv_arch (s : Dev) (c : Fin 6) (x : Conv) : (s.setCv c x).arch = s.arch := rfl
@[simp] theorem Dev.setCv_iramBad (s : Dev) (c : Fin 6) (x : Conv) : (s.setCv c x).iramBad = s.iramBad := rfl
@[simp] theorem Dev.setCv_dramBad (s : Dev) (c : Fin 6) (x : Conv) : (s.setCv c x).dramBad = s.dramBad := rfl
@[simp] theorem Dev.setCv_ports (s : Dev) (c : Fin 6) (x : Conv) : (s.setCv c x).ports = s.ports := rfl
@[simp] theorem Dev.setCv_can (s : Dev) (c : Fin 6) (x : Conv) : (s.setCv c x).can = s.can := rfl
@[simp] theorem Dev.setCv_smbArl (s : Dev) (c : Fin 6) (x : Conv) : (s.setCv c x).smbArl = s.smbArl := rfl
@[simp] theorem Dev.setCv_tapIr (s : Dev) (c : Fin 6) (x : Conv) : (s.setCv c x).tapIr = s.tapIr := rfl
@[simp] theorem Dev.setCv_tapCells (s : Dev) (c : Fin 6) (x : Conv) : (s.setCv c x).tapCells = s.tapCells := rfl
@[simp] theorem Dev.setCv_tapIrOut (s : Dev) (c : Fin 6) (x : Conv) : (s.setCv c x).tapIrOut = s.tapIrOut := rfl
@[simp] theorem Dev.setCv_tapOut (s : Dev) (c : Fin 6) (x : Conv) : (s.setCv c x).tapOut = s.tapOut := rfl
@[simp] theorem Dev.setCv_rail (s : Dev) (c : Fin 6) (x : Conv) (m : Fin 48) : (s.setCv c x).rail m = s.rail m := rfl
@[simp] theorem Dev.setCv_teller (s : Dev) (c : Fin 6) (x : Conv) (j : Fin 8) : (s.setCv c x).teller j = s.teller j := rfl
@[simp] theorem Dev.setCv_door (s : Dev) (c : Fin 6) (x : Conv) (y : Fin 4) : (s.setCv c x).door y = s.door y := rfl
@[simp] theorem Dev.setCv_owner (s : Dev) (c : Fin 6) (x : Conv) (q : BitVec 8) : (s.setCv c x).owner q = s.owner q := rfl
@[simp] theorem Dev.setCv_cap (s : Dev) (c : Fin 6) (x : Conv) (z : Fin 6) : (s.setCv c x).cap z = s.cap z := rfl
@[simp] theorem Dev.setCv_sc (s : Dev) (c : Fin 6) (x : Conv) (m : Fin 8) : (s.setCv c x).sc m = s.sc m := rfl
@[simp] theorem Dev.setCv_ph (s : Dev) (c : Fin 6) (x : Conv) (q : Fin 24) : (s.setCv c x).ph q = s.ph q := rfl
@[simp] theorem Dev.setCv_port (s : Dev) (c : Fin 6) (x : Conv) (y : Fin 4) : (s.setCv c x).port y = s.port y := rfl
@[simp] theorem Dev.setCv_get (s : Dev) (c : Fin 6) (x : Conv) (g : Fld) : (s.setCv c x).get g = s.get g := rfl

@[simp] theorem Dev.setCap_now (s : Dev) (c : Fin 6) (x : Cap) : (s.setCap c x).now = s.now := rfl
@[simp] theorem Dev.setCap_before (s : Dev) (c : Fin 6) (x : Cap) : (s.setCap c x).before = s.before := rfl
@[simp] theorem Dev.setCap_fresh (s : Dev) (c : Fin 6) (x : Cap) : (s.setCap c x).fresh = s.fresh := rfl
@[simp] theorem Dev.setCap_dev (s : Dev) (c : Fin 6) (x : Cap) : (s.setCap c x).dev = s.dev := rfl
@[simp] theorem Dev.setCap_regs (s : Dev) (c : Fin 6) (x : Cap) : (s.setCap c x).regs = s.regs := rfl
@[simp] theorem Dev.setCap_rails (s : Dev) (c : Fin 6) (x : Cap) : (s.setCap c x).rails = s.rails := rfl
@[simp] theorem Dev.setCap_tellers (s : Dev) (c : Fin 6) (x : Cap) : (s.setCap c x).tellers = s.tellers := rfl
@[simp] theorem Dev.setCap_owners (s : Dev) (c : Fin 6) (x : Cap) : (s.setCap c x).owners = s.owners := rfl
@[simp] theorem Dev.setCap_doors (s : Dev) (c : Fin 6) (x : Cap) : (s.setCap c x).doors = s.doors := rfl
@[simp] theorem Dev.setCap_vault (s : Dev) (c : Fin 6) (x : Cap) : (s.setCap c x).vault = s.vault := rfl
@[simp] theorem Dev.setCap_usecOn (s : Dev) (c : Fin 6) (x : Cap) : (s.setCap c x).usecOn = s.usecOn := rfl
@[simp] theorem Dev.setCap_usec0 (s : Dev) (c : Fin 6) (x : Cap) : (s.setCap c x).usec0 = s.usec0 := rfl
@[simp] theorem Dev.setCap_shadowAt (s : Dev) (c : Fin 6) (x : Cap) : (s.setCap c x).shadowAt = s.shadowAt := rfl
@[simp] theorem Dev.setCap_bootno (s : Dev) (c : Fin 6) (x : Cap) : (s.setCap c x).bootno = s.bootno := rfl
@[simp] theorem Dev.setCap_bootnoOk (s : Dev) (c : Fin 6) (x : Cap) : (s.setCap c x).bootnoOk = s.bootnoOk := rfl
@[simp] theorem Dev.setCap_trims (s : Dev) (c : Fin 6) (x : Cap) : (s.setCap c x).trims = s.trims := rfl
@[simp] theorem Dev.setCap_rev (s : Dev) (c : Fin 6) (x : Cap) : (s.setCap c x).rev = s.rev := rfl
@[simp] theorem Dev.setCap_angle (s : Dev) (c : Fin 6) (x : Cap) : (s.setCap c x).angle = s.angle := rfl
@[simp] theorem Dev.setCap_tal (s : Dev) (c : Fin 6) (x : Cap) : (s.setCap c x).tal = s.tal := rfl
@[simp] theorem Dev.setCap_shutters (s : Dev) (c : Fin 6) (x : Cap) : (s.setCap c x).shutters = s.shutters := rfl
@[simp] theorem Dev.setCap_cvs (s : Dev) (c : Fin 6) (x : Cap) : (s.setCap c x).cvs = s.cvs := rfl
@[simp] theorem Dev.setCap_stats (s : Dev) (c : Fin 6) (x : Cap) : (s.setCap c x).stats = s.stats := rfl
@[simp] theorem Dev.setCap_statAt (s : Dev) (c : Fin 6) (x : Cap) : (s.setCap c x).statAt = s.statAt := rfl
@[simp] theorem Dev.setCap_statLen (s : Dev) (c : Fin 6) (x : Cap) : (s.setCap c x).statLen = s.statLen := rfl
@[simp] theorem Dev.setCap_cvFast (s : Dev) (c : Fin 6) (x : Cap) : (s.setCap c x).cvFast = s.cvFast := rfl
@[simp] theorem Dev.setCap_tickAt (s : Dev) (c : Fin 6) (x : Cap) : (s.setCap c x).tickAt = s.tickAt := rfl
@[simp] theorem Dev.setCap_jq (s : Dev) (c : Fin 6) (x : Cap) : (s.setCap c x).jq = s.jq := rfl
@[simp] theorem Dev.setCap_jIn (s : Dev) (c : Fin 6) (x : Cap) : (s.setCap c x).jIn = s.jIn := rfl
@[simp] theorem Dev.setCap_jLost (s : Dev) (c : Fin 6) (x : Cap) : (s.setCap c x).jLost = s.jLost := rfl
@[simp] theorem Dev.setCap_folio (s : Dev) (c : Fin 6) (x : Cap) : (s.setCap c x).folio = s.folio := rfl
@[simp] theorem Dev.setCap_folioVer (s : Dev) (c : Fin 6) (x : Cap) : (s.setCap c x).folioVer = s.folioVer := rfl
@[simp] theorem Dev.setCap_ledgBad (s : Dev) (c : Fin 6) (x : Cap) : (s.setCap c x).ledgBad = s.ledgBad := rfl
@[simp] theorem Dev.setCap_recent (s : Dev) (c : Fin 6) (x : Cap) : (s.setCap c x).recent = s.recent := rfl
@[simp] theorem Dev.setCap_v18ok (s : Dev) (c : Fin 6) (x : Cap) : (s.setCap c x).v18ok = s.v18ok := rfl
@[simp] theorem Dev.setCap_scrubAt (s : Dev) (c : Fin 6) (x : Cap) : (s.setCap c x).scrubAt = s.scrubAt := rfl
@[simp] theorem Dev.setCap_afill (s : Dev) (c : Fin 6) (x : Cap) : (s.setCap c x).afill = s.afill := rfl
@[simp] theorem Dev.setCap_wrapCopy (s : Dev) (c : Fin 6) (x : Cap) : (s.setCap c x).wrapCopy = s.wrapCopy := rfl
@[simp] theorem Dev.setCap_jck (s : Dev) (c : Fin 6) (x : Cap) : (s.setCap c x).jck = s.jck := rfl
@[simp] theorem Dev.setCap_folioDone (s : Dev) (c : Fin 6) (x : Cap) : (s.setCap c x).folioDone = s.folioDone := rfl
@[simp] theorem Dev.setCap_folioVdone (s : Dev) (c : Fin 6) (x : Cap) : (s.setCap c x).folioVdone = s.folioVdone := rfl
@[simp] theorem Dev.setCap_hday (s : Dev) (c : Fin 6) (x : Cap) : (s.setCap c x).hday = s.hday := rfl
@[simp] theorem Dev.setCap_hsaved (s : Dev) (c : Fin 6) (x : Cap) : (s.setCap c x).hsaved = s.hsaved := rfl
@[simp] theorem Dev.setCap_holder (s : Dev) (c : Fin 6) (x : Cap) : (s.setCap c x).holder = s.holder := rfl
@[simp] theorem Dev.setCap_hcopy (s : Dev) (c : Fin 6) (x : Cap) : (s.setCap c x).hcopy = s.hcopy := rfl
@[simp] theorem Dev.setCap_copyVer (s : Dev) (c : Fin 6) (x : Cap) : (s.setCap c x).copyVer = s.copyVer := rfl
@[simp] theorem Dev.setCap_hClean (s : Dev) (c : Fin 6) (x : Cap) : (s.setCap c x).hClean = s.hClean := rfl
@[simp] theorem Dev.setCap_calOpen (s : Dev) (c : Fin 6) (x : Cap) : (s.setCap c x).calOpen = s.calOpen := rfl
@[simp] theorem Dev.setCap_calKey (s : Dev) (c : Fin 6) (x : Cap) : (s.setCap c x).calKey = s.calKey := rfl
@[simp] theorem Dev.setCap_calDirty (s : Dev) (c : Fin 6) (x : Cap) : (s.setCap c x).calDirty = s.calDirty := rfl
@[simp] theorem Dev.setCap_probes (s : Dev) (c : Fin 6) (x : Cap) : (s.setCap c x).probes = s.probes := rfl
@[simp] theorem Dev.setCap_probing (s : Dev) (c : Fin 6) (x : Cap) : (s.setCap c x).probing = s.probing := rfl
@[simp] theorem Dev.setCap_lat (s : Dev) (c : Fin 6) (x : Cap) : (s.setCap c x).lat = s.lat := rfl
@[simp] theorem Dev.setCap_smbRel (s : Dev) (c : Fin 6) (x : Cap) : (s.setCap c x).smbRel = s.smbRel := rfl
@[simp] theorem Dev.setCap_evq (s : Dev) (c : Fin 6) (x : Cap) : (s.setCap c x).evq = s.evq := rfl
@[simp] theorem Dev.setCap_evOvf (s : Dev) (c : Fin 6) (x : Cap) : (s.setCap c x).evOvf = s.evOvf := rfl
@[simp] theorem Dev.setCap_evDropped (s : Dev) (c : Fin 6) (x : Cap) : (s.setCap c x).evDropped = s.evDropped := rfl
@[simp] theorem Dev.setCap_evSent (s : Dev) (c : Fin 6) (x : Cap) : (s.setCap c x).evSent = s.evSent := rfl
@[simp] theorem Dev.setCap_awake (s : Dev) (c : Fin 6) (x : Cap) : (s.setCap c x).awake = s.awake := rfl
@[simp] theorem Dev.setCap_watchExit (s : Dev) (c : Fin 6) (x : Cap) : (s.setCap c x).watchExit = s.watchExit := rfl
@[simp] theorem Dev.setCap_inrushUj (s : Dev) (c : Fin 6) (x : Cap) : (s.setCap c x).inrushUj = s.inrushUj := rfl
@[simp] theorem Dev.setCap_preqs (s : Dev) (c : Fin 6) (x : Cap) : (s.setCap c x).preqs = s.preqs := rfl
@[simp] theorem Dev.setCap_schedAt (s : Dev) (c : Fin 6) (x : Cap) : (s.setCap c x).schedAt = s.schedAt := rfl
@[simp] theorem Dev.setCap_holdO (s : Dev) (c : Fin 6) (x : Cap) : (s.setCap c x).holdO = s.holdO := rfl
@[simp] theorem Dev.setCap_holdE (s : Dev) (c : Fin 6) (x : Cap) : (s.setCap c x).holdE = s.holdE := rfl
@[simp] theorem Dev.setCap_holdAt (s : Dev) (c : Fin 6) (x : Cap) : (s.setCap c x).holdAt = s.holdAt := rfl
@[simp] theorem Dev.setCap_holdShort (s : Dev) (c : Fin 6) (x : Cap) : (s.setCap c x).holdShort = s.holdShort := rfl
@[simp] theorem Dev.setCap_heatRes (s : Dev) (c : Fin 6) (x : Cap) : (s.setCap c x).heatRes = s.heatRes := rfl
@[simp] theorem Dev.setCap_thUp (s : Dev) (c : Fin 6) (x : Cap) : (s.setCap c x).thUp = s.thUp := rfl
@[simp] theorem Dev.setCap_thDown (s : Dev) (c : Fin 6) (x : Cap) : (s.setCap c x).thDown = s.thDown := rfl
@[simp] theorem Dev.setCap_thTrip (s : Dev) (c : Fin 6) (x : Cap) : (s.setCap c x).thTrip = s.thTrip := rfl
@[simp] theorem Dev.setCap_thFloors (s : Dev) (c : Fin 6) (x : Cap) : (s.setCap c x).thFloors = s.thFloors := rfl
@[simp] theorem Dev.setCap_thHot (s : Dev) (c : Fin 6) (x : Cap) : (s.setCap c x).thHot = s.thHot := rfl
@[simp] theorem Dev.setCap_thCause (s : Dev) (c : Fin 6) (x : Cap) : (s.setCap c x).thCause = s.thCause := rfl
@[simp] theorem Dev.setCap_headMw (s : Dev) (c : Fin 6) (x : Cap) : (s.setCap c x).headMw = s.headMw := rfl
@[simp] theorem Dev.setCap_rstoAt (s : Dev) (c : Fin 6) (x : Cap) : (s.setCap c x).rstoAt = s.rstoAt := rfl
@[simp] theorem Dev.setCap_cascAt (s : Dev) (c : Fin 6) (x : Cap) : (s.setCap c x).cascAt = s.cascAt := rfl
@[simp] theorem Dev.setCap_seqIn (s : Dev) (c : Fin 6) (x : Cap) : (s.setCap c x).seqIn = s.seqIn := rfl
@[simp] theorem Dev.setCap_closeAt (s : Dev) (c : Fin 6) (x : Cap) : (s.setCap c x).closeAt = s.closeAt := rfl
@[simp] theorem Dev.setCap_sampled (s : Dev) (c : Fin 6) (x : Cap) : (s.setCap c x).sampled = s.sampled := rfl
@[simp] theorem Dev.setCap_vaultRails (s : Dev) (c : Fin 6) (x : Cap) : (s.setCap c x).vaultRails = s.vaultRails := rfl
@[simp] theorem Dev.setCap_vaultMargins (s : Dev) (c : Fin 6) (x : Cap) : (s.setCap c x).vaultMargins = s.vaultMargins := rfl
@[simp] theorem Dev.setCap_scs (s : Dev) (c : Fin 6) (x : Cap) : (s.setCap c x).scs = s.scs := rfl
@[simp] theorem Dev.setCap_phs (s : Dev) (c : Fin 6) (x : Cap) : (s.setCap c x).phs = s.phs := rfl
@[simp] theorem Dev.setCap_mdAt (s : Dev) (c : Fin 6) (x : Cap) : (s.setCap c x).mdAt = s.mdAt := rfl
@[simp] theorem Dev.setCap_mgEnd (s : Dev) (c : Fin 6) (x : Cap) : (s.setCap c x).mgEnd = s.mgEnd := rfl
@[simp] theorem Dev.setCap_pwr (s : Dev) (c : Fin 6) (x : Cap) : (s.setCap c x).pwr = s.pwr := rfl
@[simp] theorem Dev.setCap_checks (s : Dev) (c : Fin 6) (x : Cap) : (s.setCap c x).checks = s.checks := rfl
@[simp] theorem Dev.setCap_arch (s : Dev) (c : Fin 6) (x : Cap) : (s.setCap c x).arch = s.arch := rfl
@[simp] theorem Dev.setCap_iramBad (s : Dev) (c : Fin 6) (x : Cap) : (s.setCap c x).iramBad = s.iramBad := rfl
@[simp] theorem Dev.setCap_dramBad (s : Dev) (c : Fin 6) (x : Cap) : (s.setCap c x).dramBad = s.dramBad := rfl
@[simp] theorem Dev.setCap_ports (s : Dev) (c : Fin 6) (x : Cap) : (s.setCap c x).ports = s.ports := rfl
@[simp] theorem Dev.setCap_can (s : Dev) (c : Fin 6) (x : Cap) : (s.setCap c x).can = s.can := rfl
@[simp] theorem Dev.setCap_smbArl (s : Dev) (c : Fin 6) (x : Cap) : (s.setCap c x).smbArl = s.smbArl := rfl
@[simp] theorem Dev.setCap_tapIr (s : Dev) (c : Fin 6) (x : Cap) : (s.setCap c x).tapIr = s.tapIr := rfl
@[simp] theorem Dev.setCap_tapCells (s : Dev) (c : Fin 6) (x : Cap) : (s.setCap c x).tapCells = s.tapCells := rfl
@[simp] theorem Dev.setCap_tapIrOut (s : Dev) (c : Fin 6) (x : Cap) : (s.setCap c x).tapIrOut = s.tapIrOut := rfl
@[simp] theorem Dev.setCap_tapOut (s : Dev) (c : Fin 6) (x : Cap) : (s.setCap c x).tapOut = s.tapOut := rfl
@[simp] theorem Dev.setCap_rail (s : Dev) (c : Fin 6) (x : Cap) (m : Fin 48) : (s.setCap c x).rail m = s.rail m := rfl
@[simp] theorem Dev.setCap_teller (s : Dev) (c : Fin 6) (x : Cap) (j : Fin 8) : (s.setCap c x).teller j = s.teller j := rfl
@[simp] theorem Dev.setCap_door (s : Dev) (c : Fin 6) (x : Cap) (y : Fin 4) : (s.setCap c x).door y = s.door y := rfl
@[simp] theorem Dev.setCap_owner (s : Dev) (c : Fin 6) (x : Cap) (q : BitVec 8) : (s.setCap c x).owner q = s.owner q := rfl
@[simp] theorem Dev.setCap_cv (s : Dev) (c : Fin 6) (x : Cap) (z : Fin 6) : (s.setCap c x).cv z = s.cv z := rfl
@[simp] theorem Dev.setCap_sc (s : Dev) (c : Fin 6) (x : Cap) (m : Fin 8) : (s.setCap c x).sc m = s.sc m := rfl
@[simp] theorem Dev.setCap_ph (s : Dev) (c : Fin 6) (x : Cap) (q : Fin 24) : (s.setCap c x).ph q = s.ph q := rfl
@[simp] theorem Dev.setCap_port (s : Dev) (c : Fin 6) (x : Cap) (y : Fin 4) : (s.setCap c x).port y = s.port y := rfl
@[simp] theorem Dev.setCap_get (s : Dev) (c : Fin 6) (x : Cap) (g : Fld) : (s.setCap c x).get g = s.get g := rfl

@[simp] theorem Dev.setSc_now (s : Dev) (n : Fin 8) (x : Sc) : (s.setSc n x).now = s.now := rfl
@[simp] theorem Dev.setSc_before (s : Dev) (n : Fin 8) (x : Sc) : (s.setSc n x).before = s.before := rfl
@[simp] theorem Dev.setSc_fresh (s : Dev) (n : Fin 8) (x : Sc) : (s.setSc n x).fresh = s.fresh := rfl
@[simp] theorem Dev.setSc_dev (s : Dev) (n : Fin 8) (x : Sc) : (s.setSc n x).dev = s.dev := rfl
@[simp] theorem Dev.setSc_regs (s : Dev) (n : Fin 8) (x : Sc) : (s.setSc n x).regs = s.regs := rfl
@[simp] theorem Dev.setSc_rails (s : Dev) (n : Fin 8) (x : Sc) : (s.setSc n x).rails = s.rails := rfl
@[simp] theorem Dev.setSc_tellers (s : Dev) (n : Fin 8) (x : Sc) : (s.setSc n x).tellers = s.tellers := rfl
@[simp] theorem Dev.setSc_owners (s : Dev) (n : Fin 8) (x : Sc) : (s.setSc n x).owners = s.owners := rfl
@[simp] theorem Dev.setSc_doors (s : Dev) (n : Fin 8) (x : Sc) : (s.setSc n x).doors = s.doors := rfl
@[simp] theorem Dev.setSc_vault (s : Dev) (n : Fin 8) (x : Sc) : (s.setSc n x).vault = s.vault := rfl
@[simp] theorem Dev.setSc_usecOn (s : Dev) (n : Fin 8) (x : Sc) : (s.setSc n x).usecOn = s.usecOn := rfl
@[simp] theorem Dev.setSc_usec0 (s : Dev) (n : Fin 8) (x : Sc) : (s.setSc n x).usec0 = s.usec0 := rfl
@[simp] theorem Dev.setSc_shadowAt (s : Dev) (n : Fin 8) (x : Sc) : (s.setSc n x).shadowAt = s.shadowAt := rfl
@[simp] theorem Dev.setSc_bootno (s : Dev) (n : Fin 8) (x : Sc) : (s.setSc n x).bootno = s.bootno := rfl
@[simp] theorem Dev.setSc_bootnoOk (s : Dev) (n : Fin 8) (x : Sc) : (s.setSc n x).bootnoOk = s.bootnoOk := rfl
@[simp] theorem Dev.setSc_trims (s : Dev) (n : Fin 8) (x : Sc) : (s.setSc n x).trims = s.trims := rfl
@[simp] theorem Dev.setSc_rev (s : Dev) (n : Fin 8) (x : Sc) : (s.setSc n x).rev = s.rev := rfl
@[simp] theorem Dev.setSc_angle (s : Dev) (n : Fin 8) (x : Sc) : (s.setSc n x).angle = s.angle := rfl
@[simp] theorem Dev.setSc_tal (s : Dev) (n : Fin 8) (x : Sc) : (s.setSc n x).tal = s.tal := rfl
@[simp] theorem Dev.setSc_shutters (s : Dev) (n : Fin 8) (x : Sc) : (s.setSc n x).shutters = s.shutters := rfl
@[simp] theorem Dev.setSc_cvs (s : Dev) (n : Fin 8) (x : Sc) : (s.setSc n x).cvs = s.cvs := rfl
@[simp] theorem Dev.setSc_caps (s : Dev) (n : Fin 8) (x : Sc) : (s.setSc n x).caps = s.caps := rfl
@[simp] theorem Dev.setSc_stats (s : Dev) (n : Fin 8) (x : Sc) : (s.setSc n x).stats = s.stats := rfl
@[simp] theorem Dev.setSc_statAt (s : Dev) (n : Fin 8) (x : Sc) : (s.setSc n x).statAt = s.statAt := rfl
@[simp] theorem Dev.setSc_statLen (s : Dev) (n : Fin 8) (x : Sc) : (s.setSc n x).statLen = s.statLen := rfl
@[simp] theorem Dev.setSc_cvFast (s : Dev) (n : Fin 8) (x : Sc) : (s.setSc n x).cvFast = s.cvFast := rfl
@[simp] theorem Dev.setSc_tickAt (s : Dev) (n : Fin 8) (x : Sc) : (s.setSc n x).tickAt = s.tickAt := rfl
@[simp] theorem Dev.setSc_jq (s : Dev) (n : Fin 8) (x : Sc) : (s.setSc n x).jq = s.jq := rfl
@[simp] theorem Dev.setSc_jIn (s : Dev) (n : Fin 8) (x : Sc) : (s.setSc n x).jIn = s.jIn := rfl
@[simp] theorem Dev.setSc_jLost (s : Dev) (n : Fin 8) (x : Sc) : (s.setSc n x).jLost = s.jLost := rfl
@[simp] theorem Dev.setSc_folio (s : Dev) (n : Fin 8) (x : Sc) : (s.setSc n x).folio = s.folio := rfl
@[simp] theorem Dev.setSc_folioVer (s : Dev) (n : Fin 8) (x : Sc) : (s.setSc n x).folioVer = s.folioVer := rfl
@[simp] theorem Dev.setSc_ledgBad (s : Dev) (n : Fin 8) (x : Sc) : (s.setSc n x).ledgBad = s.ledgBad := rfl
@[simp] theorem Dev.setSc_recent (s : Dev) (n : Fin 8) (x : Sc) : (s.setSc n x).recent = s.recent := rfl
@[simp] theorem Dev.setSc_v18ok (s : Dev) (n : Fin 8) (x : Sc) : (s.setSc n x).v18ok = s.v18ok := rfl
@[simp] theorem Dev.setSc_scrubAt (s : Dev) (n : Fin 8) (x : Sc) : (s.setSc n x).scrubAt = s.scrubAt := rfl
@[simp] theorem Dev.setSc_afill (s : Dev) (n : Fin 8) (x : Sc) : (s.setSc n x).afill = s.afill := rfl
@[simp] theorem Dev.setSc_wrapCopy (s : Dev) (n : Fin 8) (x : Sc) : (s.setSc n x).wrapCopy = s.wrapCopy := rfl
@[simp] theorem Dev.setSc_jck (s : Dev) (n : Fin 8) (x : Sc) : (s.setSc n x).jck = s.jck := rfl
@[simp] theorem Dev.setSc_folioDone (s : Dev) (n : Fin 8) (x : Sc) : (s.setSc n x).folioDone = s.folioDone := rfl
@[simp] theorem Dev.setSc_folioVdone (s : Dev) (n : Fin 8) (x : Sc) : (s.setSc n x).folioVdone = s.folioVdone := rfl
@[simp] theorem Dev.setSc_hday (s : Dev) (n : Fin 8) (x : Sc) : (s.setSc n x).hday = s.hday := rfl
@[simp] theorem Dev.setSc_hsaved (s : Dev) (n : Fin 8) (x : Sc) : (s.setSc n x).hsaved = s.hsaved := rfl
@[simp] theorem Dev.setSc_holder (s : Dev) (n : Fin 8) (x : Sc) : (s.setSc n x).holder = s.holder := rfl
@[simp] theorem Dev.setSc_hcopy (s : Dev) (n : Fin 8) (x : Sc) : (s.setSc n x).hcopy = s.hcopy := rfl
@[simp] theorem Dev.setSc_copyVer (s : Dev) (n : Fin 8) (x : Sc) : (s.setSc n x).copyVer = s.copyVer := rfl
@[simp] theorem Dev.setSc_hClean (s : Dev) (n : Fin 8) (x : Sc) : (s.setSc n x).hClean = s.hClean := rfl
@[simp] theorem Dev.setSc_calOpen (s : Dev) (n : Fin 8) (x : Sc) : (s.setSc n x).calOpen = s.calOpen := rfl
@[simp] theorem Dev.setSc_calKey (s : Dev) (n : Fin 8) (x : Sc) : (s.setSc n x).calKey = s.calKey := rfl
@[simp] theorem Dev.setSc_calDirty (s : Dev) (n : Fin 8) (x : Sc) : (s.setSc n x).calDirty = s.calDirty := rfl
@[simp] theorem Dev.setSc_probes (s : Dev) (n : Fin 8) (x : Sc) : (s.setSc n x).probes = s.probes := rfl
@[simp] theorem Dev.setSc_probing (s : Dev) (n : Fin 8) (x : Sc) : (s.setSc n x).probing = s.probing := rfl
@[simp] theorem Dev.setSc_lat (s : Dev) (n : Fin 8) (x : Sc) : (s.setSc n x).lat = s.lat := rfl
@[simp] theorem Dev.setSc_smbRel (s : Dev) (n : Fin 8) (x : Sc) : (s.setSc n x).smbRel = s.smbRel := rfl
@[simp] theorem Dev.setSc_evq (s : Dev) (n : Fin 8) (x : Sc) : (s.setSc n x).evq = s.evq := rfl
@[simp] theorem Dev.setSc_evOvf (s : Dev) (n : Fin 8) (x : Sc) : (s.setSc n x).evOvf = s.evOvf := rfl
@[simp] theorem Dev.setSc_evDropped (s : Dev) (n : Fin 8) (x : Sc) : (s.setSc n x).evDropped = s.evDropped := rfl
@[simp] theorem Dev.setSc_evSent (s : Dev) (n : Fin 8) (x : Sc) : (s.setSc n x).evSent = s.evSent := rfl
@[simp] theorem Dev.setSc_awake (s : Dev) (n : Fin 8) (x : Sc) : (s.setSc n x).awake = s.awake := rfl
@[simp] theorem Dev.setSc_watchExit (s : Dev) (n : Fin 8) (x : Sc) : (s.setSc n x).watchExit = s.watchExit := rfl
@[simp] theorem Dev.setSc_inrushUj (s : Dev) (n : Fin 8) (x : Sc) : (s.setSc n x).inrushUj = s.inrushUj := rfl
@[simp] theorem Dev.setSc_preqs (s : Dev) (n : Fin 8) (x : Sc) : (s.setSc n x).preqs = s.preqs := rfl
@[simp] theorem Dev.setSc_schedAt (s : Dev) (n : Fin 8) (x : Sc) : (s.setSc n x).schedAt = s.schedAt := rfl
@[simp] theorem Dev.setSc_holdO (s : Dev) (n : Fin 8) (x : Sc) : (s.setSc n x).holdO = s.holdO := rfl
@[simp] theorem Dev.setSc_holdE (s : Dev) (n : Fin 8) (x : Sc) : (s.setSc n x).holdE = s.holdE := rfl
@[simp] theorem Dev.setSc_holdAt (s : Dev) (n : Fin 8) (x : Sc) : (s.setSc n x).holdAt = s.holdAt := rfl
@[simp] theorem Dev.setSc_holdShort (s : Dev) (n : Fin 8) (x : Sc) : (s.setSc n x).holdShort = s.holdShort := rfl
@[simp] theorem Dev.setSc_heatRes (s : Dev) (n : Fin 8) (x : Sc) : (s.setSc n x).heatRes = s.heatRes := rfl
@[simp] theorem Dev.setSc_thUp (s : Dev) (n : Fin 8) (x : Sc) : (s.setSc n x).thUp = s.thUp := rfl
@[simp] theorem Dev.setSc_thDown (s : Dev) (n : Fin 8) (x : Sc) : (s.setSc n x).thDown = s.thDown := rfl
@[simp] theorem Dev.setSc_thTrip (s : Dev) (n : Fin 8) (x : Sc) : (s.setSc n x).thTrip = s.thTrip := rfl
@[simp] theorem Dev.setSc_thFloors (s : Dev) (n : Fin 8) (x : Sc) : (s.setSc n x).thFloors = s.thFloors := rfl
@[simp] theorem Dev.setSc_thHot (s : Dev) (n : Fin 8) (x : Sc) : (s.setSc n x).thHot = s.thHot := rfl
@[simp] theorem Dev.setSc_thCause (s : Dev) (n : Fin 8) (x : Sc) : (s.setSc n x).thCause = s.thCause := rfl
@[simp] theorem Dev.setSc_headMw (s : Dev) (n : Fin 8) (x : Sc) : (s.setSc n x).headMw = s.headMw := rfl
@[simp] theorem Dev.setSc_rstoAt (s : Dev) (n : Fin 8) (x : Sc) : (s.setSc n x).rstoAt = s.rstoAt := rfl
@[simp] theorem Dev.setSc_cascAt (s : Dev) (n : Fin 8) (x : Sc) : (s.setSc n x).cascAt = s.cascAt := rfl
@[simp] theorem Dev.setSc_seqIn (s : Dev) (n : Fin 8) (x : Sc) : (s.setSc n x).seqIn = s.seqIn := rfl
@[simp] theorem Dev.setSc_closeAt (s : Dev) (n : Fin 8) (x : Sc) : (s.setSc n x).closeAt = s.closeAt := rfl
@[simp] theorem Dev.setSc_sampled (s : Dev) (n : Fin 8) (x : Sc) : (s.setSc n x).sampled = s.sampled := rfl
@[simp] theorem Dev.setSc_vaultRails (s : Dev) (n : Fin 8) (x : Sc) : (s.setSc n x).vaultRails = s.vaultRails := rfl
@[simp] theorem Dev.setSc_vaultMargins (s : Dev) (n : Fin 8) (x : Sc) : (s.setSc n x).vaultMargins = s.vaultMargins := rfl
@[simp] theorem Dev.setSc_phs (s : Dev) (n : Fin 8) (x : Sc) : (s.setSc n x).phs = s.phs := rfl
@[simp] theorem Dev.setSc_mdAt (s : Dev) (n : Fin 8) (x : Sc) : (s.setSc n x).mdAt = s.mdAt := rfl
@[simp] theorem Dev.setSc_mgEnd (s : Dev) (n : Fin 8) (x : Sc) : (s.setSc n x).mgEnd = s.mgEnd := rfl
@[simp] theorem Dev.setSc_pwr (s : Dev) (n : Fin 8) (x : Sc) : (s.setSc n x).pwr = s.pwr := rfl
@[simp] theorem Dev.setSc_checks (s : Dev) (n : Fin 8) (x : Sc) : (s.setSc n x).checks = s.checks := rfl
@[simp] theorem Dev.setSc_arch (s : Dev) (n : Fin 8) (x : Sc) : (s.setSc n x).arch = s.arch := rfl
@[simp] theorem Dev.setSc_iramBad (s : Dev) (n : Fin 8) (x : Sc) : (s.setSc n x).iramBad = s.iramBad := rfl
@[simp] theorem Dev.setSc_dramBad (s : Dev) (n : Fin 8) (x : Sc) : (s.setSc n x).dramBad = s.dramBad := rfl
@[simp] theorem Dev.setSc_ports (s : Dev) (n : Fin 8) (x : Sc) : (s.setSc n x).ports = s.ports := rfl
@[simp] theorem Dev.setSc_can (s : Dev) (n : Fin 8) (x : Sc) : (s.setSc n x).can = s.can := rfl
@[simp] theorem Dev.setSc_smbArl (s : Dev) (n : Fin 8) (x : Sc) : (s.setSc n x).smbArl = s.smbArl := rfl
@[simp] theorem Dev.setSc_tapIr (s : Dev) (n : Fin 8) (x : Sc) : (s.setSc n x).tapIr = s.tapIr := rfl
@[simp] theorem Dev.setSc_tapCells (s : Dev) (n : Fin 8) (x : Sc) : (s.setSc n x).tapCells = s.tapCells := rfl
@[simp] theorem Dev.setSc_tapIrOut (s : Dev) (n : Fin 8) (x : Sc) : (s.setSc n x).tapIrOut = s.tapIrOut := rfl
@[simp] theorem Dev.setSc_tapOut (s : Dev) (n : Fin 8) (x : Sc) : (s.setSc n x).tapOut = s.tapOut := rfl
@[simp] theorem Dev.setSc_rail (s : Dev) (n : Fin 8) (x : Sc) (m : Fin 48) : (s.setSc n x).rail m = s.rail m := rfl
@[simp] theorem Dev.setSc_teller (s : Dev) (n : Fin 8) (x : Sc) (j : Fin 8) : (s.setSc n x).teller j = s.teller j := rfl
@[simp] theorem Dev.setSc_door (s : Dev) (n : Fin 8) (x : Sc) (y : Fin 4) : (s.setSc n x).door y = s.door y := rfl
@[simp] theorem Dev.setSc_owner (s : Dev) (n : Fin 8) (x : Sc) (q : BitVec 8) : (s.setSc n x).owner q = s.owner q := rfl
@[simp] theorem Dev.setSc_cv (s : Dev) (n : Fin 8) (x : Sc) (z : Fin 6) : (s.setSc n x).cv z = s.cv z := rfl
@[simp] theorem Dev.setSc_cap (s : Dev) (n : Fin 8) (x : Sc) (z : Fin 6) : (s.setSc n x).cap z = s.cap z := rfl
@[simp] theorem Dev.setSc_ph (s : Dev) (n : Fin 8) (x : Sc) (q : Fin 24) : (s.setSc n x).ph q = s.ph q := rfl
@[simp] theorem Dev.setSc_port (s : Dev) (n : Fin 8) (x : Sc) (y : Fin 4) : (s.setSc n x).port y = s.port y := rfl
@[simp] theorem Dev.setSc_get (s : Dev) (n : Fin 8) (x : Sc) (g : Fld) : (s.setSc n x).get g = s.get g := rfl

@[simp] theorem Dev.setPh_now (s : Dev) (p : Fin 24) (x : Ph) : (s.setPh p x).now = s.now := rfl
@[simp] theorem Dev.setPh_before (s : Dev) (p : Fin 24) (x : Ph) : (s.setPh p x).before = s.before := rfl
@[simp] theorem Dev.setPh_fresh (s : Dev) (p : Fin 24) (x : Ph) : (s.setPh p x).fresh = s.fresh := rfl
@[simp] theorem Dev.setPh_dev (s : Dev) (p : Fin 24) (x : Ph) : (s.setPh p x).dev = s.dev := rfl
@[simp] theorem Dev.setPh_regs (s : Dev) (p : Fin 24) (x : Ph) : (s.setPh p x).regs = s.regs := rfl
@[simp] theorem Dev.setPh_rails (s : Dev) (p : Fin 24) (x : Ph) : (s.setPh p x).rails = s.rails := rfl
@[simp] theorem Dev.setPh_tellers (s : Dev) (p : Fin 24) (x : Ph) : (s.setPh p x).tellers = s.tellers := rfl
@[simp] theorem Dev.setPh_owners (s : Dev) (p : Fin 24) (x : Ph) : (s.setPh p x).owners = s.owners := rfl
@[simp] theorem Dev.setPh_doors (s : Dev) (p : Fin 24) (x : Ph) : (s.setPh p x).doors = s.doors := rfl
@[simp] theorem Dev.setPh_vault (s : Dev) (p : Fin 24) (x : Ph) : (s.setPh p x).vault = s.vault := rfl
@[simp] theorem Dev.setPh_usecOn (s : Dev) (p : Fin 24) (x : Ph) : (s.setPh p x).usecOn = s.usecOn := rfl
@[simp] theorem Dev.setPh_usec0 (s : Dev) (p : Fin 24) (x : Ph) : (s.setPh p x).usec0 = s.usec0 := rfl
@[simp] theorem Dev.setPh_shadowAt (s : Dev) (p : Fin 24) (x : Ph) : (s.setPh p x).shadowAt = s.shadowAt := rfl
@[simp] theorem Dev.setPh_bootno (s : Dev) (p : Fin 24) (x : Ph) : (s.setPh p x).bootno = s.bootno := rfl
@[simp] theorem Dev.setPh_bootnoOk (s : Dev) (p : Fin 24) (x : Ph) : (s.setPh p x).bootnoOk = s.bootnoOk := rfl
@[simp] theorem Dev.setPh_trims (s : Dev) (p : Fin 24) (x : Ph) : (s.setPh p x).trims = s.trims := rfl
@[simp] theorem Dev.setPh_rev (s : Dev) (p : Fin 24) (x : Ph) : (s.setPh p x).rev = s.rev := rfl
@[simp] theorem Dev.setPh_angle (s : Dev) (p : Fin 24) (x : Ph) : (s.setPh p x).angle = s.angle := rfl
@[simp] theorem Dev.setPh_tal (s : Dev) (p : Fin 24) (x : Ph) : (s.setPh p x).tal = s.tal := rfl
@[simp] theorem Dev.setPh_shutters (s : Dev) (p : Fin 24) (x : Ph) : (s.setPh p x).shutters = s.shutters := rfl
@[simp] theorem Dev.setPh_cvs (s : Dev) (p : Fin 24) (x : Ph) : (s.setPh p x).cvs = s.cvs := rfl
@[simp] theorem Dev.setPh_caps (s : Dev) (p : Fin 24) (x : Ph) : (s.setPh p x).caps = s.caps := rfl
@[simp] theorem Dev.setPh_stats (s : Dev) (p : Fin 24) (x : Ph) : (s.setPh p x).stats = s.stats := rfl
@[simp] theorem Dev.setPh_statAt (s : Dev) (p : Fin 24) (x : Ph) : (s.setPh p x).statAt = s.statAt := rfl
@[simp] theorem Dev.setPh_statLen (s : Dev) (p : Fin 24) (x : Ph) : (s.setPh p x).statLen = s.statLen := rfl
@[simp] theorem Dev.setPh_cvFast (s : Dev) (p : Fin 24) (x : Ph) : (s.setPh p x).cvFast = s.cvFast := rfl
@[simp] theorem Dev.setPh_tickAt (s : Dev) (p : Fin 24) (x : Ph) : (s.setPh p x).tickAt = s.tickAt := rfl
@[simp] theorem Dev.setPh_jq (s : Dev) (p : Fin 24) (x : Ph) : (s.setPh p x).jq = s.jq := rfl
@[simp] theorem Dev.setPh_jIn (s : Dev) (p : Fin 24) (x : Ph) : (s.setPh p x).jIn = s.jIn := rfl
@[simp] theorem Dev.setPh_jLost (s : Dev) (p : Fin 24) (x : Ph) : (s.setPh p x).jLost = s.jLost := rfl
@[simp] theorem Dev.setPh_folio (s : Dev) (p : Fin 24) (x : Ph) : (s.setPh p x).folio = s.folio := rfl
@[simp] theorem Dev.setPh_folioVer (s : Dev) (p : Fin 24) (x : Ph) : (s.setPh p x).folioVer = s.folioVer := rfl
@[simp] theorem Dev.setPh_ledgBad (s : Dev) (p : Fin 24) (x : Ph) : (s.setPh p x).ledgBad = s.ledgBad := rfl
@[simp] theorem Dev.setPh_recent (s : Dev) (p : Fin 24) (x : Ph) : (s.setPh p x).recent = s.recent := rfl
@[simp] theorem Dev.setPh_v18ok (s : Dev) (p : Fin 24) (x : Ph) : (s.setPh p x).v18ok = s.v18ok := rfl
@[simp] theorem Dev.setPh_scrubAt (s : Dev) (p : Fin 24) (x : Ph) : (s.setPh p x).scrubAt = s.scrubAt := rfl
@[simp] theorem Dev.setPh_afill (s : Dev) (p : Fin 24) (x : Ph) : (s.setPh p x).afill = s.afill := rfl
@[simp] theorem Dev.setPh_wrapCopy (s : Dev) (p : Fin 24) (x : Ph) : (s.setPh p x).wrapCopy = s.wrapCopy := rfl
@[simp] theorem Dev.setPh_jck (s : Dev) (p : Fin 24) (x : Ph) : (s.setPh p x).jck = s.jck := rfl
@[simp] theorem Dev.setPh_folioDone (s : Dev) (p : Fin 24) (x : Ph) : (s.setPh p x).folioDone = s.folioDone := rfl
@[simp] theorem Dev.setPh_folioVdone (s : Dev) (p : Fin 24) (x : Ph) : (s.setPh p x).folioVdone = s.folioVdone := rfl
@[simp] theorem Dev.setPh_hday (s : Dev) (p : Fin 24) (x : Ph) : (s.setPh p x).hday = s.hday := rfl
@[simp] theorem Dev.setPh_hsaved (s : Dev) (p : Fin 24) (x : Ph) : (s.setPh p x).hsaved = s.hsaved := rfl
@[simp] theorem Dev.setPh_holder (s : Dev) (p : Fin 24) (x : Ph) : (s.setPh p x).holder = s.holder := rfl
@[simp] theorem Dev.setPh_hcopy (s : Dev) (p : Fin 24) (x : Ph) : (s.setPh p x).hcopy = s.hcopy := rfl
@[simp] theorem Dev.setPh_copyVer (s : Dev) (p : Fin 24) (x : Ph) : (s.setPh p x).copyVer = s.copyVer := rfl
@[simp] theorem Dev.setPh_hClean (s : Dev) (p : Fin 24) (x : Ph) : (s.setPh p x).hClean = s.hClean := rfl
@[simp] theorem Dev.setPh_calOpen (s : Dev) (p : Fin 24) (x : Ph) : (s.setPh p x).calOpen = s.calOpen := rfl
@[simp] theorem Dev.setPh_calKey (s : Dev) (p : Fin 24) (x : Ph) : (s.setPh p x).calKey = s.calKey := rfl
@[simp] theorem Dev.setPh_calDirty (s : Dev) (p : Fin 24) (x : Ph) : (s.setPh p x).calDirty = s.calDirty := rfl
@[simp] theorem Dev.setPh_probes (s : Dev) (p : Fin 24) (x : Ph) : (s.setPh p x).probes = s.probes := rfl
@[simp] theorem Dev.setPh_probing (s : Dev) (p : Fin 24) (x : Ph) : (s.setPh p x).probing = s.probing := rfl
@[simp] theorem Dev.setPh_lat (s : Dev) (p : Fin 24) (x : Ph) : (s.setPh p x).lat = s.lat := rfl
@[simp] theorem Dev.setPh_smbRel (s : Dev) (p : Fin 24) (x : Ph) : (s.setPh p x).smbRel = s.smbRel := rfl
@[simp] theorem Dev.setPh_evq (s : Dev) (p : Fin 24) (x : Ph) : (s.setPh p x).evq = s.evq := rfl
@[simp] theorem Dev.setPh_evOvf (s : Dev) (p : Fin 24) (x : Ph) : (s.setPh p x).evOvf = s.evOvf := rfl
@[simp] theorem Dev.setPh_evDropped (s : Dev) (p : Fin 24) (x : Ph) : (s.setPh p x).evDropped = s.evDropped := rfl
@[simp] theorem Dev.setPh_evSent (s : Dev) (p : Fin 24) (x : Ph) : (s.setPh p x).evSent = s.evSent := rfl
@[simp] theorem Dev.setPh_awake (s : Dev) (p : Fin 24) (x : Ph) : (s.setPh p x).awake = s.awake := rfl
@[simp] theorem Dev.setPh_watchExit (s : Dev) (p : Fin 24) (x : Ph) : (s.setPh p x).watchExit = s.watchExit := rfl
@[simp] theorem Dev.setPh_inrushUj (s : Dev) (p : Fin 24) (x : Ph) : (s.setPh p x).inrushUj = s.inrushUj := rfl
@[simp] theorem Dev.setPh_preqs (s : Dev) (p : Fin 24) (x : Ph) : (s.setPh p x).preqs = s.preqs := rfl
@[simp] theorem Dev.setPh_schedAt (s : Dev) (p : Fin 24) (x : Ph) : (s.setPh p x).schedAt = s.schedAt := rfl
@[simp] theorem Dev.setPh_holdO (s : Dev) (p : Fin 24) (x : Ph) : (s.setPh p x).holdO = s.holdO := rfl
@[simp] theorem Dev.setPh_holdE (s : Dev) (p : Fin 24) (x : Ph) : (s.setPh p x).holdE = s.holdE := rfl
@[simp] theorem Dev.setPh_holdAt (s : Dev) (p : Fin 24) (x : Ph) : (s.setPh p x).holdAt = s.holdAt := rfl
@[simp] theorem Dev.setPh_holdShort (s : Dev) (p : Fin 24) (x : Ph) : (s.setPh p x).holdShort = s.holdShort := rfl
@[simp] theorem Dev.setPh_heatRes (s : Dev) (p : Fin 24) (x : Ph) : (s.setPh p x).heatRes = s.heatRes := rfl
@[simp] theorem Dev.setPh_thUp (s : Dev) (p : Fin 24) (x : Ph) : (s.setPh p x).thUp = s.thUp := rfl
@[simp] theorem Dev.setPh_thDown (s : Dev) (p : Fin 24) (x : Ph) : (s.setPh p x).thDown = s.thDown := rfl
@[simp] theorem Dev.setPh_thTrip (s : Dev) (p : Fin 24) (x : Ph) : (s.setPh p x).thTrip = s.thTrip := rfl
@[simp] theorem Dev.setPh_thFloors (s : Dev) (p : Fin 24) (x : Ph) : (s.setPh p x).thFloors = s.thFloors := rfl
@[simp] theorem Dev.setPh_thHot (s : Dev) (p : Fin 24) (x : Ph) : (s.setPh p x).thHot = s.thHot := rfl
@[simp] theorem Dev.setPh_thCause (s : Dev) (p : Fin 24) (x : Ph) : (s.setPh p x).thCause = s.thCause := rfl
@[simp] theorem Dev.setPh_headMw (s : Dev) (p : Fin 24) (x : Ph) : (s.setPh p x).headMw = s.headMw := rfl
@[simp] theorem Dev.setPh_rstoAt (s : Dev) (p : Fin 24) (x : Ph) : (s.setPh p x).rstoAt = s.rstoAt := rfl
@[simp] theorem Dev.setPh_cascAt (s : Dev) (p : Fin 24) (x : Ph) : (s.setPh p x).cascAt = s.cascAt := rfl
@[simp] theorem Dev.setPh_seqIn (s : Dev) (p : Fin 24) (x : Ph) : (s.setPh p x).seqIn = s.seqIn := rfl
@[simp] theorem Dev.setPh_closeAt (s : Dev) (p : Fin 24) (x : Ph) : (s.setPh p x).closeAt = s.closeAt := rfl
@[simp] theorem Dev.setPh_sampled (s : Dev) (p : Fin 24) (x : Ph) : (s.setPh p x).sampled = s.sampled := rfl
@[simp] theorem Dev.setPh_vaultRails (s : Dev) (p : Fin 24) (x : Ph) : (s.setPh p x).vaultRails = s.vaultRails := rfl
@[simp] theorem Dev.setPh_vaultMargins (s : Dev) (p : Fin 24) (x : Ph) : (s.setPh p x).vaultMargins = s.vaultMargins := rfl
@[simp] theorem Dev.setPh_scs (s : Dev) (p : Fin 24) (x : Ph) : (s.setPh p x).scs = s.scs := rfl
@[simp] theorem Dev.setPh_mdAt (s : Dev) (p : Fin 24) (x : Ph) : (s.setPh p x).mdAt = s.mdAt := rfl
@[simp] theorem Dev.setPh_mgEnd (s : Dev) (p : Fin 24) (x : Ph) : (s.setPh p x).mgEnd = s.mgEnd := rfl
@[simp] theorem Dev.setPh_pwr (s : Dev) (p : Fin 24) (x : Ph) : (s.setPh p x).pwr = s.pwr := rfl
@[simp] theorem Dev.setPh_checks (s : Dev) (p : Fin 24) (x : Ph) : (s.setPh p x).checks = s.checks := rfl
@[simp] theorem Dev.setPh_arch (s : Dev) (p : Fin 24) (x : Ph) : (s.setPh p x).arch = s.arch := rfl
@[simp] theorem Dev.setPh_iramBad (s : Dev) (p : Fin 24) (x : Ph) : (s.setPh p x).iramBad = s.iramBad := rfl
@[simp] theorem Dev.setPh_dramBad (s : Dev) (p : Fin 24) (x : Ph) : (s.setPh p x).dramBad = s.dramBad := rfl
@[simp] theorem Dev.setPh_ports (s : Dev) (p : Fin 24) (x : Ph) : (s.setPh p x).ports = s.ports := rfl
@[simp] theorem Dev.setPh_can (s : Dev) (p : Fin 24) (x : Ph) : (s.setPh p x).can = s.can := rfl
@[simp] theorem Dev.setPh_smbArl (s : Dev) (p : Fin 24) (x : Ph) : (s.setPh p x).smbArl = s.smbArl := rfl
@[simp] theorem Dev.setPh_tapIr (s : Dev) (p : Fin 24) (x : Ph) : (s.setPh p x).tapIr = s.tapIr := rfl
@[simp] theorem Dev.setPh_tapCells (s : Dev) (p : Fin 24) (x : Ph) : (s.setPh p x).tapCells = s.tapCells := rfl
@[simp] theorem Dev.setPh_tapIrOut (s : Dev) (p : Fin 24) (x : Ph) : (s.setPh p x).tapIrOut = s.tapIrOut := rfl
@[simp] theorem Dev.setPh_tapOut (s : Dev) (p : Fin 24) (x : Ph) : (s.setPh p x).tapOut = s.tapOut := rfl
@[simp] theorem Dev.setPh_rail (s : Dev) (p : Fin 24) (x : Ph) (m : Fin 48) : (s.setPh p x).rail m = s.rail m := rfl
@[simp] theorem Dev.setPh_teller (s : Dev) (p : Fin 24) (x : Ph) (j : Fin 8) : (s.setPh p x).teller j = s.teller j := rfl
@[simp] theorem Dev.setPh_door (s : Dev) (p : Fin 24) (x : Ph) (y : Fin 4) : (s.setPh p x).door y = s.door y := rfl
@[simp] theorem Dev.setPh_owner (s : Dev) (p : Fin 24) (x : Ph) (q : BitVec 8) : (s.setPh p x).owner q = s.owner q := rfl
@[simp] theorem Dev.setPh_cv (s : Dev) (p : Fin 24) (x : Ph) (z : Fin 6) : (s.setPh p x).cv z = s.cv z := rfl
@[simp] theorem Dev.setPh_cap (s : Dev) (p : Fin 24) (x : Ph) (z : Fin 6) : (s.setPh p x).cap z = s.cap z := rfl
@[simp] theorem Dev.setPh_sc (s : Dev) (p : Fin 24) (x : Ph) (m : Fin 8) : (s.setPh p x).sc m = s.sc m := rfl
@[simp] theorem Dev.setPh_port (s : Dev) (p : Fin 24) (x : Ph) (y : Fin 4) : (s.setPh p x).port y = s.port y := rfl
@[simp] theorem Dev.setPh_get (s : Dev) (p : Fin 24) (x : Ph) (g : Fld) : (s.setPh p x).get g = s.get g := rfl

@[simp] theorem Dev.setPort_now (s : Dev) (d : Fin 4) (p : Port) : (s.setPort d p).now = s.now := rfl
@[simp] theorem Dev.setPort_before (s : Dev) (d : Fin 4) (p : Port) : (s.setPort d p).before = s.before := rfl
@[simp] theorem Dev.setPort_fresh (s : Dev) (d : Fin 4) (p : Port) : (s.setPort d p).fresh = s.fresh := rfl
@[simp] theorem Dev.setPort_dev (s : Dev) (d : Fin 4) (p : Port) : (s.setPort d p).dev = s.dev := rfl
@[simp] theorem Dev.setPort_regs (s : Dev) (d : Fin 4) (p : Port) : (s.setPort d p).regs = s.regs := rfl
@[simp] theorem Dev.setPort_rails (s : Dev) (d : Fin 4) (p : Port) : (s.setPort d p).rails = s.rails := rfl
@[simp] theorem Dev.setPort_tellers (s : Dev) (d : Fin 4) (p : Port) : (s.setPort d p).tellers = s.tellers := rfl
@[simp] theorem Dev.setPort_owners (s : Dev) (d : Fin 4) (p : Port) : (s.setPort d p).owners = s.owners := rfl
@[simp] theorem Dev.setPort_doors (s : Dev) (d : Fin 4) (p : Port) : (s.setPort d p).doors = s.doors := rfl
@[simp] theorem Dev.setPort_vault (s : Dev) (d : Fin 4) (p : Port) : (s.setPort d p).vault = s.vault := rfl
@[simp] theorem Dev.setPort_usecOn (s : Dev) (d : Fin 4) (p : Port) : (s.setPort d p).usecOn = s.usecOn := rfl
@[simp] theorem Dev.setPort_usec0 (s : Dev) (d : Fin 4) (p : Port) : (s.setPort d p).usec0 = s.usec0 := rfl
@[simp] theorem Dev.setPort_shadowAt (s : Dev) (d : Fin 4) (p : Port) : (s.setPort d p).shadowAt = s.shadowAt := rfl
@[simp] theorem Dev.setPort_bootno (s : Dev) (d : Fin 4) (p : Port) : (s.setPort d p).bootno = s.bootno := rfl
@[simp] theorem Dev.setPort_bootnoOk (s : Dev) (d : Fin 4) (p : Port) : (s.setPort d p).bootnoOk = s.bootnoOk := rfl
@[simp] theorem Dev.setPort_trims (s : Dev) (d : Fin 4) (p : Port) : (s.setPort d p).trims = s.trims := rfl
@[simp] theorem Dev.setPort_rev (s : Dev) (d : Fin 4) (p : Port) : (s.setPort d p).rev = s.rev := rfl
@[simp] theorem Dev.setPort_angle (s : Dev) (d : Fin 4) (p : Port) : (s.setPort d p).angle = s.angle := rfl
@[simp] theorem Dev.setPort_tal (s : Dev) (d : Fin 4) (p : Port) : (s.setPort d p).tal = s.tal := rfl
@[simp] theorem Dev.setPort_shutters (s : Dev) (d : Fin 4) (p : Port) : (s.setPort d p).shutters = s.shutters := rfl
@[simp] theorem Dev.setPort_cvs (s : Dev) (d : Fin 4) (p : Port) : (s.setPort d p).cvs = s.cvs := rfl
@[simp] theorem Dev.setPort_caps (s : Dev) (d : Fin 4) (p : Port) : (s.setPort d p).caps = s.caps := rfl
@[simp] theorem Dev.setPort_stats (s : Dev) (d : Fin 4) (p : Port) : (s.setPort d p).stats = s.stats := rfl
@[simp] theorem Dev.setPort_statAt (s : Dev) (d : Fin 4) (p : Port) : (s.setPort d p).statAt = s.statAt := rfl
@[simp] theorem Dev.setPort_statLen (s : Dev) (d : Fin 4) (p : Port) : (s.setPort d p).statLen = s.statLen := rfl
@[simp] theorem Dev.setPort_cvFast (s : Dev) (d : Fin 4) (p : Port) : (s.setPort d p).cvFast = s.cvFast := rfl
@[simp] theorem Dev.setPort_tickAt (s : Dev) (d : Fin 4) (p : Port) : (s.setPort d p).tickAt = s.tickAt := rfl
@[simp] theorem Dev.setPort_jq (s : Dev) (d : Fin 4) (p : Port) : (s.setPort d p).jq = s.jq := rfl
@[simp] theorem Dev.setPort_jIn (s : Dev) (d : Fin 4) (p : Port) : (s.setPort d p).jIn = s.jIn := rfl
@[simp] theorem Dev.setPort_jLost (s : Dev) (d : Fin 4) (p : Port) : (s.setPort d p).jLost = s.jLost := rfl
@[simp] theorem Dev.setPort_folio (s : Dev) (d : Fin 4) (p : Port) : (s.setPort d p).folio = s.folio := rfl
@[simp] theorem Dev.setPort_folioVer (s : Dev) (d : Fin 4) (p : Port) : (s.setPort d p).folioVer = s.folioVer := rfl
@[simp] theorem Dev.setPort_ledgBad (s : Dev) (d : Fin 4) (p : Port) : (s.setPort d p).ledgBad = s.ledgBad := rfl
@[simp] theorem Dev.setPort_recent (s : Dev) (d : Fin 4) (p : Port) : (s.setPort d p).recent = s.recent := rfl
@[simp] theorem Dev.setPort_v18ok (s : Dev) (d : Fin 4) (p : Port) : (s.setPort d p).v18ok = s.v18ok := rfl
@[simp] theorem Dev.setPort_scrubAt (s : Dev) (d : Fin 4) (p : Port) : (s.setPort d p).scrubAt = s.scrubAt := rfl
@[simp] theorem Dev.setPort_afill (s : Dev) (d : Fin 4) (p : Port) : (s.setPort d p).afill = s.afill := rfl
@[simp] theorem Dev.setPort_wrapCopy (s : Dev) (d : Fin 4) (p : Port) : (s.setPort d p).wrapCopy = s.wrapCopy := rfl
@[simp] theorem Dev.setPort_jck (s : Dev) (d : Fin 4) (p : Port) : (s.setPort d p).jck = s.jck := rfl
@[simp] theorem Dev.setPort_folioDone (s : Dev) (d : Fin 4) (p : Port) : (s.setPort d p).folioDone = s.folioDone := rfl
@[simp] theorem Dev.setPort_folioVdone (s : Dev) (d : Fin 4) (p : Port) : (s.setPort d p).folioVdone = s.folioVdone := rfl
@[simp] theorem Dev.setPort_hday (s : Dev) (d : Fin 4) (p : Port) : (s.setPort d p).hday = s.hday := rfl
@[simp] theorem Dev.setPort_hsaved (s : Dev) (d : Fin 4) (p : Port) : (s.setPort d p).hsaved = s.hsaved := rfl
@[simp] theorem Dev.setPort_holder (s : Dev) (d : Fin 4) (p : Port) : (s.setPort d p).holder = s.holder := rfl
@[simp] theorem Dev.setPort_hcopy (s : Dev) (d : Fin 4) (p : Port) : (s.setPort d p).hcopy = s.hcopy := rfl
@[simp] theorem Dev.setPort_copyVer (s : Dev) (d : Fin 4) (p : Port) : (s.setPort d p).copyVer = s.copyVer := rfl
@[simp] theorem Dev.setPort_hClean (s : Dev) (d : Fin 4) (p : Port) : (s.setPort d p).hClean = s.hClean := rfl
@[simp] theorem Dev.setPort_calOpen (s : Dev) (d : Fin 4) (p : Port) : (s.setPort d p).calOpen = s.calOpen := rfl
@[simp] theorem Dev.setPort_calKey (s : Dev) (d : Fin 4) (p : Port) : (s.setPort d p).calKey = s.calKey := rfl
@[simp] theorem Dev.setPort_calDirty (s : Dev) (d : Fin 4) (p : Port) : (s.setPort d p).calDirty = s.calDirty := rfl
@[simp] theorem Dev.setPort_probes (s : Dev) (d : Fin 4) (p : Port) : (s.setPort d p).probes = s.probes := rfl
@[simp] theorem Dev.setPort_probing (s : Dev) (d : Fin 4) (p : Port) : (s.setPort d p).probing = s.probing := rfl
@[simp] theorem Dev.setPort_lat (s : Dev) (d : Fin 4) (p : Port) : (s.setPort d p).lat = s.lat := rfl
@[simp] theorem Dev.setPort_smbRel (s : Dev) (d : Fin 4) (p : Port) : (s.setPort d p).smbRel = s.smbRel := rfl
@[simp] theorem Dev.setPort_evq (s : Dev) (d : Fin 4) (p : Port) : (s.setPort d p).evq = s.evq := rfl
@[simp] theorem Dev.setPort_evOvf (s : Dev) (d : Fin 4) (p : Port) : (s.setPort d p).evOvf = s.evOvf := rfl
@[simp] theorem Dev.setPort_evDropped (s : Dev) (d : Fin 4) (p : Port) : (s.setPort d p).evDropped = s.evDropped := rfl
@[simp] theorem Dev.setPort_evSent (s : Dev) (d : Fin 4) (p : Port) : (s.setPort d p).evSent = s.evSent := rfl
@[simp] theorem Dev.setPort_awake (s : Dev) (d : Fin 4) (p : Port) : (s.setPort d p).awake = s.awake := rfl
@[simp] theorem Dev.setPort_watchExit (s : Dev) (d : Fin 4) (p : Port) : (s.setPort d p).watchExit = s.watchExit := rfl
@[simp] theorem Dev.setPort_inrushUj (s : Dev) (d : Fin 4) (p : Port) : (s.setPort d p).inrushUj = s.inrushUj := rfl
@[simp] theorem Dev.setPort_preqs (s : Dev) (d : Fin 4) (p : Port) : (s.setPort d p).preqs = s.preqs := rfl
@[simp] theorem Dev.setPort_schedAt (s : Dev) (d : Fin 4) (p : Port) : (s.setPort d p).schedAt = s.schedAt := rfl
@[simp] theorem Dev.setPort_holdO (s : Dev) (d : Fin 4) (p : Port) : (s.setPort d p).holdO = s.holdO := rfl
@[simp] theorem Dev.setPort_holdE (s : Dev) (d : Fin 4) (p : Port) : (s.setPort d p).holdE = s.holdE := rfl
@[simp] theorem Dev.setPort_holdAt (s : Dev) (d : Fin 4) (p : Port) : (s.setPort d p).holdAt = s.holdAt := rfl
@[simp] theorem Dev.setPort_holdShort (s : Dev) (d : Fin 4) (p : Port) : (s.setPort d p).holdShort = s.holdShort := rfl
@[simp] theorem Dev.setPort_heatRes (s : Dev) (d : Fin 4) (p : Port) : (s.setPort d p).heatRes = s.heatRes := rfl
@[simp] theorem Dev.setPort_thUp (s : Dev) (d : Fin 4) (p : Port) : (s.setPort d p).thUp = s.thUp := rfl
@[simp] theorem Dev.setPort_thDown (s : Dev) (d : Fin 4) (p : Port) : (s.setPort d p).thDown = s.thDown := rfl
@[simp] theorem Dev.setPort_thTrip (s : Dev) (d : Fin 4) (p : Port) : (s.setPort d p).thTrip = s.thTrip := rfl
@[simp] theorem Dev.setPort_thFloors (s : Dev) (d : Fin 4) (p : Port) : (s.setPort d p).thFloors = s.thFloors := rfl
@[simp] theorem Dev.setPort_thHot (s : Dev) (d : Fin 4) (p : Port) : (s.setPort d p).thHot = s.thHot := rfl
@[simp] theorem Dev.setPort_thCause (s : Dev) (d : Fin 4) (p : Port) : (s.setPort d p).thCause = s.thCause := rfl
@[simp] theorem Dev.setPort_headMw (s : Dev) (d : Fin 4) (p : Port) : (s.setPort d p).headMw = s.headMw := rfl
@[simp] theorem Dev.setPort_rstoAt (s : Dev) (d : Fin 4) (p : Port) : (s.setPort d p).rstoAt = s.rstoAt := rfl
@[simp] theorem Dev.setPort_cascAt (s : Dev) (d : Fin 4) (p : Port) : (s.setPort d p).cascAt = s.cascAt := rfl
@[simp] theorem Dev.setPort_seqIn (s : Dev) (d : Fin 4) (p : Port) : (s.setPort d p).seqIn = s.seqIn := rfl
@[simp] theorem Dev.setPort_closeAt (s : Dev) (d : Fin 4) (p : Port) : (s.setPort d p).closeAt = s.closeAt := rfl
@[simp] theorem Dev.setPort_sampled (s : Dev) (d : Fin 4) (p : Port) : (s.setPort d p).sampled = s.sampled := rfl
@[simp] theorem Dev.setPort_vaultRails (s : Dev) (d : Fin 4) (p : Port) : (s.setPort d p).vaultRails = s.vaultRails := rfl
@[simp] theorem Dev.setPort_vaultMargins (s : Dev) (d : Fin 4) (p : Port) : (s.setPort d p).vaultMargins = s.vaultMargins := rfl
@[simp] theorem Dev.setPort_scs (s : Dev) (d : Fin 4) (p : Port) : (s.setPort d p).scs = s.scs := rfl
@[simp] theorem Dev.setPort_phs (s : Dev) (d : Fin 4) (p : Port) : (s.setPort d p).phs = s.phs := rfl
@[simp] theorem Dev.setPort_mdAt (s : Dev) (d : Fin 4) (p : Port) : (s.setPort d p).mdAt = s.mdAt := rfl
@[simp] theorem Dev.setPort_mgEnd (s : Dev) (d : Fin 4) (p : Port) : (s.setPort d p).mgEnd = s.mgEnd := rfl
@[simp] theorem Dev.setPort_pwr (s : Dev) (d : Fin 4) (p : Port) : (s.setPort d p).pwr = s.pwr := rfl
@[simp] theorem Dev.setPort_checks (s : Dev) (d : Fin 4) (p : Port) : (s.setPort d p).checks = s.checks := rfl
@[simp] theorem Dev.setPort_arch (s : Dev) (d : Fin 4) (p : Port) : (s.setPort d p).arch = s.arch := rfl
@[simp] theorem Dev.setPort_iramBad (s : Dev) (d : Fin 4) (p : Port) : (s.setPort d p).iramBad = s.iramBad := rfl
@[simp] theorem Dev.setPort_dramBad (s : Dev) (d : Fin 4) (p : Port) : (s.setPort d p).dramBad = s.dramBad := rfl
@[simp] theorem Dev.setPort_can (s : Dev) (d : Fin 4) (p : Port) : (s.setPort d p).can = s.can := rfl
@[simp] theorem Dev.setPort_smbArl (s : Dev) (d : Fin 4) (p : Port) : (s.setPort d p).smbArl = s.smbArl := rfl
@[simp] theorem Dev.setPort_tapIr (s : Dev) (d : Fin 4) (p : Port) : (s.setPort d p).tapIr = s.tapIr := rfl
@[simp] theorem Dev.setPort_tapCells (s : Dev) (d : Fin 4) (p : Port) : (s.setPort d p).tapCells = s.tapCells := rfl
@[simp] theorem Dev.setPort_tapIrOut (s : Dev) (d : Fin 4) (p : Port) : (s.setPort d p).tapIrOut = s.tapIrOut := rfl
@[simp] theorem Dev.setPort_tapOut (s : Dev) (d : Fin 4) (p : Port) : (s.setPort d p).tapOut = s.tapOut := rfl
@[simp] theorem Dev.setPort_rail (s : Dev) (d : Fin 4) (p : Port) (m : Fin 48) : (s.setPort d p).rail m = s.rail m := rfl
@[simp] theorem Dev.setPort_teller (s : Dev) (d : Fin 4) (p : Port) (j : Fin 8) : (s.setPort d p).teller j = s.teller j := rfl
@[simp] theorem Dev.setPort_door (s : Dev) (d : Fin 4) (p : Port) (y : Fin 4) : (s.setPort d p).door y = s.door y := rfl
@[simp] theorem Dev.setPort_owner (s : Dev) (d : Fin 4) (p : Port) (q : BitVec 8) : (s.setPort d p).owner q = s.owner q := rfl
@[simp] theorem Dev.setPort_cv (s : Dev) (d : Fin 4) (p : Port) (z : Fin 6) : (s.setPort d p).cv z = s.cv z := rfl
@[simp] theorem Dev.setPort_cap (s : Dev) (d : Fin 4) (p : Port) (z : Fin 6) : (s.setPort d p).cap z = s.cap z := rfl
@[simp] theorem Dev.setPort_sc (s : Dev) (d : Fin 4) (p : Port) (m : Fin 8) : (s.setPort d p).sc m = s.sc m := rfl
@[simp] theorem Dev.setPort_ph (s : Dev) (d : Fin 4) (p : Port) (q : Fin 24) : (s.setPort d p).ph q = s.ph q := rfl
@[simp] theorem Dev.setPort_get (s : Dev) (d : Fin 4) (p : Port) (g : Fld) : (s.setPort d p).get g = s.get g := rfl

@[simp] theorem Dev.setShutter_now (s : Dev) (n : Fin 16) (x : Shutter) : (s.setShutter n x).now = s.now := rfl
@[simp] theorem Dev.setShutter_before (s : Dev) (n : Fin 16) (x : Shutter) : (s.setShutter n x).before = s.before := rfl
@[simp] theorem Dev.setShutter_fresh (s : Dev) (n : Fin 16) (x : Shutter) : (s.setShutter n x).fresh = s.fresh := rfl
@[simp] theorem Dev.setShutter_dev (s : Dev) (n : Fin 16) (x : Shutter) : (s.setShutter n x).dev = s.dev := rfl
@[simp] theorem Dev.setShutter_regs (s : Dev) (n : Fin 16) (x : Shutter) : (s.setShutter n x).regs = s.regs := rfl
@[simp] theorem Dev.setShutter_rails (s : Dev) (n : Fin 16) (x : Shutter) : (s.setShutter n x).rails = s.rails := rfl
@[simp] theorem Dev.setShutter_tellers (s : Dev) (n : Fin 16) (x : Shutter) : (s.setShutter n x).tellers = s.tellers := rfl
@[simp] theorem Dev.setShutter_owners (s : Dev) (n : Fin 16) (x : Shutter) : (s.setShutter n x).owners = s.owners := rfl
@[simp] theorem Dev.setShutter_doors (s : Dev) (n : Fin 16) (x : Shutter) : (s.setShutter n x).doors = s.doors := rfl
@[simp] theorem Dev.setShutter_vault (s : Dev) (n : Fin 16) (x : Shutter) : (s.setShutter n x).vault = s.vault := rfl
@[simp] theorem Dev.setShutter_usecOn (s : Dev) (n : Fin 16) (x : Shutter) : (s.setShutter n x).usecOn = s.usecOn := rfl
@[simp] theorem Dev.setShutter_usec0 (s : Dev) (n : Fin 16) (x : Shutter) : (s.setShutter n x).usec0 = s.usec0 := rfl
@[simp] theorem Dev.setShutter_shadowAt (s : Dev) (n : Fin 16) (x : Shutter) : (s.setShutter n x).shadowAt = s.shadowAt := rfl
@[simp] theorem Dev.setShutter_bootno (s : Dev) (n : Fin 16) (x : Shutter) : (s.setShutter n x).bootno = s.bootno := rfl
@[simp] theorem Dev.setShutter_bootnoOk (s : Dev) (n : Fin 16) (x : Shutter) : (s.setShutter n x).bootnoOk = s.bootnoOk := rfl
@[simp] theorem Dev.setShutter_trims (s : Dev) (n : Fin 16) (x : Shutter) : (s.setShutter n x).trims = s.trims := rfl
@[simp] theorem Dev.setShutter_rev (s : Dev) (n : Fin 16) (x : Shutter) : (s.setShutter n x).rev = s.rev := rfl
@[simp] theorem Dev.setShutter_angle (s : Dev) (n : Fin 16) (x : Shutter) : (s.setShutter n x).angle = s.angle := rfl
@[simp] theorem Dev.setShutter_tal (s : Dev) (n : Fin 16) (x : Shutter) : (s.setShutter n x).tal = s.tal := rfl
@[simp] theorem Dev.setShutter_cvs (s : Dev) (n : Fin 16) (x : Shutter) : (s.setShutter n x).cvs = s.cvs := rfl
@[simp] theorem Dev.setShutter_caps (s : Dev) (n : Fin 16) (x : Shutter) : (s.setShutter n x).caps = s.caps := rfl
@[simp] theorem Dev.setShutter_stats (s : Dev) (n : Fin 16) (x : Shutter) : (s.setShutter n x).stats = s.stats := rfl
@[simp] theorem Dev.setShutter_statAt (s : Dev) (n : Fin 16) (x : Shutter) : (s.setShutter n x).statAt = s.statAt := rfl
@[simp] theorem Dev.setShutter_statLen (s : Dev) (n : Fin 16) (x : Shutter) : (s.setShutter n x).statLen = s.statLen := rfl
@[simp] theorem Dev.setShutter_cvFast (s : Dev) (n : Fin 16) (x : Shutter) : (s.setShutter n x).cvFast = s.cvFast := rfl
@[simp] theorem Dev.setShutter_tickAt (s : Dev) (n : Fin 16) (x : Shutter) : (s.setShutter n x).tickAt = s.tickAt := rfl
@[simp] theorem Dev.setShutter_jq (s : Dev) (n : Fin 16) (x : Shutter) : (s.setShutter n x).jq = s.jq := rfl
@[simp] theorem Dev.setShutter_jIn (s : Dev) (n : Fin 16) (x : Shutter) : (s.setShutter n x).jIn = s.jIn := rfl
@[simp] theorem Dev.setShutter_jLost (s : Dev) (n : Fin 16) (x : Shutter) : (s.setShutter n x).jLost = s.jLost := rfl
@[simp] theorem Dev.setShutter_folio (s : Dev) (n : Fin 16) (x : Shutter) : (s.setShutter n x).folio = s.folio := rfl
@[simp] theorem Dev.setShutter_folioVer (s : Dev) (n : Fin 16) (x : Shutter) : (s.setShutter n x).folioVer = s.folioVer := rfl
@[simp] theorem Dev.setShutter_ledgBad (s : Dev) (n : Fin 16) (x : Shutter) : (s.setShutter n x).ledgBad = s.ledgBad := rfl
@[simp] theorem Dev.setShutter_recent (s : Dev) (n : Fin 16) (x : Shutter) : (s.setShutter n x).recent = s.recent := rfl
@[simp] theorem Dev.setShutter_v18ok (s : Dev) (n : Fin 16) (x : Shutter) : (s.setShutter n x).v18ok = s.v18ok := rfl
@[simp] theorem Dev.setShutter_scrubAt (s : Dev) (n : Fin 16) (x : Shutter) : (s.setShutter n x).scrubAt = s.scrubAt := rfl
@[simp] theorem Dev.setShutter_afill (s : Dev) (n : Fin 16) (x : Shutter) : (s.setShutter n x).afill = s.afill := rfl
@[simp] theorem Dev.setShutter_wrapCopy (s : Dev) (n : Fin 16) (x : Shutter) : (s.setShutter n x).wrapCopy = s.wrapCopy := rfl
@[simp] theorem Dev.setShutter_jck (s : Dev) (n : Fin 16) (x : Shutter) : (s.setShutter n x).jck = s.jck := rfl
@[simp] theorem Dev.setShutter_folioDone (s : Dev) (n : Fin 16) (x : Shutter) : (s.setShutter n x).folioDone = s.folioDone := rfl
@[simp] theorem Dev.setShutter_folioVdone (s : Dev) (n : Fin 16) (x : Shutter) : (s.setShutter n x).folioVdone = s.folioVdone := rfl
@[simp] theorem Dev.setShutter_hday (s : Dev) (n : Fin 16) (x : Shutter) : (s.setShutter n x).hday = s.hday := rfl
@[simp] theorem Dev.setShutter_hsaved (s : Dev) (n : Fin 16) (x : Shutter) : (s.setShutter n x).hsaved = s.hsaved := rfl
@[simp] theorem Dev.setShutter_holder (s : Dev) (n : Fin 16) (x : Shutter) : (s.setShutter n x).holder = s.holder := rfl
@[simp] theorem Dev.setShutter_hcopy (s : Dev) (n : Fin 16) (x : Shutter) : (s.setShutter n x).hcopy = s.hcopy := rfl
@[simp] theorem Dev.setShutter_copyVer (s : Dev) (n : Fin 16) (x : Shutter) : (s.setShutter n x).copyVer = s.copyVer := rfl
@[simp] theorem Dev.setShutter_hClean (s : Dev) (n : Fin 16) (x : Shutter) : (s.setShutter n x).hClean = s.hClean := rfl
@[simp] theorem Dev.setShutter_calOpen (s : Dev) (n : Fin 16) (x : Shutter) : (s.setShutter n x).calOpen = s.calOpen := rfl
@[simp] theorem Dev.setShutter_calKey (s : Dev) (n : Fin 16) (x : Shutter) : (s.setShutter n x).calKey = s.calKey := rfl
@[simp] theorem Dev.setShutter_calDirty (s : Dev) (n : Fin 16) (x : Shutter) : (s.setShutter n x).calDirty = s.calDirty := rfl
@[simp] theorem Dev.setShutter_probes (s : Dev) (n : Fin 16) (x : Shutter) : (s.setShutter n x).probes = s.probes := rfl
@[simp] theorem Dev.setShutter_probing (s : Dev) (n : Fin 16) (x : Shutter) : (s.setShutter n x).probing = s.probing := rfl
@[simp] theorem Dev.setShutter_lat (s : Dev) (n : Fin 16) (x : Shutter) : (s.setShutter n x).lat = s.lat := rfl
@[simp] theorem Dev.setShutter_smbRel (s : Dev) (n : Fin 16) (x : Shutter) : (s.setShutter n x).smbRel = s.smbRel := rfl
@[simp] theorem Dev.setShutter_evq (s : Dev) (n : Fin 16) (x : Shutter) : (s.setShutter n x).evq = s.evq := rfl
@[simp] theorem Dev.setShutter_evOvf (s : Dev) (n : Fin 16) (x : Shutter) : (s.setShutter n x).evOvf = s.evOvf := rfl
@[simp] theorem Dev.setShutter_evDropped (s : Dev) (n : Fin 16) (x : Shutter) : (s.setShutter n x).evDropped = s.evDropped := rfl
@[simp] theorem Dev.setShutter_evSent (s : Dev) (n : Fin 16) (x : Shutter) : (s.setShutter n x).evSent = s.evSent := rfl
@[simp] theorem Dev.setShutter_awake (s : Dev) (n : Fin 16) (x : Shutter) : (s.setShutter n x).awake = s.awake := rfl
@[simp] theorem Dev.setShutter_watchExit (s : Dev) (n : Fin 16) (x : Shutter) : (s.setShutter n x).watchExit = s.watchExit := rfl
@[simp] theorem Dev.setShutter_inrushUj (s : Dev) (n : Fin 16) (x : Shutter) : (s.setShutter n x).inrushUj = s.inrushUj := rfl
@[simp] theorem Dev.setShutter_preqs (s : Dev) (n : Fin 16) (x : Shutter) : (s.setShutter n x).preqs = s.preqs := rfl
@[simp] theorem Dev.setShutter_schedAt (s : Dev) (n : Fin 16) (x : Shutter) : (s.setShutter n x).schedAt = s.schedAt := rfl
@[simp] theorem Dev.setShutter_holdO (s : Dev) (n : Fin 16) (x : Shutter) : (s.setShutter n x).holdO = s.holdO := rfl
@[simp] theorem Dev.setShutter_holdE (s : Dev) (n : Fin 16) (x : Shutter) : (s.setShutter n x).holdE = s.holdE := rfl
@[simp] theorem Dev.setShutter_holdAt (s : Dev) (n : Fin 16) (x : Shutter) : (s.setShutter n x).holdAt = s.holdAt := rfl
@[simp] theorem Dev.setShutter_holdShort (s : Dev) (n : Fin 16) (x : Shutter) : (s.setShutter n x).holdShort = s.holdShort := rfl
@[simp] theorem Dev.setShutter_heatRes (s : Dev) (n : Fin 16) (x : Shutter) : (s.setShutter n x).heatRes = s.heatRes := rfl
@[simp] theorem Dev.setShutter_thUp (s : Dev) (n : Fin 16) (x : Shutter) : (s.setShutter n x).thUp = s.thUp := rfl
@[simp] theorem Dev.setShutter_thDown (s : Dev) (n : Fin 16) (x : Shutter) : (s.setShutter n x).thDown = s.thDown := rfl
@[simp] theorem Dev.setShutter_thTrip (s : Dev) (n : Fin 16) (x : Shutter) : (s.setShutter n x).thTrip = s.thTrip := rfl
@[simp] theorem Dev.setShutter_thFloors (s : Dev) (n : Fin 16) (x : Shutter) : (s.setShutter n x).thFloors = s.thFloors := rfl
@[simp] theorem Dev.setShutter_thHot (s : Dev) (n : Fin 16) (x : Shutter) : (s.setShutter n x).thHot = s.thHot := rfl
@[simp] theorem Dev.setShutter_thCause (s : Dev) (n : Fin 16) (x : Shutter) : (s.setShutter n x).thCause = s.thCause := rfl
@[simp] theorem Dev.setShutter_headMw (s : Dev) (n : Fin 16) (x : Shutter) : (s.setShutter n x).headMw = s.headMw := rfl
@[simp] theorem Dev.setShutter_rstoAt (s : Dev) (n : Fin 16) (x : Shutter) : (s.setShutter n x).rstoAt = s.rstoAt := rfl
@[simp] theorem Dev.setShutter_cascAt (s : Dev) (n : Fin 16) (x : Shutter) : (s.setShutter n x).cascAt = s.cascAt := rfl
@[simp] theorem Dev.setShutter_seqIn (s : Dev) (n : Fin 16) (x : Shutter) : (s.setShutter n x).seqIn = s.seqIn := rfl
@[simp] theorem Dev.setShutter_closeAt (s : Dev) (n : Fin 16) (x : Shutter) : (s.setShutter n x).closeAt = s.closeAt := rfl
@[simp] theorem Dev.setShutter_sampled (s : Dev) (n : Fin 16) (x : Shutter) : (s.setShutter n x).sampled = s.sampled := rfl
@[simp] theorem Dev.setShutter_vaultRails (s : Dev) (n : Fin 16) (x : Shutter) : (s.setShutter n x).vaultRails = s.vaultRails := rfl
@[simp] theorem Dev.setShutter_vaultMargins (s : Dev) (n : Fin 16) (x : Shutter) : (s.setShutter n x).vaultMargins = s.vaultMargins := rfl
@[simp] theorem Dev.setShutter_scs (s : Dev) (n : Fin 16) (x : Shutter) : (s.setShutter n x).scs = s.scs := rfl
@[simp] theorem Dev.setShutter_phs (s : Dev) (n : Fin 16) (x : Shutter) : (s.setShutter n x).phs = s.phs := rfl
@[simp] theorem Dev.setShutter_mdAt (s : Dev) (n : Fin 16) (x : Shutter) : (s.setShutter n x).mdAt = s.mdAt := rfl
@[simp] theorem Dev.setShutter_mgEnd (s : Dev) (n : Fin 16) (x : Shutter) : (s.setShutter n x).mgEnd = s.mgEnd := rfl
@[simp] theorem Dev.setShutter_pwr (s : Dev) (n : Fin 16) (x : Shutter) : (s.setShutter n x).pwr = s.pwr := rfl
@[simp] theorem Dev.setShutter_checks (s : Dev) (n : Fin 16) (x : Shutter) : (s.setShutter n x).checks = s.checks := rfl
@[simp] theorem Dev.setShutter_arch (s : Dev) (n : Fin 16) (x : Shutter) : (s.setShutter n x).arch = s.arch := rfl
@[simp] theorem Dev.setShutter_iramBad (s : Dev) (n : Fin 16) (x : Shutter) : (s.setShutter n x).iramBad = s.iramBad := rfl
@[simp] theorem Dev.setShutter_dramBad (s : Dev) (n : Fin 16) (x : Shutter) : (s.setShutter n x).dramBad = s.dramBad := rfl
@[simp] theorem Dev.setShutter_ports (s : Dev) (n : Fin 16) (x : Shutter) : (s.setShutter n x).ports = s.ports := rfl
@[simp] theorem Dev.setShutter_can (s : Dev) (n : Fin 16) (x : Shutter) : (s.setShutter n x).can = s.can := rfl
@[simp] theorem Dev.setShutter_smbArl (s : Dev) (n : Fin 16) (x : Shutter) : (s.setShutter n x).smbArl = s.smbArl := rfl
@[simp] theorem Dev.setShutter_tapIr (s : Dev) (n : Fin 16) (x : Shutter) : (s.setShutter n x).tapIr = s.tapIr := rfl
@[simp] theorem Dev.setShutter_tapCells (s : Dev) (n : Fin 16) (x : Shutter) : (s.setShutter n x).tapCells = s.tapCells := rfl
@[simp] theorem Dev.setShutter_tapIrOut (s : Dev) (n : Fin 16) (x : Shutter) : (s.setShutter n x).tapIrOut = s.tapIrOut := rfl
@[simp] theorem Dev.setShutter_tapOut (s : Dev) (n : Fin 16) (x : Shutter) : (s.setShutter n x).tapOut = s.tapOut := rfl
@[simp] theorem Dev.setShutter_rail (s : Dev) (n : Fin 16) (x : Shutter) (m : Fin 48) : (s.setShutter n x).rail m = s.rail m := rfl
@[simp] theorem Dev.setShutter_teller (s : Dev) (n : Fin 16) (x : Shutter) (j : Fin 8) : (s.setShutter n x).teller j = s.teller j := rfl
@[simp] theorem Dev.setShutter_door (s : Dev) (n : Fin 16) (x : Shutter) (y : Fin 4) : (s.setShutter n x).door y = s.door y := rfl
@[simp] theorem Dev.setShutter_owner (s : Dev) (n : Fin 16) (x : Shutter) (q : BitVec 8) : (s.setShutter n x).owner q = s.owner q := rfl
@[simp] theorem Dev.setShutter_cv (s : Dev) (n : Fin 16) (x : Shutter) (z : Fin 6) : (s.setShutter n x).cv z = s.cv z := rfl
@[simp] theorem Dev.setShutter_cap (s : Dev) (n : Fin 16) (x : Shutter) (z : Fin 6) : (s.setShutter n x).cap z = s.cap z := rfl
@[simp] theorem Dev.setShutter_sc (s : Dev) (n : Fin 16) (x : Shutter) (m : Fin 8) : (s.setShutter n x).sc m = s.sc m := rfl
@[simp] theorem Dev.setShutter_ph (s : Dev) (n : Fin 16) (x : Shutter) (q : Fin 24) : (s.setShutter n x).ph q = s.ph q := rfl
@[simp] theorem Dev.setShutter_port (s : Dev) (n : Fin 16) (x : Shutter) (y : Fin 4) : (s.setShutter n x).port y = s.port y := rfl
@[simp] theorem Dev.setShutter_get (s : Dev) (n : Fin 16) (x : Shutter) (g : Fld) : (s.setShutter n x).get g = s.get g := rfl

@[simp] theorem Dev.advance_fresh (s : Dev) (ts : Nat) : (s.advance ts).fresh = s.fresh := rfl
@[simp] theorem Dev.advance_dev (s : Dev) (ts : Nat) : (s.advance ts).dev = s.dev := rfl
@[simp] theorem Dev.advance_regs (s : Dev) (ts : Nat) : (s.advance ts).regs = s.regs := rfl
@[simp] theorem Dev.advance_rails (s : Dev) (ts : Nat) : (s.advance ts).rails = s.rails := rfl
@[simp] theorem Dev.advance_tellers (s : Dev) (ts : Nat) : (s.advance ts).tellers = s.tellers := rfl
@[simp] theorem Dev.advance_owners (s : Dev) (ts : Nat) : (s.advance ts).owners = s.owners := rfl
@[simp] theorem Dev.advance_doors (s : Dev) (ts : Nat) : (s.advance ts).doors = s.doors := rfl
@[simp] theorem Dev.advance_vault (s : Dev) (ts : Nat) : (s.advance ts).vault = s.vault := rfl
@[simp] theorem Dev.advance_usecOn (s : Dev) (ts : Nat) : (s.advance ts).usecOn = s.usecOn := rfl
@[simp] theorem Dev.advance_usec0 (s : Dev) (ts : Nat) : (s.advance ts).usec0 = s.usec0 := rfl
@[simp] theorem Dev.advance_shadowAt (s : Dev) (ts : Nat) : (s.advance ts).shadowAt = s.shadowAt := rfl
@[simp] theorem Dev.advance_bootno (s : Dev) (ts : Nat) : (s.advance ts).bootno = s.bootno := rfl
@[simp] theorem Dev.advance_bootnoOk (s : Dev) (ts : Nat) : (s.advance ts).bootnoOk = s.bootnoOk := rfl
@[simp] theorem Dev.advance_trims (s : Dev) (ts : Nat) : (s.advance ts).trims = s.trims := rfl
@[simp] theorem Dev.advance_rev (s : Dev) (ts : Nat) : (s.advance ts).rev = s.rev := rfl
@[simp] theorem Dev.advance_angle (s : Dev) (ts : Nat) : (s.advance ts).angle = s.angle := rfl
@[simp] theorem Dev.advance_tal (s : Dev) (ts : Nat) : (s.advance ts).tal = s.tal := rfl
@[simp] theorem Dev.advance_shutters (s : Dev) (ts : Nat) : (s.advance ts).shutters = s.shutters := rfl
@[simp] theorem Dev.advance_cvs (s : Dev) (ts : Nat) : (s.advance ts).cvs = s.cvs := rfl
@[simp] theorem Dev.advance_caps (s : Dev) (ts : Nat) : (s.advance ts).caps = s.caps := rfl
@[simp] theorem Dev.advance_stats (s : Dev) (ts : Nat) : (s.advance ts).stats = s.stats := rfl
@[simp] theorem Dev.advance_statAt (s : Dev) (ts : Nat) : (s.advance ts).statAt = s.statAt := rfl
@[simp] theorem Dev.advance_statLen (s : Dev) (ts : Nat) : (s.advance ts).statLen = s.statLen := rfl
@[simp] theorem Dev.advance_cvFast (s : Dev) (ts : Nat) : (s.advance ts).cvFast = s.cvFast := rfl
@[simp] theorem Dev.advance_tickAt (s : Dev) (ts : Nat) : (s.advance ts).tickAt = s.tickAt := rfl
@[simp] theorem Dev.advance_jq (s : Dev) (ts : Nat) : (s.advance ts).jq = s.jq := rfl
@[simp] theorem Dev.advance_jIn (s : Dev) (ts : Nat) : (s.advance ts).jIn = s.jIn := rfl
@[simp] theorem Dev.advance_jLost (s : Dev) (ts : Nat) : (s.advance ts).jLost = s.jLost := rfl
@[simp] theorem Dev.advance_folio (s : Dev) (ts : Nat) : (s.advance ts).folio = s.folio := rfl
@[simp] theorem Dev.advance_folioVer (s : Dev) (ts : Nat) : (s.advance ts).folioVer = s.folioVer := rfl
@[simp] theorem Dev.advance_ledgBad (s : Dev) (ts : Nat) : (s.advance ts).ledgBad = s.ledgBad := rfl
@[simp] theorem Dev.advance_recent (s : Dev) (ts : Nat) : (s.advance ts).recent = s.recent := rfl
@[simp] theorem Dev.advance_v18ok (s : Dev) (ts : Nat) : (s.advance ts).v18ok = s.v18ok := rfl
@[simp] theorem Dev.advance_scrubAt (s : Dev) (ts : Nat) : (s.advance ts).scrubAt = s.scrubAt := rfl
@[simp] theorem Dev.advance_afill (s : Dev) (ts : Nat) : (s.advance ts).afill = s.afill := rfl
@[simp] theorem Dev.advance_wrapCopy (s : Dev) (ts : Nat) : (s.advance ts).wrapCopy = s.wrapCopy := rfl
@[simp] theorem Dev.advance_jck (s : Dev) (ts : Nat) : (s.advance ts).jck = s.jck := rfl
@[simp] theorem Dev.advance_folioDone (s : Dev) (ts : Nat) : (s.advance ts).folioDone = s.folioDone := rfl
@[simp] theorem Dev.advance_folioVdone (s : Dev) (ts : Nat) : (s.advance ts).folioVdone = s.folioVdone := rfl
@[simp] theorem Dev.advance_hday (s : Dev) (ts : Nat) : (s.advance ts).hday = s.hday := rfl
@[simp] theorem Dev.advance_hsaved (s : Dev) (ts : Nat) : (s.advance ts).hsaved = s.hsaved := rfl
@[simp] theorem Dev.advance_holder (s : Dev) (ts : Nat) : (s.advance ts).holder = s.holder := rfl
@[simp] theorem Dev.advance_hcopy (s : Dev) (ts : Nat) : (s.advance ts).hcopy = s.hcopy := rfl
@[simp] theorem Dev.advance_copyVer (s : Dev) (ts : Nat) : (s.advance ts).copyVer = s.copyVer := rfl
@[simp] theorem Dev.advance_hClean (s : Dev) (ts : Nat) : (s.advance ts).hClean = s.hClean := rfl
@[simp] theorem Dev.advance_calOpen (s : Dev) (ts : Nat) : (s.advance ts).calOpen = s.calOpen := rfl
@[simp] theorem Dev.advance_calKey (s : Dev) (ts : Nat) : (s.advance ts).calKey = s.calKey := rfl
@[simp] theorem Dev.advance_calDirty (s : Dev) (ts : Nat) : (s.advance ts).calDirty = s.calDirty := rfl
@[simp] theorem Dev.advance_probes (s : Dev) (ts : Nat) : (s.advance ts).probes = s.probes := rfl
@[simp] theorem Dev.advance_probing (s : Dev) (ts : Nat) : (s.advance ts).probing = s.probing := rfl
@[simp] theorem Dev.advance_lat (s : Dev) (ts : Nat) : (s.advance ts).lat = s.lat := rfl
@[simp] theorem Dev.advance_smbRel (s : Dev) (ts : Nat) : (s.advance ts).smbRel = s.smbRel := rfl
@[simp] theorem Dev.advance_evq (s : Dev) (ts : Nat) : (s.advance ts).evq = s.evq := rfl
@[simp] theorem Dev.advance_evOvf (s : Dev) (ts : Nat) : (s.advance ts).evOvf = s.evOvf := rfl
@[simp] theorem Dev.advance_evDropped (s : Dev) (ts : Nat) : (s.advance ts).evDropped = s.evDropped := rfl
@[simp] theorem Dev.advance_evSent (s : Dev) (ts : Nat) : (s.advance ts).evSent = s.evSent := rfl
@[simp] theorem Dev.advance_awake (s : Dev) (ts : Nat) : (s.advance ts).awake = s.awake := rfl
@[simp] theorem Dev.advance_watchExit (s : Dev) (ts : Nat) : (s.advance ts).watchExit = s.watchExit := rfl
@[simp] theorem Dev.advance_inrushUj (s : Dev) (ts : Nat) : (s.advance ts).inrushUj = s.inrushUj := rfl
@[simp] theorem Dev.advance_preqs (s : Dev) (ts : Nat) : (s.advance ts).preqs = s.preqs := rfl
@[simp] theorem Dev.advance_schedAt (s : Dev) (ts : Nat) : (s.advance ts).schedAt = s.schedAt := rfl
@[simp] theorem Dev.advance_holdO (s : Dev) (ts : Nat) : (s.advance ts).holdO = s.holdO := rfl
@[simp] theorem Dev.advance_holdE (s : Dev) (ts : Nat) : (s.advance ts).holdE = s.holdE := rfl
@[simp] theorem Dev.advance_holdAt (s : Dev) (ts : Nat) : (s.advance ts).holdAt = s.holdAt := rfl
@[simp] theorem Dev.advance_holdShort (s : Dev) (ts : Nat) : (s.advance ts).holdShort = s.holdShort := rfl
@[simp] theorem Dev.advance_heatRes (s : Dev) (ts : Nat) : (s.advance ts).heatRes = s.heatRes := rfl
@[simp] theorem Dev.advance_thUp (s : Dev) (ts : Nat) : (s.advance ts).thUp = s.thUp := rfl
@[simp] theorem Dev.advance_thDown (s : Dev) (ts : Nat) : (s.advance ts).thDown = s.thDown := rfl
@[simp] theorem Dev.advance_thTrip (s : Dev) (ts : Nat) : (s.advance ts).thTrip = s.thTrip := rfl
@[simp] theorem Dev.advance_thFloors (s : Dev) (ts : Nat) : (s.advance ts).thFloors = s.thFloors := rfl
@[simp] theorem Dev.advance_thHot (s : Dev) (ts : Nat) : (s.advance ts).thHot = s.thHot := rfl
@[simp] theorem Dev.advance_thCause (s : Dev) (ts : Nat) : (s.advance ts).thCause = s.thCause := rfl
@[simp] theorem Dev.advance_headMw (s : Dev) (ts : Nat) : (s.advance ts).headMw = s.headMw := rfl
@[simp] theorem Dev.advance_rstoAt (s : Dev) (ts : Nat) : (s.advance ts).rstoAt = s.rstoAt := rfl
@[simp] theorem Dev.advance_cascAt (s : Dev) (ts : Nat) : (s.advance ts).cascAt = s.cascAt := rfl
@[simp] theorem Dev.advance_seqIn (s : Dev) (ts : Nat) : (s.advance ts).seqIn = s.seqIn := rfl
@[simp] theorem Dev.advance_closeAt (s : Dev) (ts : Nat) : (s.advance ts).closeAt = s.closeAt := rfl
@[simp] theorem Dev.advance_sampled (s : Dev) (ts : Nat) : (s.advance ts).sampled = s.sampled := rfl
@[simp] theorem Dev.advance_vaultRails (s : Dev) (ts : Nat) : (s.advance ts).vaultRails = s.vaultRails := rfl
@[simp] theorem Dev.advance_vaultMargins (s : Dev) (ts : Nat) : (s.advance ts).vaultMargins = s.vaultMargins := rfl
@[simp] theorem Dev.advance_scs (s : Dev) (ts : Nat) : (s.advance ts).scs = s.scs := rfl
@[simp] theorem Dev.advance_phs (s : Dev) (ts : Nat) : (s.advance ts).phs = s.phs := rfl
@[simp] theorem Dev.advance_mdAt (s : Dev) (ts : Nat) : (s.advance ts).mdAt = s.mdAt := rfl
@[simp] theorem Dev.advance_mgEnd (s : Dev) (ts : Nat) : (s.advance ts).mgEnd = s.mgEnd := rfl
@[simp] theorem Dev.advance_pwr (s : Dev) (ts : Nat) : (s.advance ts).pwr = s.pwr := rfl
@[simp] theorem Dev.advance_checks (s : Dev) (ts : Nat) : (s.advance ts).checks = s.checks := rfl
@[simp] theorem Dev.advance_arch (s : Dev) (ts : Nat) : (s.advance ts).arch = s.arch := rfl
@[simp] theorem Dev.advance_iramBad (s : Dev) (ts : Nat) : (s.advance ts).iramBad = s.iramBad := rfl
@[simp] theorem Dev.advance_dramBad (s : Dev) (ts : Nat) : (s.advance ts).dramBad = s.dramBad := rfl
@[simp] theorem Dev.advance_ports (s : Dev) (ts : Nat) : (s.advance ts).ports = s.ports := rfl
@[simp] theorem Dev.advance_can (s : Dev) (ts : Nat) : (s.advance ts).can = s.can := rfl
@[simp] theorem Dev.advance_smbArl (s : Dev) (ts : Nat) : (s.advance ts).smbArl = s.smbArl := rfl
@[simp] theorem Dev.advance_tapIr (s : Dev) (ts : Nat) : (s.advance ts).tapIr = s.tapIr := rfl
@[simp] theorem Dev.advance_tapCells (s : Dev) (ts : Nat) : (s.advance ts).tapCells = s.tapCells := rfl
@[simp] theorem Dev.advance_tapIrOut (s : Dev) (ts : Nat) : (s.advance ts).tapIrOut = s.tapIrOut := rfl
@[simp] theorem Dev.advance_tapOut (s : Dev) (ts : Nat) : (s.advance ts).tapOut = s.tapOut := rfl
@[simp] theorem Dev.advance_rail (s : Dev) (ts : Nat) (m : Fin 48) : (s.advance ts).rail m = s.rail m := rfl
@[simp] theorem Dev.advance_teller (s : Dev) (ts : Nat) (j : Fin 8) : (s.advance ts).teller j = s.teller j := rfl
@[simp] theorem Dev.advance_door (s : Dev) (ts : Nat) (y : Fin 4) : (s.advance ts).door y = s.door y := rfl
@[simp] theorem Dev.advance_owner (s : Dev) (ts : Nat) (q : BitVec 8) : (s.advance ts).owner q = s.owner q := rfl
@[simp] theorem Dev.advance_cv (s : Dev) (ts : Nat) (z : Fin 6) : (s.advance ts).cv z = s.cv z := rfl
@[simp] theorem Dev.advance_cap (s : Dev) (ts : Nat) (z : Fin 6) : (s.advance ts).cap z = s.cap z := rfl
@[simp] theorem Dev.advance_sc (s : Dev) (ts : Nat) (m : Fin 8) : (s.advance ts).sc m = s.sc m := rfl
@[simp] theorem Dev.advance_ph (s : Dev) (ts : Nat) (q : Fin 24) : (s.advance ts).ph q = s.ph q := rfl
@[simp] theorem Dev.advance_port (s : Dev) (ts : Nat) (y : Fin 4) : (s.advance ts).port y = s.port y := rfl
@[simp] theorem Dev.advance_get (s : Dev) (ts : Nat) (g : Fld) : (s.advance ts).get g = s.get g := rfl

@[simp] theorem Dev.spent_now (s : Dev) : (s.spent).now = s.now := rfl
@[simp] theorem Dev.spent_before (s : Dev) : (s.spent).before = s.before := rfl
@[simp] theorem Dev.spent_dev (s : Dev) : (s.spent).dev = s.dev := rfl
@[simp] theorem Dev.spent_regs (s : Dev) : (s.spent).regs = s.regs := rfl
@[simp] theorem Dev.spent_rails (s : Dev) : (s.spent).rails = s.rails := rfl
@[simp] theorem Dev.spent_tellers (s : Dev) : (s.spent).tellers = s.tellers := rfl
@[simp] theorem Dev.spent_owners (s : Dev) : (s.spent).owners = s.owners := rfl
@[simp] theorem Dev.spent_doors (s : Dev) : (s.spent).doors = s.doors := rfl
@[simp] theorem Dev.spent_vault (s : Dev) : (s.spent).vault = s.vault := rfl
@[simp] theorem Dev.spent_usecOn (s : Dev) : (s.spent).usecOn = s.usecOn := rfl
@[simp] theorem Dev.spent_usec0 (s : Dev) : (s.spent).usec0 = s.usec0 := rfl
@[simp] theorem Dev.spent_shadowAt (s : Dev) : (s.spent).shadowAt = s.shadowAt := rfl
@[simp] theorem Dev.spent_bootno (s : Dev) : (s.spent).bootno = s.bootno := rfl
@[simp] theorem Dev.spent_bootnoOk (s : Dev) : (s.spent).bootnoOk = s.bootnoOk := rfl
@[simp] theorem Dev.spent_trims (s : Dev) : (s.spent).trims = s.trims := rfl
@[simp] theorem Dev.spent_rev (s : Dev) : (s.spent).rev = s.rev := rfl
@[simp] theorem Dev.spent_angle (s : Dev) : (s.spent).angle = s.angle := rfl
@[simp] theorem Dev.spent_tal (s : Dev) : (s.spent).tal = s.tal := rfl
@[simp] theorem Dev.spent_shutters (s : Dev) : (s.spent).shutters = s.shutters := rfl
@[simp] theorem Dev.spent_cvs (s : Dev) : (s.spent).cvs = s.cvs := rfl
@[simp] theorem Dev.spent_caps (s : Dev) : (s.spent).caps = s.caps := rfl
@[simp] theorem Dev.spent_stats (s : Dev) : (s.spent).stats = s.stats := rfl
@[simp] theorem Dev.spent_statAt (s : Dev) : (s.spent).statAt = s.statAt := rfl
@[simp] theorem Dev.spent_statLen (s : Dev) : (s.spent).statLen = s.statLen := rfl
@[simp] theorem Dev.spent_cvFast (s : Dev) : (s.spent).cvFast = s.cvFast := rfl
@[simp] theorem Dev.spent_tickAt (s : Dev) : (s.spent).tickAt = s.tickAt := rfl
@[simp] theorem Dev.spent_jq (s : Dev) : (s.spent).jq = s.jq := rfl
@[simp] theorem Dev.spent_jIn (s : Dev) : (s.spent).jIn = s.jIn := rfl
@[simp] theorem Dev.spent_jLost (s : Dev) : (s.spent).jLost = s.jLost := rfl
@[simp] theorem Dev.spent_folio (s : Dev) : (s.spent).folio = s.folio := rfl
@[simp] theorem Dev.spent_folioVer (s : Dev) : (s.spent).folioVer = s.folioVer := rfl
@[simp] theorem Dev.spent_ledgBad (s : Dev) : (s.spent).ledgBad = s.ledgBad := rfl
@[simp] theorem Dev.spent_recent (s : Dev) : (s.spent).recent = s.recent := rfl
@[simp] theorem Dev.spent_v18ok (s : Dev) : (s.spent).v18ok = s.v18ok := rfl
@[simp] theorem Dev.spent_scrubAt (s : Dev) : (s.spent).scrubAt = s.scrubAt := rfl
@[simp] theorem Dev.spent_afill (s : Dev) : (s.spent).afill = s.afill := rfl
@[simp] theorem Dev.spent_wrapCopy (s : Dev) : (s.spent).wrapCopy = s.wrapCopy := rfl
@[simp] theorem Dev.spent_jck (s : Dev) : (s.spent).jck = s.jck := rfl
@[simp] theorem Dev.spent_folioDone (s : Dev) : (s.spent).folioDone = s.folioDone := rfl
@[simp] theorem Dev.spent_folioVdone (s : Dev) : (s.spent).folioVdone = s.folioVdone := rfl
@[simp] theorem Dev.spent_hday (s : Dev) : (s.spent).hday = s.hday := rfl
@[simp] theorem Dev.spent_hsaved (s : Dev) : (s.spent).hsaved = s.hsaved := rfl
@[simp] theorem Dev.spent_holder (s : Dev) : (s.spent).holder = s.holder := rfl
@[simp] theorem Dev.spent_hcopy (s : Dev) : (s.spent).hcopy = s.hcopy := rfl
@[simp] theorem Dev.spent_copyVer (s : Dev) : (s.spent).copyVer = s.copyVer := rfl
@[simp] theorem Dev.spent_hClean (s : Dev) : (s.spent).hClean = s.hClean := rfl
@[simp] theorem Dev.spent_calOpen (s : Dev) : (s.spent).calOpen = s.calOpen := rfl
@[simp] theorem Dev.spent_calKey (s : Dev) : (s.spent).calKey = s.calKey := rfl
@[simp] theorem Dev.spent_calDirty (s : Dev) : (s.spent).calDirty = s.calDirty := rfl
@[simp] theorem Dev.spent_probes (s : Dev) : (s.spent).probes = s.probes := rfl
@[simp] theorem Dev.spent_probing (s : Dev) : (s.spent).probing = s.probing := rfl
@[simp] theorem Dev.spent_lat (s : Dev) : (s.spent).lat = s.lat := rfl
@[simp] theorem Dev.spent_smbRel (s : Dev) : (s.spent).smbRel = s.smbRel := rfl
@[simp] theorem Dev.spent_evq (s : Dev) : (s.spent).evq = s.evq := rfl
@[simp] theorem Dev.spent_evOvf (s : Dev) : (s.spent).evOvf = s.evOvf := rfl
@[simp] theorem Dev.spent_evDropped (s : Dev) : (s.spent).evDropped = s.evDropped := rfl
@[simp] theorem Dev.spent_evSent (s : Dev) : (s.spent).evSent = s.evSent := rfl
@[simp] theorem Dev.spent_awake (s : Dev) : (s.spent).awake = s.awake := rfl
@[simp] theorem Dev.spent_watchExit (s : Dev) : (s.spent).watchExit = s.watchExit := rfl
@[simp] theorem Dev.spent_inrushUj (s : Dev) : (s.spent).inrushUj = s.inrushUj := rfl
@[simp] theorem Dev.spent_preqs (s : Dev) : (s.spent).preqs = s.preqs := rfl
@[simp] theorem Dev.spent_schedAt (s : Dev) : (s.spent).schedAt = s.schedAt := rfl
@[simp] theorem Dev.spent_holdO (s : Dev) : (s.spent).holdO = s.holdO := rfl
@[simp] theorem Dev.spent_holdE (s : Dev) : (s.spent).holdE = s.holdE := rfl
@[simp] theorem Dev.spent_holdAt (s : Dev) : (s.spent).holdAt = s.holdAt := rfl
@[simp] theorem Dev.spent_holdShort (s : Dev) : (s.spent).holdShort = s.holdShort := rfl
@[simp] theorem Dev.spent_heatRes (s : Dev) : (s.spent).heatRes = s.heatRes := rfl
@[simp] theorem Dev.spent_thUp (s : Dev) : (s.spent).thUp = s.thUp := rfl
@[simp] theorem Dev.spent_thDown (s : Dev) : (s.spent).thDown = s.thDown := rfl
@[simp] theorem Dev.spent_thTrip (s : Dev) : (s.spent).thTrip = s.thTrip := rfl
@[simp] theorem Dev.spent_thFloors (s : Dev) : (s.spent).thFloors = s.thFloors := rfl
@[simp] theorem Dev.spent_thHot (s : Dev) : (s.spent).thHot = s.thHot := rfl
@[simp] theorem Dev.spent_thCause (s : Dev) : (s.spent).thCause = s.thCause := rfl
@[simp] theorem Dev.spent_headMw (s : Dev) : (s.spent).headMw = s.headMw := rfl
@[simp] theorem Dev.spent_rstoAt (s : Dev) : (s.spent).rstoAt = s.rstoAt := rfl
@[simp] theorem Dev.spent_cascAt (s : Dev) : (s.spent).cascAt = s.cascAt := rfl
@[simp] theorem Dev.spent_seqIn (s : Dev) : (s.spent).seqIn = s.seqIn := rfl
@[simp] theorem Dev.spent_closeAt (s : Dev) : (s.spent).closeAt = s.closeAt := rfl
@[simp] theorem Dev.spent_sampled (s : Dev) : (s.spent).sampled = s.sampled := rfl
@[simp] theorem Dev.spent_vaultRails (s : Dev) : (s.spent).vaultRails = s.vaultRails := rfl
@[simp] theorem Dev.spent_vaultMargins (s : Dev) : (s.spent).vaultMargins = s.vaultMargins := rfl
@[simp] theorem Dev.spent_scs (s : Dev) : (s.spent).scs = s.scs := rfl
@[simp] theorem Dev.spent_phs (s : Dev) : (s.spent).phs = s.phs := rfl
@[simp] theorem Dev.spent_mdAt (s : Dev) : (s.spent).mdAt = s.mdAt := rfl
@[simp] theorem Dev.spent_mgEnd (s : Dev) : (s.spent).mgEnd = s.mgEnd := rfl
@[simp] theorem Dev.spent_pwr (s : Dev) : (s.spent).pwr = s.pwr := rfl
@[simp] theorem Dev.spent_checks (s : Dev) : (s.spent).checks = s.checks := rfl
@[simp] theorem Dev.spent_arch (s : Dev) : (s.spent).arch = s.arch := rfl
@[simp] theorem Dev.spent_iramBad (s : Dev) : (s.spent).iramBad = s.iramBad := rfl
@[simp] theorem Dev.spent_dramBad (s : Dev) : (s.spent).dramBad = s.dramBad := rfl
@[simp] theorem Dev.spent_ports (s : Dev) : (s.spent).ports = s.ports := rfl
@[simp] theorem Dev.spent_can (s : Dev) : (s.spent).can = s.can := rfl
@[simp] theorem Dev.spent_smbArl (s : Dev) : (s.spent).smbArl = s.smbArl := rfl
@[simp] theorem Dev.spent_tapIr (s : Dev) : (s.spent).tapIr = s.tapIr := rfl
@[simp] theorem Dev.spent_tapCells (s : Dev) : (s.spent).tapCells = s.tapCells := rfl
@[simp] theorem Dev.spent_tapIrOut (s : Dev) : (s.spent).tapIrOut = s.tapIrOut := rfl
@[simp] theorem Dev.spent_tapOut (s : Dev) : (s.spent).tapOut = s.tapOut := rfl
@[simp] theorem Dev.spent_rail (s : Dev) (m : Fin 48) : (s.spent).rail m = s.rail m := rfl
@[simp] theorem Dev.spent_teller (s : Dev) (j : Fin 8) : (s.spent).teller j = s.teller j := rfl
@[simp] theorem Dev.spent_door (s : Dev) (y : Fin 4) : (s.spent).door y = s.door y := rfl
@[simp] theorem Dev.spent_owner (s : Dev) (q : BitVec 8) : (s.spent).owner q = s.owner q := rfl
@[simp] theorem Dev.spent_cv (s : Dev) (z : Fin 6) : (s.spent).cv z = s.cv z := rfl
@[simp] theorem Dev.spent_cap (s : Dev) (z : Fin 6) : (s.spent).cap z = s.cap z := rfl
@[simp] theorem Dev.spent_sc (s : Dev) (m : Fin 8) : (s.spent).sc m = s.sc m := rfl
@[simp] theorem Dev.spent_ph (s : Dev) (q : Fin 24) : (s.spent).ph q = s.ph q := rfl
@[simp] theorem Dev.spent_port (s : Dev) (y : Fin 4) : (s.spent).port y = s.port y := rfl
@[simp] theorem Dev.spent_get (s : Dev) (g : Fld) : (s.spent).get g = s.get g := rfl

/-! ### Reads after writes -/

/-- A register field read after a write: the value cut to the field's width; every field at another key as before. -/
theorem Dev.get_put (s : Dev) (f g : Fld) (v : Nat) :
    (s.put f v).get g = if g.key = f.key then v % 2 ^ f.w else s.get g := by
  simp only [Dev.get, Dev.put, sget_sset]

@[simp] theorem Dev.get_put_same (s : Dev) (f : Fld) (v : Nat) : (s.put f v).get f = v % 2 ^ f.w := by
  simp [Dev.get_put]

theorem Dev.get_put_ne (s : Dev) {f g : Fld} (v : Nat) (h : g.key ≠ f.key) : (s.put f v).get g = s.get g := by
  simp [Dev.get_put, h]

theorem Dev.rail_setRail (s : Dev) (i j : Fin 48) (x : Rail) :
    (s.setRail i x).rail j = if j = i then x else s.rail j := by
  simp only [Dev.rail, Dev.setRail, vget_set]

@[simp] theorem Dev.rail_setRail_same (s : Dev) (i : Fin 48) (x : Rail) : (s.setRail i x).rail i = x := by simp [Dev.rail_setRail]

theorem Dev.rail_setRail_ne (s : Dev) {i j : Fin 48} (x : Rail) (h : j ≠ i) : (s.setRail i x).rail j = s.rail j := by
  simp [Dev.rail_setRail, h]

/-- The later of two updates of one place stands. -/
@[simp] theorem Dev.setRail_setRail (s : Dev) (i : Fin 48) (x y : Rail) : (s.setRail i x).setRail i y = s.setRail i y := by
  simp [Dev.setRail]

theorem Dev.teller_setTeller (s : Dev) (i j : Fin 8) (x : Teller) :
    (s.setTeller i x).teller j = if j = i then x else s.teller j := by
  simp only [Dev.teller, Dev.setTeller, vget_set]

@[simp] theorem Dev.teller_setTeller_same (s : Dev) (i : Fin 8) (x : Teller) : (s.setTeller i x).teller i = x := by simp [Dev.teller_setTeller]

theorem Dev.teller_setTeller_ne (s : Dev) {i j : Fin 8} (x : Teller) (h : j ≠ i) : (s.setTeller i x).teller j = s.teller j := by
  simp [Dev.teller_setTeller, h]

/-- The later of two updates of one place stands. -/
@[simp] theorem Dev.setTeller_setTeller (s : Dev) (i : Fin 8) (x y : Teller) : (s.setTeller i x).setTeller i y = s.setTeller i y := by
  simp [Dev.setTeller]

theorem Dev.door_setDoor (s : Dev) (i j : Fin 4) (x : Door) :
    (s.setDoor i x).door j = if j = i then x else s.door j := by
  simp only [Dev.door, Dev.setDoor, vget_set]

@[simp] theorem Dev.door_setDoor_same (s : Dev) (i : Fin 4) (x : Door) : (s.setDoor i x).door i = x := by simp [Dev.door_setDoor]

theorem Dev.door_setDoor_ne (s : Dev) {i j : Fin 4} (x : Door) (h : j ≠ i) : (s.setDoor i x).door j = s.door j := by
  simp [Dev.door_setDoor, h]

/-- The later of two updates of one place stands. -/
@[simp] theorem Dev.setDoor_setDoor (s : Dev) (i : Fin 4) (x y : Door) : (s.setDoor i x).setDoor i y = s.setDoor i y := by
  simp [Dev.setDoor]

theorem Dev.cv_setCv (s : Dev) (i j : Fin 6) (x : Conv) :
    (s.setCv i x).cv j = if j = i then x else s.cv j := by
  simp only [Dev.cv, Dev.setCv, vget_set]

@[simp] theorem Dev.cv_setCv_same (s : Dev) (i : Fin 6) (x : Conv) : (s.setCv i x).cv i = x := by simp [Dev.cv_setCv]

theorem Dev.cv_setCv_ne (s : Dev) {i j : Fin 6} (x : Conv) (h : j ≠ i) : (s.setCv i x).cv j = s.cv j := by
  simp [Dev.cv_setCv, h]

/-- The later of two updates of one place stands. -/
@[simp] theorem Dev.setCv_setCv (s : Dev) (i : Fin 6) (x y : Conv) : (s.setCv i x).setCv i y = s.setCv i y := by
  simp [Dev.setCv]

theorem Dev.cap_setCap (s : Dev) (i j : Fin 6) (x : Cap) :
    (s.setCap i x).cap j = if j = i then x else s.cap j := by
  simp only [Dev.cap, Dev.setCap, vget_set]

@[simp] theorem Dev.cap_setCap_same (s : Dev) (i : Fin 6) (x : Cap) : (s.setCap i x).cap i = x := by simp [Dev.cap_setCap]

theorem Dev.cap_setCap_ne (s : Dev) {i j : Fin 6} (x : Cap) (h : j ≠ i) : (s.setCap i x).cap j = s.cap j := by
  simp [Dev.cap_setCap, h]

/-- The later of two updates of one place stands. -/
@[simp] theorem Dev.setCap_setCap (s : Dev) (i : Fin 6) (x y : Cap) : (s.setCap i x).setCap i y = s.setCap i y := by
  simp [Dev.setCap]

theorem Dev.sc_setSc (s : Dev) (i j : Fin 8) (x : Sc) :
    (s.setSc i x).sc j = if j = i then x else s.sc j := by
  simp only [Dev.sc, Dev.setSc, vget_set]

@[simp] theorem Dev.sc_setSc_same (s : Dev) (i : Fin 8) (x : Sc) : (s.setSc i x).sc i = x := by simp [Dev.sc_setSc]

theorem Dev.sc_setSc_ne (s : Dev) {i j : Fin 8} (x : Sc) (h : j ≠ i) : (s.setSc i x).sc j = s.sc j := by
  simp [Dev.sc_setSc, h]

/-- The later of two updates of one place stands. -/
@[simp] theorem Dev.setSc_setSc (s : Dev) (i : Fin 8) (x y : Sc) : (s.setSc i x).setSc i y = s.setSc i y := by
  simp [Dev.setSc]

theorem Dev.ph_setPh (s : Dev) (i j : Fin 24) (x : Ph) :
    (s.setPh i x).ph j = if j = i then x else s.ph j := by
  simp only [Dev.ph, Dev.setPh, vget_set]

@[simp] theorem Dev.ph_setPh_same (s : Dev) (i : Fin 24) (x : Ph) : (s.setPh i x).ph i = x := by simp [Dev.ph_setPh]

theorem Dev.ph_setPh_ne (s : Dev) {i j : Fin 24} (x : Ph) (h : j ≠ i) : (s.setPh i x).ph j = s.ph j := by
  simp [Dev.ph_setPh, h]

/-- The later of two updates of one place stands. -/
@[simp] theorem Dev.setPh_setPh (s : Dev) (i : Fin 24) (x y : Ph) : (s.setPh i x).setPh i y = s.setPh i y := by
  simp [Dev.setPh]

theorem Dev.port_setPort (s : Dev) (i j : Fin 4) (x : Port) :
    (s.setPort i x).port j = if j = i then x else s.port j := by
  simp only [Dev.port, Dev.setPort, vget_set]

@[simp] theorem Dev.port_setPort_same (s : Dev) (i : Fin 4) (x : Port) : (s.setPort i x).port i = x := by simp [Dev.port_setPort]

theorem Dev.port_setPort_ne (s : Dev) {i j : Fin 4} (x : Port) (h : j ≠ i) : (s.setPort i x).port j = s.port j := by
  simp [Dev.port_setPort, h]

/-- The later of two updates of one place stands. -/
@[simp] theorem Dev.setPort_setPort (s : Dev) (i : Fin 4) (x y : Port) : (s.setPort i x).setPort i y = s.setPort i y := by
  simp [Dev.setPort]

theorem Dev.owner_setOwner (s : Dev) (r q : BitVec 8) (o : Owner) :
    (s.setOwner r o).owner q = if q = r then o else s.owner q := by
  have h : (q.toFin = r.toFin) ↔ q = r := ⟨fun e => by simpa using congrArg BitVec.ofFin e, fun e => e ▸ rfl⟩
  simp only [Dev.owner, Dev.setOwner, vget_set, h]

@[simp] theorem Dev.advance_now (s : Dev) (ts : Nat) : (s.advance ts).now = max s.now ts := rfl
@[simp] theorem Dev.advance_before (s : Dev) (ts : Nat) : (s.advance ts).before = if s.now < ts then s.regs else s.before := rfl
@[simp] theorem Dev.spent_fresh (s : Dev) : s.spent.fresh = s.fresh + 1 := rfl

/-! ### The whole machine -/

@[simp] theorem State.lift_core (s : State) (f : Dev → Dev) : (s.lift f).core = f s.core := rfl
@[simp] theorem State.lift_pending (s : State) (f : Dev → Dev) : (s.lift f).pending = s.pending := rfl
@[simp] theorem State.lift_ledger (s : State) (f : Dev → Dev) : (s.lift f).ledger = s.ledger := rfl
@[simp] theorem State.lift_iram (s : State) (f : Dev → Dev) : (s.lift f).iram = s.iram := rfl
@[simp] theorem State.lift_dram (s : State) (f : Dev → Dev) : (s.lift f).dram = s.dram := rfl
@[simp] theorem State.lift_bufs (s : State) (f : Dev → Dev) : (s.lift f).bufs = s.bufs := rfl
@[simp] theorem State.lift_lift (s : State) (f g : Dev → Dev) : (s.lift f).lift g = s.lift (fun c => g (f c)) := rfl
@[simp] theorem State.advance_core (s : State) (ts : Nat) : (s.advance ts).core = s.core.advance ts := rfl
@[simp] theorem State.advance_pending (s : State) (ts : Nat) : (s.advance ts).pending = s.pending := rfl
@[simp] theorem State.advance_ledger (s : State) (ts : Nat) : (s.advance ts).ledger = s.ledger := rfl
@[simp] theorem State.advance_iram (s : State) (ts : Nat) : (s.advance ts).iram = s.iram := rfl
@[simp] theorem State.advance_dram (s : State) (ts : Nat) : (s.advance ts).dram = s.dram := rfl
@[simp] theorem State.advance_bufs (s : State) (ts : Nat) : (s.advance ts).bufs = s.bufs := rfl
@[simp] theorem State.lift_id (s : State) : s.lift id = s := rfl

end Sys2Proof.Machine
end

