-- ==== Sys2Proof/Laws/Only.lean ====
section
/-! SUPPORT. Frames: how `Dev.only` is built up over a chain of operations. A lemma `<operation>_only` says which parts an
operation can change; `Dev.only.step` chains them, and `Dev.only.<part>` reads one part off. -/

namespace Sys2Proof.Machine

theorem Dev.same_refl (s : Dev) (p : Part) : s.same s p := by cases p <;> first | rfl | exact ⟨rfl, rfl⟩

theorem Dev.same.trans {s d e : Dev} {p : Part} (h : s.same d p) (g : d.same e p) : s.same e p := by
  cases p <;> first | exact Eq.trans g h | exact ⟨g.1.trans h.1, g.2.trans h.2⟩

theorem Dev.only_refl (s : Dev) (ps : List Part) : s.only ps s := fun p _ => s.same_refl p

/-- A chain of operations: the next one changes parts of the list alone. -/
theorem Dev.only.step {s d e : Dev} {ps qs : List Part} (h : s.only ps d) (g : d.only qs e) (hq : ∀ q ∈ qs, q ∈ ps) :
    s.only ps e := fun p hp => (h p hp).trans (g p (fun hm => hp (hq p hm)))

theorem Dev.only.mono {s d : Dev} {ps qs : List Part} (g : s.only qs d) (hq : ∀ q ∈ qs, q ∈ ps) : s.only ps d :=
  fun p hp => g p (fun hm => hp (hq p hm))

theorem Dev.only_ite {s a b : Dev} {ps : List Part} {c : Prop} [Decidable c] (ha : s.only ps a) (hb : s.only ps b) :
    s.only ps (if c then a else b) := by
  split
  · exact ha
  · exact hb

/-- A fold of an operation that changes parts of the list alone. -/
theorem Dev.only_foldl {α : Type} {ps : List Part} (l : List α) (f : Dev → α → Dev) (hf : ∀ (d : Dev) (x : α), d.only ps (f d x)) (s : Dev) :
    s.only ps (l.foldl f s) := by
  induction l generalizing s with
  | nil => exact s.only_refl ps
  | cons x l ih => exact (hf s x).step (ih (f s x)) (fun _ h => h)

/-! ### Reading one part off a frame -/

theorem Dev.only.now {s d : Dev} {ps : List Part} (h : s.only ps d) (hp : Part.now ∉ ps) : d.now = s.now := (h .now hp).1
theorem Dev.only.before {s d : Dev} {ps : List Part} (h : s.only ps d) (hp : Part.now ∉ ps) : d.before = s.before := (h .now hp).2
theorem Dev.only.fresh {s d : Dev} {ps : List Part} (h : s.only ps d) (hp : Part.fresh ∉ ps) : d.fresh = s.fresh := h .fresh hp
theorem Dev.only.dev {s d : Dev} {ps : List Part} (h : s.only ps d) (hp : Part.dev ∉ ps) : d.dev = s.dev := h .dev hp
theorem Dev.only.regs {s d : Dev} {ps : List Part} (h : s.only ps d) (hp : Part.regs ∉ ps) : d.regs = s.regs := h .regs hp
theorem Dev.only.rails {s d : Dev} {ps : List Part} (h : s.only ps d) (hp : Part.rails ∉ ps) : d.rails = s.rails := h .rails hp
theorem Dev.only.tellers {s d : Dev} {ps : List Part} (h : s.only ps d) (hp : Part.tellers ∉ ps) : d.tellers = s.tellers := h .tellers hp
theorem Dev.only.owners {s d : Dev} {ps : List Part} (h : s.only ps d) (hp : Part.owners ∉ ps) : d.owners = s.owners := h .owners hp
theorem Dev.only.doors {s d : Dev} {ps : List Part} (h : s.only ps d) (hp : Part.doors ∉ ps) : d.doors = s.doors := h .doors hp
theorem Dev.only.vault {s d : Dev} {ps : List Part} (h : s.only ps d) (hp : Part.vault ∉ ps) : d.vault = s.vault := h .vault hp
theorem Dev.only.usecOn {s d : Dev} {ps : List Part} (h : s.only ps d) (hp : Part.usecOn ∉ ps) : d.usecOn = s.usecOn := h .usecOn hp
theorem Dev.only.usec0 {s d : Dev} {ps : List Part} (h : s.only ps d) (hp : Part.usec0 ∉ ps) : d.usec0 = s.usec0 := h .usec0 hp
theorem Dev.only.shadowAt {s d : Dev} {ps : List Part} (h : s.only ps d) (hp : Part.shadowAt ∉ ps) : d.shadowAt = s.shadowAt := h .shadowAt hp
theorem Dev.only.bootno {s d : Dev} {ps : List Part} (h : s.only ps d) (hp : Part.bootno ∉ ps) : d.bootno = s.bootno := h .bootno hp
theorem Dev.only.bootnoOk {s d : Dev} {ps : List Part} (h : s.only ps d) (hp : Part.bootnoOk ∉ ps) : d.bootnoOk = s.bootnoOk := h .bootnoOk hp
theorem Dev.only.trims {s d : Dev} {ps : List Part} (h : s.only ps d) (hp : Part.trims ∉ ps) : d.trims = s.trims := h .trims hp
theorem Dev.only.rev {s d : Dev} {ps : List Part} (h : s.only ps d) (hp : Part.rev ∉ ps) : d.rev = s.rev := h .rev hp
theorem Dev.only.angle {s d : Dev} {ps : List Part} (h : s.only ps d) (hp : Part.angle ∉ ps) : d.angle = s.angle := h .angle hp
theorem Dev.only.tal {s d : Dev} {ps : List Part} (h : s.only ps d) (hp : Part.tal ∉ ps) : d.tal = s.tal := h .tal hp
theorem Dev.only.shutters {s d : Dev} {ps : List Part} (h : s.only ps d) (hp : Part.shutters ∉ ps) : d.shutters = s.shutters := h .shutters hp
theorem Dev.only.cvs {s d : Dev} {ps : List Part} (h : s.only ps d) (hp : Part.cvs ∉ ps) : d.cvs = s.cvs := h .cvs hp
theorem Dev.only.caps {s d : Dev} {ps : List Part} (h : s.only ps d) (hp : Part.caps ∉ ps) : d.caps = s.caps := h .caps hp
theorem Dev.only.stats {s d : Dev} {ps : List Part} (h : s.only ps d) (hp : Part.stats ∉ ps) : d.stats = s.stats := h .stats hp
theorem Dev.only.statAt {s d : Dev} {ps : List Part} (h : s.only ps d) (hp : Part.statAt ∉ ps) : d.statAt = s.statAt := h .statAt hp
theorem Dev.only.statLen {s d : Dev} {ps : List Part} (h : s.only ps d) (hp : Part.statLen ∉ ps) : d.statLen = s.statLen := h .statLen hp
theorem Dev.only.cvFast {s d : Dev} {ps : List Part} (h : s.only ps d) (hp : Part.cvFast ∉ ps) : d.cvFast = s.cvFast := h .cvFast hp
theorem Dev.only.tickAt {s d : Dev} {ps : List Part} (h : s.only ps d) (hp : Part.tickAt ∉ ps) : d.tickAt = s.tickAt := h .tickAt hp
theorem Dev.only.jq {s d : Dev} {ps : List Part} (h : s.only ps d) (hp : Part.jq ∉ ps) : d.jq = s.jq := h .jq hp
theorem Dev.only.jIn {s d : Dev} {ps : List Part} (h : s.only ps d) (hp : Part.jIn ∉ ps) : d.jIn = s.jIn := h .jIn hp
theorem Dev.only.jLost {s d : Dev} {ps : List Part} (h : s.only ps d) (hp : Part.jLost ∉ ps) : d.jLost = s.jLost := h .jLost hp
theorem Dev.only.folio {s d : Dev} {ps : List Part} (h : s.only ps d) (hp : Part.folio ∉ ps) : d.folio = s.folio := h .folio hp
theorem Dev.only.folioVer {s d : Dev} {ps : List Part} (h : s.only ps d) (hp : Part.folioVer ∉ ps) : d.folioVer = s.folioVer := h .folioVer hp
theorem Dev.only.ledgBad {s d : Dev} {ps : List Part} (h : s.only ps d) (hp : Part.ledgBad ∉ ps) : d.ledgBad = s.ledgBad := (h .ledgBad hp).1
theorem Dev.only.recent {s d : Dev} {ps : List Part} (h : s.only ps d) (hp : Part.ledgBad ∉ ps) : d.recent = s.recent := (h .ledgBad hp).2
theorem Dev.only.v18ok {s d : Dev} {ps : List Part} (h : s.only ps d) (hp : Part.v18ok ∉ ps) : d.v18ok = s.v18ok := h .v18ok hp
theorem Dev.only.scrubAt {s d : Dev} {ps : List Part} (h : s.only ps d) (hp : Part.scrubAt ∉ ps) : d.scrubAt = s.scrubAt := h .scrubAt hp
theorem Dev.only.afill {s d : Dev} {ps : List Part} (h : s.only ps d) (hp : Part.afill ∉ ps) : d.afill = s.afill := h .afill hp
theorem Dev.only.wrapCopy {s d : Dev} {ps : List Part} (h : s.only ps d) (hp : Part.wrapCopy ∉ ps) : d.wrapCopy = s.wrapCopy := h .wrapCopy hp
theorem Dev.only.jck {s d : Dev} {ps : List Part} (h : s.only ps d) (hp : Part.jck ∉ ps) : d.jck = s.jck := h .jck hp
theorem Dev.only.folioDone {s d : Dev} {ps : List Part} (h : s.only ps d) (hp : Part.folioDone ∉ ps) : d.folioDone = s.folioDone := h .folioDone hp
theorem Dev.only.folioVdone {s d : Dev} {ps : List Part} (h : s.only ps d) (hp : Part.folioVdone ∉ ps) : d.folioVdone = s.folioVdone := h .folioVdone hp
theorem Dev.only.hday {s d : Dev} {ps : List Part} (h : s.only ps d) (hp : Part.hday ∉ ps) : d.hday = s.hday := h .hday hp
theorem Dev.only.hsaved {s d : Dev} {ps : List Part} (h : s.only ps d) (hp : Part.hsaved ∉ ps) : d.hsaved = s.hsaved := h .hsaved hp
theorem Dev.only.holder {s d : Dev} {ps : List Part} (h : s.only ps d) (hp : Part.holder ∉ ps) : d.holder = s.holder := h .holder hp
theorem Dev.only.hcopy {s d : Dev} {ps : List Part} (h : s.only ps d) (hp : Part.hcopy ∉ ps) : d.hcopy = s.hcopy := h .hcopy hp
theorem Dev.only.copyVer {s d : Dev} {ps : List Part} (h : s.only ps d) (hp : Part.copyVer ∉ ps) : d.copyVer = s.copyVer := h .copyVer hp
theorem Dev.only.hClean {s d : Dev} {ps : List Part} (h : s.only ps d) (hp : Part.hClean ∉ ps) : d.hClean = s.hClean := h .hClean hp
theorem Dev.only.calOpen {s d : Dev} {ps : List Part} (h : s.only ps d) (hp : Part.calOpen ∉ ps) : d.calOpen = s.calOpen := h .calOpen hp
theorem Dev.only.calKey {s d : Dev} {ps : List Part} (h : s.only ps d) (hp : Part.calKey ∉ ps) : d.calKey = s.calKey := h .calKey hp
theorem Dev.only.calDirty {s d : Dev} {ps : List Part} (h : s.only ps d) (hp : Part.calDirty ∉ ps) : d.calDirty = s.calDirty := h .calDirty hp
theorem Dev.only.probes {s d : Dev} {ps : List Part} (h : s.only ps d) (hp : Part.probes ∉ ps) : d.probes = s.probes := h .probes hp
theorem Dev.only.probing {s d : Dev} {ps : List Part} (h : s.only ps d) (hp : Part.probing ∉ ps) : d.probing = s.probing := h .probing hp
theorem Dev.only.lat {s d : Dev} {ps : List Part} (h : s.only ps d) (hp : Part.lat ∉ ps) : d.lat = s.lat := h .lat hp
theorem Dev.only.smbRel {s d : Dev} {ps : List Part} (h : s.only ps d) (hp : Part.smbRel ∉ ps) : d.smbRel = s.smbRel := h .smbRel hp
theorem Dev.only.evq {s d : Dev} {ps : List Part} (h : s.only ps d) (hp : Part.evq ∉ ps) : d.evq = s.evq := h .evq hp
theorem Dev.only.evOvf {s d : Dev} {ps : List Part} (h : s.only ps d) (hp : Part.evOvf ∉ ps) : d.evOvf = s.evOvf := h .evOvf hp
theorem Dev.only.evDropped {s d : Dev} {ps : List Part} (h : s.only ps d) (hp : Part.evDropped ∉ ps) : d.evDropped = s.evDropped := h .evDropped hp
theorem Dev.only.evSent {s d : Dev} {ps : List Part} (h : s.only ps d) (hp : Part.evSent ∉ ps) : d.evSent = s.evSent := h .evSent hp
theorem Dev.only.awake {s d : Dev} {ps : List Part} (h : s.only ps d) (hp : Part.awake ∉ ps) : d.awake = s.awake := h .awake hp
theorem Dev.only.watchExit {s d : Dev} {ps : List Part} (h : s.only ps d) (hp : Part.watchExit ∉ ps) : d.watchExit = s.watchExit := h .watchExit hp
theorem Dev.only.inrushUj {s d : Dev} {ps : List Part} (h : s.only ps d) (hp : Part.inrushUj ∉ ps) : d.inrushUj = s.inrushUj := h .inrushUj hp
theorem Dev.only.preqs {s d : Dev} {ps : List Part} (h : s.only ps d) (hp : Part.preqs ∉ ps) : d.preqs = s.preqs := h .preqs hp
theorem Dev.only.schedAt {s d : Dev} {ps : List Part} (h : s.only ps d) (hp : Part.schedAt ∉ ps) : d.schedAt = s.schedAt := h .schedAt hp
theorem Dev.only.holdO {s d : Dev} {ps : List Part} (h : s.only ps d) (hp : Part.holdO ∉ ps) : d.holdO = s.holdO := h .holdO hp
theorem Dev.only.holdE {s d : Dev} {ps : List Part} (h : s.only ps d) (hp : Part.holdE ∉ ps) : d.holdE = s.holdE := h .holdE hp
theorem Dev.only.holdAt {s d : Dev} {ps : List Part} (h : s.only ps d) (hp : Part.holdAt ∉ ps) : d.holdAt = s.holdAt := h .holdAt hp
theorem Dev.only.holdShort {s d : Dev} {ps : List Part} (h : s.only ps d) (hp : Part.holdShort ∉ ps) : d.holdShort = s.holdShort := h .holdShort hp
theorem Dev.only.heatRes {s d : Dev} {ps : List Part} (h : s.only ps d) (hp : Part.heatRes ∉ ps) : d.heatRes = s.heatRes := h .heatRes hp
theorem Dev.only.thUp {s d : Dev} {ps : List Part} (h : s.only ps d) (hp : Part.thUp ∉ ps) : d.thUp = s.thUp := h .thUp hp
theorem Dev.only.thDown {s d : Dev} {ps : List Part} (h : s.only ps d) (hp : Part.thDown ∉ ps) : d.thDown = s.thDown := h .thDown hp
theorem Dev.only.thTrip {s d : Dev} {ps : List Part} (h : s.only ps d) (hp : Part.thTrip ∉ ps) : d.thTrip = s.thTrip := h .thTrip hp
theorem Dev.only.thFloors {s d : Dev} {ps : List Part} (h : s.only ps d) (hp : Part.thFloors ∉ ps) : d.thFloors = s.thFloors := h .thFloors hp
theorem Dev.only.thHot {s d : Dev} {ps : List Part} (h : s.only ps d) (hp : Part.thHot ∉ ps) : d.thHot = s.thHot := h .thHot hp
theorem Dev.only.thCause {s d : Dev} {ps : List Part} (h : s.only ps d) (hp : Part.thCause ∉ ps) : d.thCause = s.thCause := h .thCause hp
theorem Dev.only.headMw {s d : Dev} {ps : List Part} (h : s.only ps d) (hp : Part.headMw ∉ ps) : d.headMw = s.headMw := h .headMw hp
theorem Dev.only.rstoAt {s d : Dev} {ps : List Part} (h : s.only ps d) (hp : Part.rstoAt ∉ ps) : d.rstoAt = s.rstoAt := h .rstoAt hp
theorem Dev.only.cascAt {s d : Dev} {ps : List Part} (h : s.only ps d) (hp : Part.cascAt ∉ ps) : d.cascAt = s.cascAt := h .cascAt hp
theorem Dev.only.seqIn {s d : Dev} {ps : List Part} (h : s.only ps d) (hp : Part.seqIn ∉ ps) : d.seqIn = s.seqIn := h .seqIn hp
theorem Dev.only.closeAt {s d : Dev} {ps : List Part} (h : s.only ps d) (hp : Part.closeAt ∉ ps) : d.closeAt = s.closeAt := h .closeAt hp
theorem Dev.only.sampled {s d : Dev} {ps : List Part} (h : s.only ps d) (hp : Part.sampled ∉ ps) : d.sampled = s.sampled := h .sampled hp
theorem Dev.only.vaultRails {s d : Dev} {ps : List Part} (h : s.only ps d) (hp : Part.vaultRails ∉ ps) : d.vaultRails = s.vaultRails := h .vaultRails hp
theorem Dev.only.vaultMargins {s d : Dev} {ps : List Part} (h : s.only ps d) (hp : Part.vaultMargins ∉ ps) : d.vaultMargins = s.vaultMargins := h .vaultMargins hp
theorem Dev.only.scs {s d : Dev} {ps : List Part} (h : s.only ps d) (hp : Part.scs ∉ ps) : d.scs = s.scs := h .scs hp
theorem Dev.only.phs {s d : Dev} {ps : List Part} (h : s.only ps d) (hp : Part.phs ∉ ps) : d.phs = s.phs := h .phs hp
theorem Dev.only.mdAt {s d : Dev} {ps : List Part} (h : s.only ps d) (hp : Part.mdAt ∉ ps) : d.mdAt = s.mdAt := h .mdAt hp
theorem Dev.only.mgEnd {s d : Dev} {ps : List Part} (h : s.only ps d) (hp : Part.mgEnd ∉ ps) : d.mgEnd = s.mgEnd := h .mgEnd hp
theorem Dev.only.pwr {s d : Dev} {ps : List Part} (h : s.only ps d) (hp : Part.pwr ∉ ps) : d.pwr = s.pwr := h .pwr hp
theorem Dev.only.checks {s d : Dev} {ps : List Part} (h : s.only ps d) (hp : Part.checks ∉ ps) : d.checks = s.checks := h .checks hp
theorem Dev.only.arch {s d : Dev} {ps : List Part} (h : s.only ps d) (hp : Part.arch ∉ ps) : d.arch = s.arch := h .arch hp
theorem Dev.only.iramBad {s d : Dev} {ps : List Part} (h : s.only ps d) (hp : Part.iramBad ∉ ps) : d.iramBad = s.iramBad := h .iramBad hp
theorem Dev.only.dramBad {s d : Dev} {ps : List Part} (h : s.only ps d) (hp : Part.dramBad ∉ ps) : d.dramBad = s.dramBad := h .dramBad hp
theorem Dev.only.ports {s d : Dev} {ps : List Part} (h : s.only ps d) (hp : Part.ports ∉ ps) : d.ports = s.ports := h .ports hp
theorem Dev.only.can {s d : Dev} {ps : List Part} (h : s.only ps d) (hp : Part.can ∉ ps) : d.can = s.can := h .can hp
theorem Dev.only.smbArl {s d : Dev} {ps : List Part} (h : s.only ps d) (hp : Part.smbArl ∉ ps) : d.smbArl = s.smbArl := h .smbArl hp
theorem Dev.only.tapIr {s d : Dev} {ps : List Part} (h : s.only ps d) (hp : Part.tapIr ∉ ps) : d.tapIr = s.tapIr := h .tapIr hp
theorem Dev.only.tapCells {s d : Dev} {ps : List Part} (h : s.only ps d) (hp : Part.tapCells ∉ ps) : d.tapCells = s.tapCells := h .tapCells hp
theorem Dev.only.tapIrOut {s d : Dev} {ps : List Part} (h : s.only ps d) (hp : Part.tapIrOut ∉ ps) : d.tapIrOut = s.tapIrOut := h .tapIrOut hp
theorem Dev.only.tapOut {s d : Dev} {ps : List Part} (h : s.only ps d) (hp : Part.tapOut ∉ ps) : d.tapOut = s.tapOut := h .tapOut hp

/-! ### Replacing one field -/

theorem Dev.only_now (s : Dev) (v) : s.only [.now] { s with now := v } := fun p hp => by
  cases p <;> first | rfl | exact ⟨rfl, rfl⟩ | exact absurd (List.mem_singleton.mpr rfl) hp
theorem Dev.only_before (s : Dev) (v) : s.only [.now] { s with before := v } := fun p hp => by
  cases p <;> first | rfl | exact ⟨rfl, rfl⟩ | exact absurd (List.mem_singleton.mpr rfl) hp
theorem Dev.only_fresh (s : Dev) (v) : s.only [.fresh] { s with fresh := v } := fun p hp => by
  cases p <;> first | rfl | exact ⟨rfl, rfl⟩ | exact absurd (List.mem_singleton.mpr rfl) hp
theorem Dev.only_dev (s : Dev) (v) : s.only [.dev] { s with dev := v } := fun p hp => by
  cases p <;> first | rfl | exact ⟨rfl, rfl⟩ | exact absurd (List.mem_singleton.mpr rfl) hp
theorem Dev.only_regs (s : Dev) (v) : s.only [.regs] { s with regs := v } := fun p hp => by
  cases p <;> first | rfl | exact ⟨rfl, rfl⟩ | exact absurd (List.mem_singleton.mpr rfl) hp
theorem Dev.only_rails (s : Dev) (v) : s.only [.rails] { s with rails := v } := fun p hp => by
  cases p <;> first | rfl | exact ⟨rfl, rfl⟩ | exact absurd (List.mem_singleton.mpr rfl) hp
theorem Dev.only_tellers (s : Dev) (v) : s.only [.tellers] { s with tellers := v } := fun p hp => by
  cases p <;> first | rfl | exact ⟨rfl, rfl⟩ | exact absurd (List.mem_singleton.mpr rfl) hp
theorem Dev.only_owners (s : Dev) (v) : s.only [.owners] { s with owners := v } := fun p hp => by
  cases p <;> first | rfl | exact ⟨rfl, rfl⟩ | exact absurd (List.mem_singleton.mpr rfl) hp
theorem Dev.only_doors (s : Dev) (v) : s.only [.doors] { s with doors := v } := fun p hp => by
  cases p <;> first | rfl | exact ⟨rfl, rfl⟩ | exact absurd (List.mem_singleton.mpr rfl) hp
theorem Dev.only_vault (s : Dev) (v) : s.only [.vault] { s with vault := v } := fun p hp => by
  cases p <;> first | rfl | exact ⟨rfl, rfl⟩ | exact absurd (List.mem_singleton.mpr rfl) hp
theorem Dev.only_usecOn (s : Dev) (v) : s.only [.usecOn] { s with usecOn := v } := fun p hp => by
  cases p <;> first | rfl | exact ⟨rfl, rfl⟩ | exact absurd (List.mem_singleton.mpr rfl) hp
theorem Dev.only_usec0 (s : Dev) (v) : s.only [.usec0] { s with usec0 := v } := fun p hp => by
  cases p <;> first | rfl | exact ⟨rfl, rfl⟩ | exact absurd (List.mem_singleton.mpr rfl) hp
theorem Dev.only_shadowAt (s : Dev) (v) : s.only [.shadowAt] { s with shadowAt := v } := fun p hp => by
  cases p <;> first | rfl | exact ⟨rfl, rfl⟩ | exact absurd (List.mem_singleton.mpr rfl) hp
theorem Dev.only_bootno (s : Dev) (v) : s.only [.bootno] { s with bootno := v } := fun p hp => by
  cases p <;> first | rfl | exact ⟨rfl, rfl⟩ | exact absurd (List.mem_singleton.mpr rfl) hp
theorem Dev.only_bootnoOk (s : Dev) (v) : s.only [.bootnoOk] { s with bootnoOk := v } := fun p hp => by
  cases p <;> first | rfl | exact ⟨rfl, rfl⟩ | exact absurd (List.mem_singleton.mpr rfl) hp
theorem Dev.only_trims (s : Dev) (v) : s.only [.trims] { s with trims := v } := fun p hp => by
  cases p <;> first | rfl | exact ⟨rfl, rfl⟩ | exact absurd (List.mem_singleton.mpr rfl) hp
theorem Dev.only_rev (s : Dev) (v) : s.only [.rev] { s with rev := v } := fun p hp => by
  cases p <;> first | rfl | exact ⟨rfl, rfl⟩ | exact absurd (List.mem_singleton.mpr rfl) hp
theorem Dev.only_angle (s : Dev) (v) : s.only [.angle] { s with angle := v } := fun p hp => by
  cases p <;> first | rfl | exact ⟨rfl, rfl⟩ | exact absurd (List.mem_singleton.mpr rfl) hp
theorem Dev.only_tal (s : Dev) (v) : s.only [.tal] { s with tal := v } := fun p hp => by
  cases p <;> first | rfl | exact ⟨rfl, rfl⟩ | exact absurd (List.mem_singleton.mpr rfl) hp
theorem Dev.only_shutters (s : Dev) (v) : s.only [.shutters] { s with shutters := v } := fun p hp => by
  cases p <;> first | rfl | exact ⟨rfl, rfl⟩ | exact absurd (List.mem_singleton.mpr rfl) hp
theorem Dev.only_cvs (s : Dev) (v) : s.only [.cvs] { s with cvs := v } := fun p hp => by
  cases p <;> first | rfl | exact ⟨rfl, rfl⟩ | exact absurd (List.mem_singleton.mpr rfl) hp
theorem Dev.only_caps (s : Dev) (v) : s.only [.caps] { s with caps := v } := fun p hp => by
  cases p <;> first | rfl | exact ⟨rfl, rfl⟩ | exact absurd (List.mem_singleton.mpr rfl) hp
theorem Dev.only_stats (s : Dev) (v) : s.only [.stats] { s with stats := v } := fun p hp => by
  cases p <;> first | rfl | exact ⟨rfl, rfl⟩ | exact absurd (List.mem_singleton.mpr rfl) hp
theorem Dev.only_statAt (s : Dev) (v) : s.only [.statAt] { s with statAt := v } := fun p hp => by
  cases p <;> first | rfl | exact ⟨rfl, rfl⟩ | exact absurd (List.mem_singleton.mpr rfl) hp
theorem Dev.only_statLen (s : Dev) (v) : s.only [.statLen] { s with statLen := v } := fun p hp => by
  cases p <;> first | rfl | exact ⟨rfl, rfl⟩ | exact absurd (List.mem_singleton.mpr rfl) hp
theorem Dev.only_cvFast (s : Dev) (v) : s.only [.cvFast] { s with cvFast := v } := fun p hp => by
  cases p <;> first | rfl | exact ⟨rfl, rfl⟩ | exact absurd (List.mem_singleton.mpr rfl) hp
theorem Dev.only_tickAt (s : Dev) (v) : s.only [.tickAt] { s with tickAt := v } := fun p hp => by
  cases p <;> first | rfl | exact ⟨rfl, rfl⟩ | exact absurd (List.mem_singleton.mpr rfl) hp
theorem Dev.only_jq (s : Dev) (v) : s.only [.jq] { s with jq := v } := fun p hp => by
  cases p <;> first | rfl | exact ⟨rfl, rfl⟩ | exact absurd (List.mem_singleton.mpr rfl) hp
theorem Dev.only_jIn (s : Dev) (v) : s.only [.jIn] { s with jIn := v } := fun p hp => by
  cases p <;> first | rfl | exact ⟨rfl, rfl⟩ | exact absurd (List.mem_singleton.mpr rfl) hp
theorem Dev.only_jLost (s : Dev) (v) : s.only [.jLost] { s with jLost := v } := fun p hp => by
  cases p <;> first | rfl | exact ⟨rfl, rfl⟩ | exact absurd (List.mem_singleton.mpr rfl) hp
theorem Dev.only_folio (s : Dev) (v) : s.only [.folio] { s with folio := v } := fun p hp => by
  cases p <;> first | rfl | exact ⟨rfl, rfl⟩ | exact absurd (List.mem_singleton.mpr rfl) hp
theorem Dev.only_folioVer (s : Dev) (v) : s.only [.folioVer] { s with folioVer := v } := fun p hp => by
  cases p <;> first | rfl | exact ⟨rfl, rfl⟩ | exact absurd (List.mem_singleton.mpr rfl) hp
theorem Dev.only_ledgBad (s : Dev) (v) : s.only [.ledgBad] { s with ledgBad := v } := fun p hp => by
  cases p <;> first | rfl | exact ⟨rfl, rfl⟩ | exact absurd (List.mem_singleton.mpr rfl) hp
theorem Dev.only_recent (s : Dev) (v) : s.only [.ledgBad] { s with recent := v } := fun p hp => by
  cases p <;> first | rfl | exact ⟨rfl, rfl⟩ | exact absurd (List.mem_singleton.mpr rfl) hp
theorem Dev.only_v18ok (s : Dev) (v) : s.only [.v18ok] { s with v18ok := v } := fun p hp => by
  cases p <;> first | rfl | exact ⟨rfl, rfl⟩ | exact absurd (List.mem_singleton.mpr rfl) hp
theorem Dev.only_scrubAt (s : Dev) (v) : s.only [.scrubAt] { s with scrubAt := v } := fun p hp => by
  cases p <;> first | rfl | exact ⟨rfl, rfl⟩ | exact absurd (List.mem_singleton.mpr rfl) hp
theorem Dev.only_afill (s : Dev) (v) : s.only [.afill] { s with afill := v } := fun p hp => by
  cases p <;> first | rfl | exact ⟨rfl, rfl⟩ | exact absurd (List.mem_singleton.mpr rfl) hp
theorem Dev.only_wrapCopy (s : Dev) (v) : s.only [.wrapCopy] { s with wrapCopy := v } := fun p hp => by
  cases p <;> first | rfl | exact ⟨rfl, rfl⟩ | exact absurd (List.mem_singleton.mpr rfl) hp
theorem Dev.only_jck (s : Dev) (v) : s.only [.jck] { s with jck := v } := fun p hp => by
  cases p <;> first | rfl | exact ⟨rfl, rfl⟩ | exact absurd (List.mem_singleton.mpr rfl) hp
theorem Dev.only_folioDone (s : Dev) (v) : s.only [.folioDone] { s with folioDone := v } := fun p hp => by
  cases p <;> first | rfl | exact ⟨rfl, rfl⟩ | exact absurd (List.mem_singleton.mpr rfl) hp
theorem Dev.only_folioVdone (s : Dev) (v) : s.only [.folioVdone] { s with folioVdone := v } := fun p hp => by
  cases p <;> first | rfl | exact ⟨rfl, rfl⟩ | exact absurd (List.mem_singleton.mpr rfl) hp
theorem Dev.only_hday (s : Dev) (v) : s.only [.hday] { s with hday := v } := fun p hp => by
  cases p <;> first | rfl | exact ⟨rfl, rfl⟩ | exact absurd (List.mem_singleton.mpr rfl) hp
theorem Dev.only_hsaved (s : Dev) (v) : s.only [.hsaved] { s with hsaved := v } := fun p hp => by
  cases p <;> first | rfl | exact ⟨rfl, rfl⟩ | exact absurd (List.mem_singleton.mpr rfl) hp
theorem Dev.only_holder (s : Dev) (v) : s.only [.holder] { s with holder := v } := fun p hp => by
  cases p <;> first | rfl | exact ⟨rfl, rfl⟩ | exact absurd (List.mem_singleton.mpr rfl) hp
theorem Dev.only_hcopy (s : Dev) (v) : s.only [.hcopy] { s with hcopy := v } := fun p hp => by
  cases p <;> first | rfl | exact ⟨rfl, rfl⟩ | exact absurd (List.mem_singleton.mpr rfl) hp
theorem Dev.only_copyVer (s : Dev) (v) : s.only [.copyVer] { s with copyVer := v } := fun p hp => by
  cases p <;> first | rfl | exact ⟨rfl, rfl⟩ | exact absurd (List.mem_singleton.mpr rfl) hp
theorem Dev.only_hClean (s : Dev) (v) : s.only [.hClean] { s with hClean := v } := fun p hp => by
  cases p <;> first | rfl | exact ⟨rfl, rfl⟩ | exact absurd (List.mem_singleton.mpr rfl) hp
theorem Dev.only_calOpen (s : Dev) (v) : s.only [.calOpen] { s with calOpen := v } := fun p hp => by
  cases p <;> first | rfl | exact ⟨rfl, rfl⟩ | exact absurd (List.mem_singleton.mpr rfl) hp
theorem Dev.only_calKey (s : Dev) (v) : s.only [.calKey] { s with calKey := v } := fun p hp => by
  cases p <;> first | rfl | exact ⟨rfl, rfl⟩ | exact absurd (List.mem_singleton.mpr rfl) hp
theorem Dev.only_calDirty (s : Dev) (v) : s.only [.calDirty] { s with calDirty := v } := fun p hp => by
  cases p <;> first | rfl | exact ⟨rfl, rfl⟩ | exact absurd (List.mem_singleton.mpr rfl) hp
theorem Dev.only_probes (s : Dev) (v) : s.only [.probes] { s with probes := v } := fun p hp => by
  cases p <;> first | rfl | exact ⟨rfl, rfl⟩ | exact absurd (List.mem_singleton.mpr rfl) hp
theorem Dev.only_probing (s : Dev) (v) : s.only [.probing] { s with probing := v } := fun p hp => by
  cases p <;> first | rfl | exact ⟨rfl, rfl⟩ | exact absurd (List.mem_singleton.mpr rfl) hp
theorem Dev.only_lat (s : Dev) (v) : s.only [.lat] { s with lat := v } := fun p hp => by
  cases p <;> first | rfl | exact ⟨rfl, rfl⟩ | exact absurd (List.mem_singleton.mpr rfl) hp
theorem Dev.only_smbRel (s : Dev) (v) : s.only [.smbRel] { s with smbRel := v } := fun p hp => by
  cases p <;> first | rfl | exact ⟨rfl, rfl⟩ | exact absurd (List.mem_singleton.mpr rfl) hp
theorem Dev.only_evq (s : Dev) (v) : s.only [.evq] { s with evq := v } := fun p hp => by
  cases p <;> first | rfl | exact ⟨rfl, rfl⟩ | exact absurd (List.mem_singleton.mpr rfl) hp
theorem Dev.only_evOvf (s : Dev) (v) : s.only [.evOvf] { s with evOvf := v } := fun p hp => by
  cases p <;> first | rfl | exact ⟨rfl, rfl⟩ | exact absurd (List.mem_singleton.mpr rfl) hp
theorem Dev.only_evDropped (s : Dev) (v) : s.only [.evDropped] { s with evDropped := v } := fun p hp => by
  cases p <;> first | rfl | exact ⟨rfl, rfl⟩ | exact absurd (List.mem_singleton.mpr rfl) hp
theorem Dev.only_evSent (s : Dev) (v) : s.only [.evSent] { s with evSent := v } := fun p hp => by
  cases p <;> first | rfl | exact ⟨rfl, rfl⟩ | exact absurd (List.mem_singleton.mpr rfl) hp
theorem Dev.only_awake (s : Dev) (v) : s.only [.awake] { s with awake := v } := fun p hp => by
  cases p <;> first | rfl | exact ⟨rfl, rfl⟩ | exact absurd (List.mem_singleton.mpr rfl) hp
theorem Dev.only_watchExit (s : Dev) (v) : s.only [.watchExit] { s with watchExit := v } := fun p hp => by
  cases p <;> first | rfl | exact ⟨rfl, rfl⟩ | exact absurd (List.mem_singleton.mpr rfl) hp
theorem Dev.only_inrushUj (s : Dev) (v) : s.only [.inrushUj] { s with inrushUj := v } := fun p hp => by
  cases p <;> first | rfl | exact ⟨rfl, rfl⟩ | exact absurd (List.mem_singleton.mpr rfl) hp
theorem Dev.only_preqs (s : Dev) (v) : s.only [.preqs] { s with preqs := v } := fun p hp => by
  cases p <;> first | rfl | exact ⟨rfl, rfl⟩ | exact absurd (List.mem_singleton.mpr rfl) hp
theorem Dev.only_schedAt (s : Dev) (v) : s.only [.schedAt] { s with schedAt := v } := fun p hp => by
  cases p <;> first | rfl | exact ⟨rfl, rfl⟩ | exact absurd (List.mem_singleton.mpr rfl) hp
theorem Dev.only_holdO (s : Dev) (v) : s.only [.holdO] { s with holdO := v } := fun p hp => by
  cases p <;> first | rfl | exact ⟨rfl, rfl⟩ | exact absurd (List.mem_singleton.mpr rfl) hp
theorem Dev.only_holdE (s : Dev) (v) : s.only [.holdE] { s with holdE := v } := fun p hp => by
  cases p <;> first | rfl | exact ⟨rfl, rfl⟩ | exact absurd (List.mem_singleton.mpr rfl) hp
theorem Dev.only_holdAt (s : Dev) (v) : s.only [.holdAt] { s with holdAt := v } := fun p hp => by
  cases p <;> first | rfl | exact ⟨rfl, rfl⟩ | exact absurd (List.mem_singleton.mpr rfl) hp
theorem Dev.only_holdShort (s : Dev) (v) : s.only [.holdShort] { s with holdShort := v } := fun p hp => by
  cases p <;> first | rfl | exact ⟨rfl, rfl⟩ | exact absurd (List.mem_singleton.mpr rfl) hp
theorem Dev.only_heatRes (s : Dev) (v) : s.only [.heatRes] { s with heatRes := v } := fun p hp => by
  cases p <;> first | rfl | exact ⟨rfl, rfl⟩ | exact absurd (List.mem_singleton.mpr rfl) hp
theorem Dev.only_thUp (s : Dev) (v) : s.only [.thUp] { s with thUp := v } := fun p hp => by
  cases p <;> first | rfl | exact ⟨rfl, rfl⟩ | exact absurd (List.mem_singleton.mpr rfl) hp
theorem Dev.only_thDown (s : Dev) (v) : s.only [.thDown] { s with thDown := v } := fun p hp => by
  cases p <;> first | rfl | exact ⟨rfl, rfl⟩ | exact absurd (List.mem_singleton.mpr rfl) hp
theorem Dev.only_thTrip (s : Dev) (v) : s.only [.thTrip] { s with thTrip := v } := fun p hp => by
  cases p <;> first | rfl | exact ⟨rfl, rfl⟩ | exact absurd (List.mem_singleton.mpr rfl) hp
theorem Dev.only_thFloors (s : Dev) (v) : s.only [.thFloors] { s with thFloors := v } := fun p hp => by
  cases p <;> first | rfl | exact ⟨rfl, rfl⟩ | exact absurd (List.mem_singleton.mpr rfl) hp
theorem Dev.only_thHot (s : Dev) (v) : s.only [.thHot] { s with thHot := v } := fun p hp => by
  cases p <;> first | rfl | exact ⟨rfl, rfl⟩ | exact absurd (List.mem_singleton.mpr rfl) hp
theorem Dev.only_thCause (s : Dev) (v) : s.only [.thCause] { s with thCause := v } := fun p hp => by
  cases p <;> first | rfl | exact ⟨rfl, rfl⟩ | exact absurd (List.mem_singleton.mpr rfl) hp
theorem Dev.only_headMw (s : Dev) (v) : s.only [.headMw] { s with headMw := v } := fun p hp => by
  cases p <;> first | rfl | exact ⟨rfl, rfl⟩ | exact absurd (List.mem_singleton.mpr rfl) hp
theorem Dev.only_rstoAt (s : Dev) (v) : s.only [.rstoAt] { s with rstoAt := v } := fun p hp => by
  cases p <;> first | rfl | exact ⟨rfl, rfl⟩ | exact absurd (List.mem_singleton.mpr rfl) hp
theorem Dev.only_cascAt (s : Dev) (v) : s.only [.cascAt] { s with cascAt := v } := fun p hp => by
  cases p <;> first | rfl | exact ⟨rfl, rfl⟩ | exact absurd (List.mem_singleton.mpr rfl) hp
theorem Dev.only_seqIn (s : Dev) (v) : s.only [.seqIn] { s with seqIn := v } := fun p hp => by
  cases p <;> first | rfl | exact ⟨rfl, rfl⟩ | exact absurd (List.mem_singleton.mpr rfl) hp
theorem Dev.only_closeAt (s : Dev) (v) : s.only [.closeAt] { s with closeAt := v } := fun p hp => by
  cases p <;> first | rfl | exact ⟨rfl, rfl⟩ | exact absurd (List.mem_singleton.mpr rfl) hp
theorem Dev.only_sampled (s : Dev) (v) : s.only [.sampled] { s with sampled := v } := fun p hp => by
  cases p <;> first | rfl | exact ⟨rfl, rfl⟩ | exact absurd (List.mem_singleton.mpr rfl) hp
theorem Dev.only_vaultRails (s : Dev) (v) : s.only [.vaultRails] { s with vaultRails := v } := fun p hp => by
  cases p <;> first | rfl | exact ⟨rfl, rfl⟩ | exact absurd (List.mem_singleton.mpr rfl) hp
theorem Dev.only_vaultMargins (s : Dev) (v) : s.only [.vaultMargins] { s with vaultMargins := v } := fun p hp => by
  cases p <;> first | rfl | exact ⟨rfl, rfl⟩ | exact absurd (List.mem_singleton.mpr rfl) hp
theorem Dev.only_scs (s : Dev) (v) : s.only [.scs] { s with scs := v } := fun p hp => by
  cases p <;> first | rfl | exact ⟨rfl, rfl⟩ | exact absurd (List.mem_singleton.mpr rfl) hp
theorem Dev.only_phs (s : Dev) (v) : s.only [.phs] { s with phs := v } := fun p hp => by
  cases p <;> first | rfl | exact ⟨rfl, rfl⟩ | exact absurd (List.mem_singleton.mpr rfl) hp
theorem Dev.only_mdAt (s : Dev) (v) : s.only [.mdAt] { s with mdAt := v } := fun p hp => by
  cases p <;> first | rfl | exact ⟨rfl, rfl⟩ | exact absurd (List.mem_singleton.mpr rfl) hp
theorem Dev.only_mgEnd (s : Dev) (v) : s.only [.mgEnd] { s with mgEnd := v } := fun p hp => by
  cases p <;> first | rfl | exact ⟨rfl, rfl⟩ | exact absurd (List.mem_singleton.mpr rfl) hp
theorem Dev.only_pwr (s : Dev) (v) : s.only [.pwr] { s with pwr := v } := fun p hp => by
  cases p <;> first | rfl | exact ⟨rfl, rfl⟩ | exact absurd (List.mem_singleton.mpr rfl) hp
theorem Dev.only_checks (s : Dev) (v) : s.only [.checks] { s with checks := v } := fun p hp => by
  cases p <;> first | rfl | exact ⟨rfl, rfl⟩ | exact absurd (List.mem_singleton.mpr rfl) hp
theorem Dev.only_arch (s : Dev) (v) : s.only [.arch] { s with arch := v } := fun p hp => by
  cases p <;> first | rfl | exact ⟨rfl, rfl⟩ | exact absurd (List.mem_singleton.mpr rfl) hp
theorem Dev.only_iramBad (s : Dev) (v) : s.only [.iramBad] { s with iramBad := v } := fun p hp => by
  cases p <;> first | rfl | exact ⟨rfl, rfl⟩ | exact absurd (List.mem_singleton.mpr rfl) hp
theorem Dev.only_dramBad (s : Dev) (v) : s.only [.dramBad] { s with dramBad := v } := fun p hp => by
  cases p <;> first | rfl | exact ⟨rfl, rfl⟩ | exact absurd (List.mem_singleton.mpr rfl) hp
theorem Dev.only_ports (s : Dev) (v) : s.only [.ports] { s with ports := v } := fun p hp => by
  cases p <;> first | rfl | exact ⟨rfl, rfl⟩ | exact absurd (List.mem_singleton.mpr rfl) hp
theorem Dev.only_can (s : Dev) (v) : s.only [.can] { s with can := v } := fun p hp => by
  cases p <;> first | rfl | exact ⟨rfl, rfl⟩ | exact absurd (List.mem_singleton.mpr rfl) hp
theorem Dev.only_smbArl (s : Dev) (v) : s.only [.smbArl] { s with smbArl := v } := fun p hp => by
  cases p <;> first | rfl | exact ⟨rfl, rfl⟩ | exact absurd (List.mem_singleton.mpr rfl) hp
theorem Dev.only_tapIr (s : Dev) (v) : s.only [.tapIr] { s with tapIr := v } := fun p hp => by
  cases p <;> first | rfl | exact ⟨rfl, rfl⟩ | exact absurd (List.mem_singleton.mpr rfl) hp
theorem Dev.only_tapCells (s : Dev) (v) : s.only [.tapCells] { s with tapCells := v } := fun p hp => by
  cases p <;> first | rfl | exact ⟨rfl, rfl⟩ | exact absurd (List.mem_singleton.mpr rfl) hp
theorem Dev.only_tapIrOut (s : Dev) (v) : s.only [.tapIrOut] { s with tapIrOut := v } := fun p hp => by
  cases p <;> first | rfl | exact ⟨rfl, rfl⟩ | exact absurd (List.mem_singleton.mpr rfl) hp
theorem Dev.only_tapOut (s : Dev) (v) : s.only [.tapOut] { s with tapOut := v } := fun p hp => by
  cases p <;> first | rfl | exact ⟨rfl, rfl⟩ | exact absurd (List.mem_singleton.mpr rfl) hp

/-! ### The named updates -/

theorem Dev.put_only (s : Dev) (f : Fld) (v : Nat) : s.only [.regs] (s.put f v) := s.only_regs _
theorem Dev.setRail_only (s : Dev) (n : Fin 48) (r : Rail) : s.only [.rails] (s.setRail n r) := s.only_rails _
theorem Dev.setTeller_only (s : Dev) (k : Fin 8) (t : Teller) : s.only [.tellers] (s.setTeller k t) := s.only_tellers _
theorem Dev.setDoor_only (s : Dev) (x : Fin 4) (y : Door) : s.only [.doors] (s.setDoor x y) := s.only_doors _
theorem Dev.setOwner_only (s : Dev) (r : BitVec 8) (o : Owner) : s.only [.owners] (s.setOwner r o) := s.only_owners _
theorem Dev.setCv_only (s : Dev) (c : Fin 6) (x : Conv) : s.only [.cvs] (s.setCv c x) := s.only_cvs _
theorem Dev.setCap_only (s : Dev) (c : Fin 6) (x : Cap) : s.only [.caps] (s.setCap c x) := s.only_caps _
theorem Dev.setSc_only (s : Dev) (n : Fin 8) (x : Sc) : s.only [.scs] (s.setSc n x) := s.only_scs _
theorem Dev.setPh_only (s : Dev) (q : Fin 24) (x : Ph) : s.only [.phs] (s.setPh q x) := s.only_phs _
theorem Dev.setPort_only (s : Dev) (x : Fin 4) (y : Port) : s.only [.ports] (s.setPort x y) := s.only_ports _
theorem Dev.setShutter_only (s : Dev) (n : Fin 16) (x : Shutter) : s.only [.shutters] (s.setShutter n x) := s.only_shutters _
theorem Dev.advance_only (s : Dev) (ts : Nat) : s.only [.now] (s.advance ts) := fun p hp => by
  cases p <;> first | rfl | exact ⟨rfl, rfl⟩ | exact absurd (List.mem_singleton.mpr rfl) hp

/-! ### Register fields -/

theorem Dev.onlyRegs_refl (s : Dev) (fs : List Fld) : s.onlyRegs fs s := fun _ _ => rfl

theorem Dev.onlyRegs.step {s d e : Dev} {fs gs : List Fld} (h : s.onlyRegs fs d) (g : d.onlyRegs gs e)
    (hq : ∀ q ∈ gs, q ∈ fs) : s.onlyRegs fs e := fun x hx =>
  (g x (fun hm => hx (by
    obtain ⟨q, hq1, hq2⟩ := List.mem_map.mp hm
    exact List.mem_map.mpr ⟨q, hq q hq1, hq2⟩))).trans (h x hx)

theorem Dev.put_onlyRegs (s : Dev) (f : Fld) (v : Nat) : s.onlyRegs [f] (s.put f v) := fun g hg =>
  s.get_put_ne v (fun h => hg (by simp [h]))

/-- Where the registers are not touched, every field reads the same. -/
theorem Dev.only.get {s d : Dev} {ps : List Part} (h : s.only ps d) (hp : Part.regs ∉ ps) (f : Fld) : d.get f = s.get f := by
  unfold Dev.get; rw [h.regs hp]

end Sys2Proof.Machine
end

