-- ==== Sys2Proof/Laws/Ops.lean ====
section
/-! SUPPORT. What each shared operation of Machine/Ops.lean can do: `<operation>_only` gives the parts it can change; the
other lemmas give the values that matter. -/

namespace Sys2Proof.Machine

/-! ### Register fields -/

@[simp] theorem Dev.bump_eq (s : Dev) (f : Fld) (d : Nat) : s.bump f d = s.put f (satAdd f.w (s.get f) d) := rfl
@[simp] theorem Dev.mark_eq (s : Dev) (f : Fld) : s.mark f = s.put f 1 := rfl
@[simp] theorem Dev.setBit_eq (s : Dev) (f : Fld) (i : Nat) : s.setBit f i = s.put f (s.get f ||| 2 ^ i) := rfl
@[simp] theorem Dev.putB_eq (s : Dev) (f : Fld) (b : Bool) : s.putB f b = s.put f (if b then 1 else 0) := rfl
@[simp] theorem Dev.roll_eq (s : Dev) (f : Fld) : s.roll f = s.put f (s.get f + 1) := rfl

theorem Dev.clrBit_only (s : Dev) (f : Fld) (i : Nat) : s.only [.regs] (s.clrBit f i) :=
  Dev.only_ite (s.put_only _ _) (s.only_refl _)

/-- A counter that saturates keeps within its width. -/
theorem satAdd_lt (w v d : Nat) : satAdd w v d < 2 ^ w := by
  have : 0 < 2 ^ w := Nat.two_pow_pos w
  unfold satAdd; omega

theorem Dev.get_bump (s : Dev) (f : Fld) (d : Nat) : (s.bump f d).get f = satAdd f.w (s.get f) d := by
  simp [Nat.mod_eq_of_lt (satAdd_lt ..)]

theorem Dev.putWord_only (s : Dev) (r : Nat) (w : Word) : s.only [.regs] (s.putWord r w) :=
  Dev.only_foldl _ _ (fun d _ => d.put_only _ _) s

/-! ### Alert causes -/

/-- The parts that hold the register fields and the alert lines. -/
abbrev alertParts : List Part := [.regs, .smbRel, .evq, .evOvf, .evDropped]

theorem Dev.cause_only (s : Dev) (d : Fin 4) (bit : Nat) : s.only alertParts (s.cause d bit) := by
  have h0 : s.only alertParts (s.setBit (F.DOOR_ACAUSE_CAUSE d) bit) := (s.put_only _ _).mono (by decide)
  have h1 : ∀ s1 : Dev, s1.only [.evOvf, .evDropped] { s1 with evOvf := true, evDropped := true } := fun s1 p hp => by
    cases p <;> first | rfl | exact ⟨rfl, rfl⟩ | exact absurd (by decide) hp
  exact Dev.only_ite (Dev.only_ite (h0.step (Dev.only_smbRel _ _) (by decide))
    (Dev.only_ite (Dev.only_ite (h0.step (Dev.only_evq _ _) (by decide)) (h0.step (h1 _) (by decide))) h0)) h0

/-- A cause bit, once set, reads 1; every other field is as it was. -/
theorem Dev.cause_regs (s : Dev) (d : Fin 4) (bit : Nat) :
    (s.cause d bit).regs = (s.setBit (F.DOOR_ACAUSE_CAUSE d) bit).regs := by
  unfold Dev.cause
  dsimp only
  by_cases h1 : (!(s.get (F.DOOR_ACAUSE_CAUSE d)).testBit bit && (s.get (F.DOOR_AEN_EN d)).testBit bit) = true
  · rw [if_pos h1]
    by_cases h2 : d = 2
    · rw [if_pos h2]
    · rw [if_neg h2]
      by_cases h3 : d = 3
      · rw [if_pos h3]
        by_cases h4 : (s.setBit (F.DOOR_ACAUSE_CAUSE d) bit).evq.length < 16
        · rw [if_pos h4]
        · rw [if_neg h4]
      · rw [if_neg h3]
  · rw [if_neg h1]

theorem Dev.get_cause (s : Dev) (d : Fin 4) (bit : Nat) (f : Fld) : (s.cause d bit).get f =
    (s.put (F.DOOR_ACAUSE_CAUSE d) (s.get (F.DOOR_ACAUSE_CAUSE d) ||| 2 ^ bit)).get f := by
  simp only [Dev.get, Dev.cause_regs, Dev.setBit_eq]

theorem Dev.cause_onlyRegs (s : Dev) (d : Fin 4) (bit : Nat) : s.onlyRegs [F.DOOR_ACAUSE_CAUSE d] (s.cause d bit) := fun g hg => by
  rw [Dev.get_cause]; exact s.put_onlyRegs _ _ g hg

/-- The cause fields of the four doors. -/
abbrev causeFlds : List Fld := [F.DOOR_ACAUSE_CAUSE 0, F.DOOR_ACAUSE_CAUSE 1, F.DOOR_ACAUSE_CAUSE 2, F.DOOR_ACAUSE_CAUSE 3]

theorem Dev.causeAll_only (s : Dev) (bit : Nat) : s.only alertParts (s.causeAll bit) :=
  (((s.cause_only 0 bit).step (Dev.cause_only _ 1 bit) (by decide)).step (Dev.cause_only _ 2 bit) (by decide)).step
    (Dev.cause_only _ 3 bit) (by decide)

theorem Dev.causeAll_onlyRegs (s : Dev) (bit : Nat) : s.onlyRegs causeFlds (s.causeAll bit) :=
  ((((s.onlyRegs_refl causeFlds).step (s.cause_onlyRegs 0 bit) (by decide)).step (Dev.cause_onlyRegs _ 1 bit) (by decide)).step
    (Dev.cause_onlyRegs _ 2 bit) (by decide)).step (Dev.cause_onlyRegs _ 3 bit) (by decide)

theorem causeFld_ne {a b : Fin 4} (h : a ≠ b) : (F.DOOR_ACAUSE_CAUSE a).key ≠ (F.DOOR_ACAUSE_CAUSE b).key := by
  intro e
  have e' : (0x1F10 + 64 * a.val) * 32 + 0 = (0x1F10 + 64 * b.val) * 32 + 0 := e
  exact h (Fin.ext (by omega))

theorem Dev.cause_sets (s : Dev) (d : Fin 4) {bit : Nat} (hb : bit < 9) :
    ((s.cause d bit).get (F.DOOR_ACAUSE_CAUSE d)).testBit bit = true := by
  rw [Dev.get_cause, Dev.get_put_same]
  show ((_ ||| 2 ^ bit) % 2 ^ 9).testBit bit = true
  rw [Nat.testBit_mod_two_pow]
  simp [Nat.testBit_or, hb]

theorem Dev.cause_keeps (s : Dev) {d x : Fin 4} (bit : Nat) (h : x ≠ d) :
    (s.cause d bit).get (F.DOOR_ACAUSE_CAUSE x) = s.get (F.DOOR_ACAUSE_CAUSE x) := by
  rw [Dev.get_cause, Dev.get_put_ne _ _ (causeFld_ne h)]

/-- Every door has the cause bit. -/
theorem Dev.causeAll_sets (s : Dev) {bit : Nat} (hb : bit < 9) (d : Fin 4) :
    ((s.causeAll bit).get (F.DOOR_ACAUSE_CAUSE d)).testBit bit = true := by
  unfold Dev.causeAll
  by_cases h3 : d = 3
  · subst h3; exact Dev.cause_sets _ _ hb
  by_cases h2 : d = 2
  · subst h2; rw [Dev.cause_keeps _ _ h3]; exact Dev.cause_sets _ _ hb
  by_cases h1 : d = 1
  · subst h1; rw [Dev.cause_keeps _ _ h3, Dev.cause_keeps _ _ h2]; exact Dev.cause_sets _ _ hb
  have h0 : d = 0 := by omega
  subst h0; rw [Dev.cause_keeps _ _ h3, Dev.cause_keeps _ _ h2, Dev.cause_keeps _ _ h1]; exact Dev.cause_sets _ _ hb

/-! ### Modes and states -/

theorem Dev.latSync_only (s : Dev) : s.only [.lat] s.latSync := s.only_lat _

theorem Dev.setDev_only (s : Dev) (d : DevState) : s.only (.dev :: .lat :: alertParts) (s.setDev d) :=
  Dev.only_ite (s.only_refl _) ((((s.only_dev d).mono (by decide)).step (Dev.latSync_only _) (by decide)).step
    (Dev.causeAll_only _ _) (by decide))

@[simp] theorem Dev.setDev_dev (s : Dev) (d : DevState) : (s.setDev d).dev = d := by
  unfold Dev.setDev
  split
  · assumption
  · exact (Dev.causeAll_only _ _).dev (by decide)

theorem Dev.setEff_only (s : Dev) (m : Mode) : s.only (.lat :: alertParts) (s.setEff m) :=
  Dev.only_ite (s.only_refl _) ((((s.put_only _ _).mono (by decide)).step (Dev.latSync_only _) (by decide)).step
    (Dev.causeAll_only _ _) (by decide))

theorem Dev.setSag_only (s : Dev) (l : Nat) : s.only [.regs, .lat] (s.setSag l) :=
  ((s.put_only _ _).mono (by decide)).step (Dev.latSync_only _) (by decide)

/-! ### The journal queue -/

/-- The parts of the journal's queue, with the register fields. -/
abbrev journalParts : List Part := [.regs, .jq, .jIn, .jLost]

theorem Dev.jEnter_only (s : Dev) (r : JRec) : s.only [.jq, .jIn] (s.jEnter r) :=
  ((s.only_jq (s.jq ++ [(s.jIn, r)])).mono (by decide)).step (Dev.only_jIn _ (s.jIn + 1)) (by decide)

@[simp] theorem Dev.jEnter_jq (s : Dev) (r : JRec) : (s.jEnter r).jq = s.jq ++ [(s.jIn, r)] := rfl
@[simp] theorem Dev.jEnter_jIn (s : Dev) (r : JRec) : (s.jEnter r).jIn = s.jIn + 1 := rfl

theorem Dev.jPush_only (s : Dev) (r : JRec) : s.only journalParts (s.jPush r) := by
  unfold Dev.jPush
  dsimp only
  generalize hs1 : (if s.jLost ≠ 0 ∧ s.jq.length < 128 then _ else s : Dev) = s1
  have h1 : s.only journalParts s1 := by
    rw [← hs1]
    exact Dev.only_ite (((s.jEnter_only _).mono (by decide)).step (Dev.only_jLost _ 0) (by decide)) (s.only_refl _)
  exact Dev.only_ite (h1.step (s1.jEnter_only r) (by decide))
    (((h1.step (Dev.only_jLost _ _) (by decide)).step (Dev.put_only _ _ _) (by decide)).step (Dev.put_only _ _ _) (by decide))

/-- With no drop to report and an entry free, the record enters and nothing else changes. -/
theorem Dev.jPush_enters (s : Dev) (r : JRec) (h0 : s.jLost = 0) (h : s.jq.length < 128) : s.jPush r = s.jEnter r := by
  simp [Dev.jPush, h0, h]

theorem Dev.journal_only (s : Dev) (typ obj : Nat) (a b : Word) (ff p : Bool) : s.only journalParts (s.journal typ obj a b ff p) :=
  s.jPush_only _

theorem Dev.journal_enters (s : Dev) (typ obj : Nat) (a b : Word) (ff p : Bool) (h0 : s.jLost = 0) (h : s.jq.length < 128) :
    s.journal typ obj a b ff p = { s with
      jq := s.jq ++ [(s.jIn, s.jRec typ obj a b ff p)]
      jIn := s.jIn + 1 } := by
  rw [Dev.journal, Dev.jPush_enters _ _ h0 h]; rfl

/-! ### Entries to the shutdown table -/

theorem Dev.mergeEntry_only (s : Dev) (e : Entry) (c : Nat) (b : Bool) : s.only journalParts (s.mergeEntry e c b) :=
  (s.journal_only _ _ _ _ _ _).step (Dev.put_only _ _ _) (by decide)

theorem Dev.acceptEntry_only (s : Dev) (e : Entry) (c : Nat) (j : Bool) : s.only [.regs, .vault, .calOpen] (s.acceptEntry e c j) :=
  (((Dev.put_only s _ _).mono (by decide)).step (Dev.only_calOpen _ none) (by decide)).step (Dev.only_vault _ _) (by decide)

theorem Dev.tableStartRec_only (s : Dev) (e : Entry) (c : Nat) : s.only journalParts (s.tableStartRec e c) :=
  s.journal_only _ _ _ _ _ _

theorem Dev.requestEntry_only (s : Dev) (e : Entry) (c : Nat) : s.only (.vault :: .calOpen :: journalParts) (s.requestEntry e c) := by
  unfold Dev.requestEntry
  refine Dev.only_ite (s.only_refl _) (Dev.only_ite ((s.mergeEntry_only _ _ _).mono (by decide)) ?_)
  cases s.vault.topRank with
  | none => exact (s.acceptEntry_only e c false).mono (by decide)
  | some r =>
    refine Dev.only_ite ((s.mergeEntry_only _ _ _).mono (by decide)) ?_
    cases s.vault.pend with
    | none => exact (s.acceptEntry_only e c true).mono (by decide)
    | some p =>
      exact Dev.only_ite (((s.mergeEntry_only _ _ _).mono (by decide)).step (Dev.acceptEntry_only _ e c p.jump) (by decide))
        ((((s.tableStartRec_only _ _).mono (by decide)).step (Dev.put_only _ _ _) (by decide)).step
          (Dev.acceptEntry_only _ e c true) (by decide))

/-- With the table loaded and idle, and the vault present, the entry is accepted at this instant. -/
theorem Dev.requestEntry_accepts (s : Dev) (e : Entry) (c : Nat) (hv : s.get F.SAFE_STATUS_VAULTLOST = 0)
    (hl : s.vault.loaded = true) (hr : s.vault.run = none) (hp : s.vault.pend = none) :
    s.requestEntry e c = s.acceptEntry e c false := by
  simp [Dev.requestEntry, Dev.flag, hv, hl, Vault.topRank, hr, hp]

/-- R166, R668, R724: an accepted entry waits for its first step, SEQ_OUT is low, and no calibration set is open. -/
theorem Dev.acceptEntry_eq (s : Dev) (e : Entry) (c : Nat) (j : Bool) :
    s.acceptEntry e c j = { s.putB F.CASC_STATUS_SEQOUT false with calOpen := none, vault := { s.vault with pend := some ⟨e, c, s.now, j⟩ } } := rfl

/-! ### WATCH, dangerous faults, probes -/

theorem Dev.wakeReg_only (s : Dev) (bit : Nat) : s.only [.regs] (s.wakeReg bit) := by
  unfold Dev.wakeReg
  split <;> exact s.put_only _ _

theorem Dev.wakeTellers_only (s : Dev) (bit : Nat) : s.only [.tellers] (s.wakeTellers bit) :=
  Dev.only_foldl _ _ (fun d _ => d.setTeller_only _ _) s

theorem Dev.rouse_only (s : Dev) : s.only [.tellers] s.rouse :=
  Dev.only_foldl _ _ (fun d _ => Dev.only_ite (d.setTeller_only _ _) (d.only_refl _)) s

theorem Dev.wake_only (s : Dev) (bit : Nat) : s.only [.regs, .tellers, .awake] (s.wake bit) :=
  Dev.only_ite (((((s.rouse_only).mono (by decide)).step (Dev.wakeReg_only _ bit) (by decide)).step (Dev.wakeTellers_only _ _)
    (by decide)).step (Dev.only_awake _ true) (by decide)) (s.only_refl _)

/-- Outside WATCH no wake event is recorded. -/
theorem Dev.wake_awake (s : Dev) (bit : Nat) (h : s.eff ≠ .watch) : s.wake bit = s := by simp [Dev.wake, h]

theorem Dev.gateFresh_only (s : Dev) : s.only [.tal] s.gateFresh := s.only_tal _

theorem Dev.leaveWatch_only (s : Dev) : s.only (.tellers :: .watchExit :: .tal :: .lat :: alertParts) s.leaveWatch :=
  Dev.only_ite ((((((s.rouse_only).mono (by decide)).step (Dev.put_only _ F.SYS_MODE_REQ 0) (by decide)).step (Dev.setEff_only _ _) (by decide)).step
    (Dev.gateFresh_only _) (by decide)).step (Dev.only_watchExit _ true) (by decide)) (s.only_refl _)

theorem Dev.leaveWatch_awake (s : Dev) (h : s.eff ≠ .watch) : s.leaveWatch = s := by simp [Dev.leaveWatch, h]

/-- The parts that a fault's place in the folio can change: the folio, and what named the fault that yields to it (R513). -/
abbrev folioParts : List Part := [.folio, .folioVer, .jq, .probes, .probing]

theorem Dev.folioYields_only (s : Dev) : s.only folioParts s.folioYields := fun p hp => by
  cases p <;> first | rfl | exact ⟨rfl, rfl⟩ | exact absurd (by decide) hp

theorem Dev.intoFolio_only (s : Dev) (k o : Nat) (d : Bool) (a b : Word) : s.only folioParts (s.intoFolio k o d a b) :=
  Dev.only_ite ((Dev.only_ite (s.only_refl _) s.folioYields_only).step (Dev.only_folio _ _) (by decide)) (s.only_refl _)

/-- An empty folio takes the fault, and nothing else changes. -/
theorem Dev.intoFolio_free (s : Dev) (k o : Nat) (d : Bool) (a b : Word) (h : s.folio = none) :
    s.intoFolio k o d a b = { s with folio := some (s.freeze k o d a b) } := by
  simp [Dev.intoFolio, Dev.folioTakes, Dev.folioFree, h]

/-- The parts that a dangerous fault can change beside the journal and the folio. -/
abbrev dangerParts : List Part :=
  [.regs, .smbRel, .evq, .evOvf, .evDropped, .lat, .tellers, .awake, .tal, .watchExit, .vault, .calOpen, .jq, .jIn, .jLost]

theorem Dev.alarm_only (s : Dev) : s.only dangerParts s.alarm :=
  (((s.wake_only 6).mono (by decide)).step (Dev.leaveWatch_only _) (by decide)).step (Dev.causeAll_only _ _) (by decide)

theorem Dev.dangerous_only (s : Dev) (c : Nat) : s.only dangerParts (s.dangerous c) :=
  s.alarm_only.step (Dev.requestEntry_only _ _ _) (by decide)

/-- The parts that the record of a verdict can change. -/
abbrev verdictParts : List Part := [.fresh, .jq, .jIn, .jLost, .regs, .smbRel, .evq, .evOvf, .evDropped]

theorem Dev.verdictRec_only (s : Dev) (t o : Nat) (n : Option Nat) (c : Nat) (v : Verdict) :
    s.only verdictParts (s.verdictRec t o n c v) := by
  have h1 : s.only verdictParts (if t = 0 then s else s.spent) := Dev.only_ite (s.only_refl _) ((s.only_fresh _).mono (by decide))
  have h2 := h1.step (Dev.jPush_only _ { s.jRec 0x0A01 o (if t = 0 then 0xFFFFFFFF#32 else s.free)
    (BitVec.ofNat 32 (v.code + c * 256 + t * 65536)) false false with slotOf := n }) (by decide)
  exact Dev.only_ite ((h2.step (Dev.put_only _ _ _) (by decide)).step (Dev.causeAll_only _ _) (by decide)) h2

theorem Dev.folioVerdict_only (s : Dev) (b : Bool) (v : Verdict) : s.only [.folioVer] (s.folioVerdict b v) :=
  Dev.only_ite (s.only_folioVer _) (s.only_refl _)

/-- The parts that asking for a probe can change. -/
abbrev probeParts : List Part :=
  [.probing, .probes, .folioVer, .fresh, .jq, .jIn, .jLost, .regs, .smbRel, .evq, .evOvf, .evDropped]

theorem Dev.wantProbe_only (s : Dev) (p : Probe) : s.only probeParts (s.wantProbe p) :=
  Dev.only_ite ((s.only_probing _).mono (by decide)) (Dev.only_ite ((s.only_probes _).mono (by decide))
    ((((((s.verdictRec_only _ _ _ _ _).mono (by decide)).step (Dev.folioVerdict_only _ _ _) (by decide)).step
      (Dev.only_fresh _ _) (by decide)).step (Dev.jPush_only _ _) (by decide)).step (Dev.put_only _ _ _) (by decide)))

theorem Dev.declareBy_only (s : Dev) (typ obj : Nat) (a b : Word) (dang : Bool) (react : Dev → Dev) (path : Option Path)
    (hr : ∀ t : Dev, t.only dangerParts (react t)) : s.only errorParts (s.declareBy typ obj a b dang react path) := by
  unfold Dev.declareBy
  dsimp only
  have h1 : s.only errorParts (if dang then s.intoFolio typ obj true a b else s) :=
    Dev.only_ite ((s.intoFolio_only _ _ _ _ _).mono (by decide)) (s.only_refl _)
  generalize (if dang then s.intoFolio typ obj true a b else s : Dev) = s1 at h1 ⊢
  have h2 := h1.step (s1.journal_only typ obj a b (dang && s.folioTakes typ obj true) true) (by decide)
  generalize s1.journal typ obj a b (dang && s.folioTakes typ obj true) true = s2 at h2 ⊢
  have h3 := h2.step (hr s2) (by decide)
  cases path with
  | none => exact (h3.step (Dev.verdictRec_only _ _ _ _ _ _) (by decide)).step (Dev.folioVerdict_only _ _ _) (by decide)
  | some q => exact h3.step (Dev.wantProbe_only _ _) (by decide)

theorem Dev.declare_only (s : Dev) (typ obj : Nat) (a b : Word) (dang : Bool) (path : Option Path) :
    s.only errorParts (s.declare typ obj a b dang path) :=
  s.declareBy_only typ obj a b dang _ path (fun t => Dev.only_ite (t.dangerous_only _) (t.only_refl _))

end Sys2Proof.Machine
end

