-- ==== Sys2Proof/Laws/Tellers.lean ====
section
/-! SUPPORT. The tellers' shared operations: what a slot does with a ready instruction, the request queue, denials. -/

namespace Sys2Proof.Machine

/-! ### A slot -/

@[simp] theorem Dev.ramRead_teller (c : Dev) (e : Ecc) (k : Fin 8) : (c.ramRead e).teller k = c.teller k := by cases e <;> rfl

theorem Dev.ramRead_only (c : Dev) (e : Ecc) : c.only [.regs] (c.ramRead e) := by
  cases e
  · exact c.only_refl _
  · exact c.put_only _ _
  · exact c.put_only _ _

theorem Dev.ramRead_onlyRegs (c : Dev) (e : Ecc) : c.onlyRegs [F.SAFE_RAMECC_CORR, F.SAFE_RAMECC_UNCORR] (c.ramRead e) := by
  cases e
  · exact c.onlyRegs_refl _
  · exact (c.onlyRegs_refl _).step (c.put_onlyRegs _ _) (by decide)
  · exact (c.onlyRegs_refl _).step (c.put_onlyRegs _ _) (by decide)

@[simp] theorem State.slot_teller (s : State) (ts : Nat) (e : Ecc) (k : Fin 8) :
    (s.slot ts e).core.teller k = s.core.teller k := by simp [State.slot]

@[simp] theorem State.slot_dram (s : State) (ts : Nat) (e : Ecc) : (s.slot ts e).dram = s.dram := rfl

/-- A slot moves time and counts the fetch. -/
theorem State.slot_only (s : State) (ts : Nat) (e : Ecc) : s.core.only [.now, .regs] (s.slot ts e).core :=
  ((s.core.advance_only ts).mono (by decide)).step (Dev.ramRead_only _ e) (by decide)

@[simp] theorem State.slot_now (s : State) (ts : Nat) (e : Ecc) : (s.slot ts e).core.now = s.at ts :=
  (Dev.ramRead_only _ e).now (by decide)

@[simp] theorem State.slot_owner (s : State) (ts : Nat) (e : Ecc) (r : BitVec 8) : (s.slot ts e).core.owner r = s.core.owner r := by
  unfold Dev.owner; rw [(s.slot_only ts e).owners (by decide)]

@[simp] theorem State.slot_rail (s : State) (ts : Nat) (e : Ecc) (n : Fin 48) : (s.slot ts e).core.rail n = s.core.rail n := by
  unfold Dev.rail; rw [(s.slot_only ts e).rails (by decide)]

/-- A field other than the two ECC counts reads the same in the slot. -/
theorem State.slot_get (s : State) (ts : Nat) (e : Ecc) {f : Fld} (h1 : f.key ≠ F.SAFE_RAMECC_CORR.key)
    (h2 : f.key ≠ F.SAFE_RAMECC_UNCORR.key) : (s.slot ts e).core.get f = s.core.get f :=
  (Dev.ramRead_onlyRegs _ e f (by simp [h1, h2])).trans rfl

theorem State.ready_fetched {s : State} {k : Fin 8} {e : Ecc} {w : Word} (h : s.ready k e w = true) (ts : Nat) :
    (s.advance ts).fetched k e w = .word := by
  simp only [State.ready, Bool.and_eq_true, bne_iff_ne, beq_iff_eq, Bool.not_eq_true'] at h
  obtain ⟨⟨⟨⟨⟨⟨⟨h1, h2⟩, h3⟩, h4⟩, h8⟩, h5⟩, h6⟩, h7⟩ := h
  have hm : (s.advance ts).core.mayIssue k = true := by
    simp only [Dev.mayIssue, State.advance_core, Dev.advance_teller]
    have a1 : (s.core.advance ts).live = true := h1
    have a2 : (s.core.advance ts).mainAlive = true := h2
    have a3 : ((s.core.advance ts).eff != .watch || ((s.core.advance ts).awake && (s.core.advance ts).isWatchTeller k)) = true := h8
    rw [a1, a2, a3, h3, h4]; rfl
  have he : eccOf s.core.iramBad (s.core.teller k).pc.toNat e ≠ .uncorrectable := by
    unfold eccOf; rw [h6]; simpa using h5
  have hv : sget (fun _ => (0 : Word)) (s.advance ts).iram ((s.advance ts).core.teller k).pc.toNat = w := h7
  unfold State.fetched
  simp only [hm, hv]
  simp [he]

/-- R217: a ready instruction runs, and STEP halts its teller afterwards. -/
theorem State.issue_ready {s : State} {k : Fin 8} {e : Ecc} {w : Word} (h : s.ready k e w = true) (ts : Nat) (run : State → State) :
    s.issue ts k e w run = (run (s.slot ts e)).lift (fun c => c.stepDone k) := by
  unfold State.issue
  simp only [State.ready_fetched h ts]
  have hb : s.core.iramBad.contains (s.core.teller k).pc.toNat = false := by
    simp only [State.ready, Bool.and_eq_true, Bool.not_eq_true'] at h
    exact h.1.2
  have h2 : eccOf (s.core.advance ts).iramBad (s.core.teller k).pc.toNat e = e := by
    show eccOf s.core.iramBad _ _ = _
    unfold eccOf; rw [hb]; rfl
  unfold State.slot State.lift
  simp only [State.advance_core, Dev.advance_teller, h2]

theorem State.issueDev_ready {s : State} {k : Fin 8} {e : Ecc} {w : Word} (h : s.ready k e w = true) (ts : Nat) (f : Dev → Dev) :
    s.issueDev ts k e w f = (s.slot ts e).lift (fun c => (f c).stepDone k) := by
  unfold State.issueDev; rw [State.issue_ready h]; rfl

/-- An instruction whose effect on the device is to set its teller ends in that teller, stepped. -/
theorem Dev.stepDone_setTeller (c : Dev) (k : Fin 8) (t : Teller) (h : t.stall = none) :
    (c.setTeller k t).stepDone k = c.setTeller k (t.stepped c.now) := by
  simp [Dev.stepDone, h]

theorem State.ready_running {s : State} {k : Fin 8} {e : Ecc} {w : Word} (h : s.ready k e w = true) :
    s.core.live = true ∧ s.core.mainAlive = true ∧ (s.core.teller k).st = .running ∧ (s.core.teller k).stall = none := by
  simp only [State.ready, Bool.and_eq_true, beq_iff_eq] at h
  exact ⟨h.1.1.1.1.1.1.1, h.1.1.1.1.1.1.2, h.1.1.1.1.1.2, h.1.1.1.1.2⟩

/-- An instruction on the teller's own registers, flags and PC. -/
theorem State.issueRegs_ready {s : State} {k : Fin 8} {e : Ecc} {w : Word} (h : s.ready k e w = true) (ts : Nat) (f : Teller → Teller)
    (hf : (f (s.core.teller k)).stall = none) : s.issueRegs ts k e w f = (s.slot ts e).done k (f (s.core.teller k)) := by
  unfold State.issueRegs
  rw [State.issueDev_ready h]
  unfold State.lift State.done State.lift
  beta_reduce
  rw [State.slot_teller, Dev.stepDone_setTeller _ _ _ hf]

/-! ### Registers of a teller -/

@[simp] theorem Teller.xw_pc (t : Teller) (r : Fin 16) (v : Word) : (t.xw r v).pc = t.pc := by unfold Teller.xw; split <;> rfl
@[simp] theorem Teller.xw_stall (t : Teller) (r : Fin 16) (v : Word) : (t.xw r v).stall = t.stall := by unfold Teller.xw; split <;> rfl
@[simp] theorem Teller.xw_st (t : Teller) (r : Fin 16) (v : Word) : (t.xw r v).st = t.st := by unfold Teller.xw; split <;> rfl
@[simp] theorem Teller.xw_c (t : Teller) (r : Fin 16) (v : Word) : (t.xw r v).c = t.c := by unfold Teller.xw; split <;> rfl
@[simp] theorem Teller.xw_z (t : Teller) (r : Fin 16) (v : Word) : (t.xw r v).z = t.z := by unfold Teller.xw; split <;> rfl
@[simp] theorem Teller.xw_n (t : Teller) (r : Fin 16) (v : Word) : (t.xw r v).n = t.n := by unfold Teller.xw; split <;> rfl
@[simp] theorem Teller.xw_zero (t : Teller) (v : Word) : t.xw 0 v = t := rfl
@[simp] theorem Teller.xr_zero (t : Teller) : t.xr 0 = 0 := rfl

/-- A register read after a write: X0 reads 0, the written one its value, the others as before. -/
theorem Teller.xr_xw (t : Teller) (r q : Fin 16) (v : Word) :
    (t.xw r v).xr q = if q = 0 then 0 else if q = r then v else t.xr q := by
  by_cases hq : q = 0
  · subst hq; simp
  · have hq' : q.val ≠ 0 := fun h => hq (Fin.ext h)
    by_cases hr : r.val = 0
    · have hr' : r = 0 := Fin.ext hr
      subst hr'; simp [hq]
    · by_cases h : q = r
      · subst h; simp [Teller.xr, Teller.xw, hq, hq', vget_set]
      · simp [Teller.xr, Teller.xw, hq, hq', hr, h, vget_set]

/-! ### The queue and denials -/

theorem Dev.queueReq_room (s : Dev) (k : Fin 8) (b : TReqBody) (h : (s.teller k).queue.length < 64) :
    s.queueReq k b = s.setTeller k { s.teller k with
      queue := (s.teller k).queue ++ [⟨(s.teller k).pc, b⟩]
      pc := (s.teller k).pc + 1 } := by
  unfold Dev.queueReq
  rw [if_neg (by omega)]; rfl

theorem Dev.queueReq_full (s : Dev) (k : Fin 8) (b : TReqBody) (h : 64 ≤ (s.teller k).queue.length) :
    s.queueReq k b = s.setTeller k { s.teller k with stall := some (.queue ⟨(s.teller k).pc, b⟩) } := by
  unfold Dev.queueReq
  rw [if_pos h]

theorem Dev.inRange_in (s : Dev) (k : Fin 8) (a bound : Nat) (f : Fin bound → Dev → Dev) (h : a < bound) :
    s.inRange k a bound f = f ⟨a, h⟩ s := by unfold Dev.inRange; rw [dif_pos h]

theorem Dev.inRange_out (s : Dev) (k : Fin 8) (a bound : Nat) (f : Fin bound → Dev → Dev) (h : bound ≤ a) :
    s.inRange k a bound f = s.raise k .range := by unfold Dev.inRange; rw [dif_neg (by omega)]

/-- What a denial or a refusal at issue leaves (R189, R218). -/
theorem Dev.deny_eq (s : Dev) (k : Fin 8) (rd : Option (Fin 16)) (why : Reason) :
    s.deny k rd why = s.setTeller k { (s.teller k).zeroed rd with
      d := true
      refWhy := why.code
      refPc := (s.teller k).pc
      pc := (s.teller k).pc + 1 } := by
  unfold Dev.deny Dev.onward Teller.refuse Teller.next
  cases rd with
  | none => rfl
  | some r => simp [Teller.zeroed]

/-- R208: the operand A. -/
theorem Teller.opA_eq (t : Teller) (ra : Fin 16) (obj : BitVec 6) :
    t.opA ra obj = ((t.xr ra).toNat + obj.toNat) % 2 ^ 32 := by
  simp [Teller.opA, BitVec.toNat_add, BitVec.toNat_setWidth]

/-- R210: the deadline of a wait. -/
theorem Dev.deadline_eq (s : Dev) (t : Teller) (rb : Fin 16) :
    s.deadline t rb = if t.xr rb = 0 then none else some (s.now + (t.xr rb).toNat * 1000) := by
  unfold Dev.deadline
  have : ((t.xr rb).toNat = 0) ↔ t.xr rb = 0 := ⟨fun h => BitVec.eq_of_toNat_eq h, fun h => by rw [h]; rfl⟩
  simp [this]

end Sys2Proof.Machine
end

