-- ==== Sys2Proof/Tests/Slice0.lean ====
section
/-! SUPPORT. Tests: for every statement with hypotheses, states and operands that meet them, each clause's among them
(the theorems wit_<statement>); terms that are not well formed; the spec's worked examples; single commands. -/

namespace Sys2Proof.Tests

open Sys2Proof Sys2Proof.Machine

set_option Elab.async false

/-! ### States used by the witnesses -/

/-- The device in RUN with its table loaded and its clock going, everything else as after reset. -/
def runDev : Dev := { Dev.reset with
  dev := .run
  usecOn := true
  vault := { Dev.reset.vault with loaded := true } }

/-- The same with every resource owned by the program. -/
def progDev : Dev := { runDev with owners := Vector.replicate 256 .program }

/-- The same with every resource owned by door 0. -/
def doorDev : Dev := { runDev with owners := Vector.replicate 256 (.door 0) }

/-- A state of that device, nothing written to its memories. -/
def st (d : Dev) : State := { State.reset with core := d }

/-- Teller 3 as `t`, RUNNING, with the word `w` at its PC. -/
def busy (d : Dev) (t : Teller) (w : Word) : State :=
  { st { d with tellers := d.tellers.set 3 { t with st := .running } } with iram := [(t.pc.toNat, w)] }

/-- Teller 3 as `t`. -/
def tell (d : Dev) (t : Teller) : State := st { d with tellers := d.tellers.set 3 t }

/-- A device with these register fields set. -/
def puts (d : Dev) (l : List (Fld × Nat)) : Dev := l.foldl (fun (a : Dev) (p : Fld × Nat) => a.put p.1 p.2) d

/-- The device with rail 9 as `r`. -/
def rail9 (d : Dev) (r : Rail) : Dev := d.setRail 9 r
/-! ### Tellers -/

/-- Registers with their top bits set, small numbers, and C and Z set. -/
def regs3 : Teller := { ({} : Teller) with
  pc := 7
  x := (((((Vector.replicate 16 0).set 1 0x80000005).set 2 0xFFFFFFFF).set 3 37).set 5 6).set 6 4000
  c := true
  z := true }

/-- The same in the trap state, with two return addresses. -/
def trap3 : Teller := { regs3 with
  trapped := true
  stack := [9, 4] }

/-- The same at call depth 16. -/
def deep3 : Teller := { regs3 with stack := List.replicate 16 9 }

/-- The same with 64 requests queued. -/
def full3 : Teller := { regs3 with queue := List.replicate 64 ⟨1, .lock⟩ }

/-- A device whose data RAM has an unreadable word 5. -/
def badDev : Dev := { runDev with dramBad := [5] }

/-- A device with CFG.EXC of teller 3 set. -/
def excDev : Dev := runDev.put (F.TELLER_CFG_EXC 3) 1

/-- A device whose mask set 6 holds rails 1 and 47. -/
def maskDev : Dev := (progDev.put (F.M_LO_RAILS 6) 2).put (F.M_HI_RAILS 6) 0x8000

/-- A device in WATCH, after a wake event; its watch teller is teller 3. -/
def watchDev (d : Dev) : Dev := { (d.put F.SYS_MODE_EFF 2).put F.SYS_MODE_WTELLER 3 with awake := true }

/-- Teller 3 WAITING for `w`. -/
def waits3 (d : Dev) (w : Wait) : State := tell d { regs3 with
  st := .waiting
  wait := some w
  causes := 3 }

/-- A record for the journal. -/
def rec0 : JRec := ⟨0x8001, 3, false, false, false, ⟨0, 0, 0, 0⟩, 1, 2, none⟩

/-- 96 records wait. -/
def jfullDev : Dev := { progDev with jq := List.replicate 96 (0, rec0) }
/-- An image with one instruction, four bytes of data, a shutdown table of one END step, and teller 3 to start, as bank A
holds it (R285-R291, R339, R340); its CRC (R287) computed by hand. -/
def imageA : List (Nat × Byte) := [
  (0x100000, 0x4d), (0x100001, 0x4c), (0x100002, 0x54), (0x100003, 0x48), (0x100004, 0x1), (0x100006, 0x24), (0x100007, 0x48), (0x100008, 0x11),
  (0x10000a, 0x40), (0x10000c, 0xac), (0x10000d, 0x3), (0x100010, 0x1), (0x100018, 0x80), (0x100019, 0x3), (0x10001c, 0x1), (0x100020, 0x88),
  (0x100021, 0x3), (0x100024, 0x4), (0x100030, 0x90), (0x100031, 0x3), (0x100034, 0x18), (0x10005c, 0x8), (0x100383, 0x4), (0x100388, 0x11),
  (0x100389, 0x22), (0x10038a, 0x33), (0x10038b, 0x44), (0x100394, 0x1), (0x10039e, 0x3), (0x1003a8, 0xee), (0x1003a9, 0xe8), (0x1003aa, 0x6f),
  (0x1003ab, 0x32)]

/-- The device in a boot step, its clock running. -/
def bootDev (step : Nat) : Dev := ({ Dev.reset with
  dev := .boot
  usecOn := true }).put F.SYS_STATE_BOOTSTEP step

/-- A state of the device with bank A programmed. -/
def img (d : Dev) : State := { st d with ledger := imageA }
/-! ### Doors -/

/-- A request whole on the wire. -/
def frame0 : Frame := ⟨.good, 0, true, true, 7, none, none⟩

/-- The same in the widest form. -/
def frame2 : Frame := ⟨.good, 2, true, true, 7, none, none⟩

/-- All resources are door 2's. -/
def door2Dev : Dev := { runDev with owners := Vector.replicate 256 (.door 2) }

/-- The device with CAN_EN set. -/
def canDev : Dev := { runDev with regs := [(0xD0 * 32, 1)] }
/-! ### Health days and readings -/

/-- An open health day with rail 9 on since 7 and everything counted. -/
def day1 : HDay := ⟨4097, 3, 0, some 100, true, (Vector.replicate 48 {}).set 9
  { onNs := 5000000000, onAt := some 7, vMin := 3, vMax := 5, meanSum := 7, meanN := 2,
    ppMax := 3, rmsMax := 4, droops := 5, nint := 3, uvShort := 70000, pgShort := 4, uvCnt := 5, ovCnt := 6,
    faults := 7, cycles := 8, margNs := 9000000000, margAt := some 9,
    tempMax := some (-5), clip := true }⟩

/-- A closed empty day. -/
def day2 : HDay := ⟨0, 0, 0, none, false, Vector.replicate 48 {}⟩

/-- A day whose whole length has passed. -/
def day3 : HDay := ⟨1, 0, 86400000000000, none, false, Vector.replicate 48 {}⟩

/-- A reading of 7000 for each power stage. -/
def adc24 : List Nat := List.replicate 24 7000

/-! ### Witnesses: TellerArithmetic -/

def w0 : State := busy runDev regs3 (wordR 0x2 4 1 2)
def w1 : State := busy runDev regs3 (wordR 0x3 4 3 2)
def w2 : State := busy runDev regs3 (wordR 0xa 4 1 2)
def w3 : State := busy runDev regs3 (wordR 0xb 0 1 3)
def w4 : State := busy runDev regs3 (wordR 0x1 0 0 0)
def w5 : State := busy runDev regs3 (wordI 0xc 4 1 ((0x3FFFF : BitVec 18).toNat))
def w6 : State := busy runDev regs3 (wordI 0x13 0 1 ((0x3FFFF : BitVec 18).toNat))
def w7 : State := busy runDev regs3 (wordI 0x14 4 0 ((0x3FFFF : BitVec 18).toNat))
def w8 : State := busy runDev regs3 (wordI 0x15 0 0 ((9 : BitVec 18).toNat))

/-- Every hypothesis of TellerArithmetic is met. -/
theorem wit_TellerArithmetic :
    (w0.ready 3 Ecc.corrected (wordR 2 4 1 2) = true) ∧
    (w1.ready 3 Ecc.corrected (wordR 3 4 3 2) = true) ∧
    (w2.ready 3 Ecc.corrected (wordR 10 4 1 2) = true) ∧
    (w3.ready 3 Ecc.corrected (wordR 11 0 1 3) = true) ∧
    (w4.ready 3 Ecc.clean (wordR 1 0 0 0) = true) ∧
    (w5.ready 3 Ecc.clean (wordI 12 4 1 262143) = true) ∧
    (w6.ready 3 Ecc.clean (wordI 19 0 1 262143) = true) ∧
    (w7.ready 3 Ecc.clean (wordI 20 4 0 262143) = true) ∧
    (w8.ready 3 Ecc.clean (wordI 21 0 0 9) = true) := by
  refine ⟨?_, ?_, ?_, ?_, ?_, ?_, ?_, ?_, ?_⟩ <;> decide +kernel

/-! ### Witnesses: TellerLogic -/

def w9 : State := busy runDev regs3 (wordR 0x4 4 1 2)
def w10 : State := busy runDev regs3 (wordR 0x5 4 1 2)
def w11 : State := busy runDev regs3 (wordR 0x6 4 1 2)
def w12 : State := busy runDev regs3 (wordI 0xd 4 2 ((0x3FFFF : BitVec 18).toNat))
def w13 : State := busy runDev regs3 (wordI 0xe 4 2 ((0x3FFFF : BitVec 18).toNat))
def w14 : State := busy runDev regs3 (wordI 0xf 4 2 ((0x3FFFF : BitVec 18).toNat))
def w15 : State := busy runDev regs3 (wordR 0x7 4 1 3)
def w16 : State := busy runDev regs3 (wordR 0x8 4 1 3)
def w17 : State := busy runDev regs3 (wordR 0x9 4 1 3)
def w18 : State := busy runDev regs3 (wordI 0x10 4 1 ((0 : BitVec 18).toNat))
def w19 : State := busy runDev regs3 (wordI 0x11 4 1 ((0 : BitVec 18).toNat))
def w20 : State := busy runDev regs3 (wordI 0x12 4 1 ((0 : BitVec 18).toNat))

/-- Every hypothesis of TellerLogic is met. -/
theorem wit_TellerLogic :
    (w9.ready 3 Ecc.clean (wordR 4 4 1 2) = true) ∧
    (w10.ready 3 Ecc.clean (wordR 5 4 1 2) = true) ∧
    (w11.ready 3 Ecc.clean (wordR 6 4 1 2) = true) ∧
    (w12.ready 3 Ecc.clean (wordI 13 4 2 262143) = true) ∧
    (w13.ready 3 Ecc.clean (wordI 14 4 2 262143) = true) ∧
    (w14.ready 3 Ecc.clean (wordI 15 4 2 262143) = true) ∧
    (w15.ready 3 Ecc.clean (wordR 7 4 1 3) = true) ∧
    (w16.ready 3 Ecc.clean (wordR 8 4 1 3) = true) ∧
    (w17.ready 3 Ecc.clean (wordR 9 4 1 3) = true) ∧
    (w18.ready 3 Ecc.clean (wordI 16 4 1 0) = true) ∧
    (w19.ready 3 Ecc.clean (wordI 17 4 1 0) = true) ∧
    (w20.ready 3 Ecc.clean (wordI 18 4 1 0) = true) := by
  refine ⟨?_, ?_, ?_, ?_, ?_, ?_, ?_, ?_, ?_, ?_, ?_, ?_⟩ <;> decide +kernel

/-! ### Witnesses: TellerDataRam -/

def w21 : State := busy badDev regs3 (wordI 0x16 1 6 ((0 : BitVec 18).toNat))
def w22 : State := busy badDev regs3 (wordI 0x17 1 6 ((0 : BitVec 18).toNat))
def w23 : State := busy badDev regs3 (wordI 0x18 1 6 ((0 : BitVec 18).toNat))
def w24 : State := busy badDev regs3 (wordI 0x19 1 6 ((0 : BitVec 18).toNat))
def w25 : State := busy badDev regs3 (wordI 0x30 0 6 ((0 : BitVec 18).toNat))

/-- Every hypothesis of TellerDataRam is met. -/
theorem wit_TellerDataRam :
    (w21.ready 3 Ecc.clean (wordI 22 1 6 0) = true) ∧
    ((0 : ℤ) ≤ BitVec.toInt ((w21.core.teller (3 : Fin (8 : ℕ))).xr (6 : Fin (16 : ℕ)) + BitVec.ofNat (32 : ℕ) (0 : ℕ))) ∧
    (BitVec.toInt ((w21.core.teller (3 : Fin (8 : ℕ))).xr (6 : Fin (16 : ℕ)) + BitVec.ofNat (32 : ℕ) (0 : ℕ)) ≤ (65535 : ℤ)) ∧
    ((BitVec.toInt ((w21.core.teller 3).xr 6 + 0#32)).toNat % 4 = 0) ∧
    (Ecc.corrected ≠ Ecc.uncorrectable) ∧
    (w21.core.dramBad.contains ((BitVec.toInt ((w21.core.teller 3).xr 6 + 0#32)).toNat / 4) = false) ∧
    (w22.ready 3 Ecc.clean (wordI 23 1 6 0) = true) ∧
    ((0 : ℤ) ≤ BitVec.toInt ((w22.core.teller (3 : Fin (8 : ℕ))).xr (6 : Fin (16 : ℕ)) + BitVec.ofNat (32 : ℕ) (0 : ℕ))) ∧
    (BitVec.toInt ((w22.core.teller (3 : Fin (8 : ℕ))).xr (6 : Fin (16 : ℕ)) + BitVec.ofNat (32 : ℕ) (0 : ℕ)) ≤ (65535 : ℤ)) ∧
    ((BitVec.toInt ((w22.core.teller 3).xr 6 + 0#32)).toNat % 4 = 0) ∧
    (w23.ready 3 Ecc.clean (wordI 24 1 6 0) = true) ∧
    ((0 : ℤ) ≤ BitVec.toInt ((w23.core.teller (3 : Fin (8 : ℕ))).xr (6 : Fin (16 : ℕ)) + BitVec.ofNat (32 : ℕ) (0 : ℕ))) ∧
    (BitVec.toInt ((w23.core.teller (3 : Fin (8 : ℕ))).xr (6 : Fin (16 : ℕ)) + BitVec.ofNat (32 : ℕ) (0 : ℕ)) ≤ (65535 : ℤ)) ∧
    (w23.core.dramBad.contains ((BitVec.toInt ((w23.core.teller 3).xr 6 + 0#32)).toNat / 4) = false) ∧
    (w24.ready 3 Ecc.clean (wordI 25 1 6 0) = true) ∧
    ((0 : ℤ) ≤ BitVec.toInt ((w24.core.teller (3 : Fin (8 : ℕ))).xr (6 : Fin (16 : ℕ)) + BitVec.ofNat (32 : ℕ) (0 : ℕ))) ∧
    (BitVec.toInt ((w24.core.teller (3 : Fin (8 : ℕ))).xr (6 : Fin (16 : ℕ)) + BitVec.ofNat (32 : ℕ) (0 : ℕ)) ≤ (65535 : ℤ)) ∧
    (w24.core.dramBad.contains ((BitVec.toInt ((w24.core.teller 3).xr 6 + 0#32)).toNat / 4) = false) ∧
    (w25.ready 3 Ecc.clean (wordI 48 0 6 0) = true) ∧
    ((0 : ℤ) ≤ BitVec.toInt ((w25.core.teller (3 : Fin (8 : ℕ))).xr (6 : Fin (16 : ℕ)) + BitVec.ofNat (32 : ℕ) (0 : ℕ))) ∧
    (BitVec.toInt ((w25.core.teller (3 : Fin (8 : ℕ))).xr (6 : Fin (16 : ℕ)) + BitVec.ofNat (32 : ℕ) (0 : ℕ)) + (15 : ℤ) ≤ (65535 : ℤ)) ∧
    ((BitVec.toInt ((w25.core.teller 3).xr 6 + 0#32)).toNat % 4 = 0) := by
  refine ⟨?_, ?_, ?_, ?_, ?_, ?_, ?_, ?_, ?_, ?_, ?_, ?_, ?_, ?_, ?_, ?_, ?_, ?_, ?_, ?_, ?_, ?_⟩ <;> decide +kernel

/-! ### Witnesses: TellerReads -/

def w26 : State := busy maskDev regs3 (wordI 0x1a 4 3 ((65498 : BitVec 18).toNat))
def w27 : State := busy maskDev regs3 (wordD 0x2e 4 5 0 0 1)
def w28 : State := busy maskDev regs3 (wordD 0x2c 0 5 0 0 0)
def w29 : State := busy maskDev regs3 (wordD 0x21 4 0 0 0 0)
def w30 : State := busy maskDev { regs3 with wdogNs := 55 } (wordD 0x20 0 0 0 0 1)
def w31 : State := busy maskDev regs3 (wordD 0x21 0 2 0 63 1)

/-- Every hypothesis of TellerReads is met. -/
theorem wit_TellerReads :
    (w26.ready 3 Ecc.clean (wordI 26 4 3 65498) = true) ∧
    (BitVec.toNat ((w26.core.teller 3).xr 3) + 65498 ≤ 65535) ∧
    (w27.ready 3 Ecc.clean (wordD 46 4 5 0 (0#6) (if true = true then 1 else 0)) = true) ∧
    ((BitVec.toNat ((w27.core.teller 3).xr 5) + 0) % 4294967296 ≤ 63) ∧
    (w28.ready 3 Ecc.clean (wordD 44 0 5 0 (0#6) 0) = true) ∧
    ((BitVec.toNat ((w28.core.teller 3).xr 5) + 0) % 4294967296 ≤ 63) ∧
    (w29.ready 3 Ecc.clean (wordD 33 4 0 0 (0#6) 0) = true) ∧
    (w30.ready 3 Ecc.clean (wordD 32 0 0 0 (0#6) 1) = true) ∧
    (w31.ready 3 Ecc.corrected (wordD 33 0 2 0 (63#6) 1) = true) := by
  refine ⟨?_, ?_, ?_, ?_, ?_, ?_, ?_, ?_, ?_⟩ <;> decide +kernel

/-! ### Witnesses: TellerControl -/

def w32 : State := busy runDev regs3 (wordJ 0x1c 0 65535)
def w33 : State := busy runDev { ({} : Teller) with t := true } (wordJ 0x1c 1 65535)
def w34 : State := busy runDev regs3 (wordJ 0x1d 0 12)
def w35 : State := busy runDev trap3 (wordJ 0x1e 0 0)
def w36 : State := busy runDev trap3 (wordR 0x1f 0 2 0)
def w37 : State := busy { runDev with preqs := [⟨.hold, .teller 3, 1, 4, 0, true⟩, ⟨.hold, .teller 2, 1, 4, 0, true⟩] } { trap3 with wdogNs := 9 } (wordD 0x20 0 0 0 0 0)

/-- Every hypothesis of TellerControl is met. -/
theorem wit_TellerControl :
    (w32.ready 3 Ecc.clean (wordJ 28 Cond.al.code 65535#16) = true) ∧
    (w33.ready 3 Ecc.clean (wordJ 28 Cond.eq.code 65535#16) = true) ∧
    (¬(w33.core.teller 3).z = true) ∧
    (w34.ready 3 Ecc.clean (wordJ 29 0 12#16) = true) ∧
    ((w34.core.teller 3).stack.length < 16) ∧
    (w35.ready 3 Ecc.clean (wordJ 30 0 0#16) = true) ∧
    ((w35.core.teller 3).stack = [9#16, 4#16]) ∧
    (w36.ready 3 Ecc.clean (wordR 31 0 2 0) = true) ∧
    ((w36.core.teller 3).trapped = true) ∧
    (w37.ready 3 Ecc.clean (wordD 32 0 0 0 (0#6) 0) = true) := by
  refine ⟨?_, ?_, ?_, ?_, ?_, ?_, ?_, ?_, ?_, ?_⟩ <;> decide +kernel

/-! ### Witnesses: TellerExceptions -/

def w38 : State := busy runDev regs3 (0xFC000000#32)
def w39 : State := busy excDev regs3 (0xFC000000#32)
def w40 : State := busy runDev { regs3 with trapped := true } (0xFC000000#32)
def w41 : State := busy (runDev.put (F.TELLER_CFG_EXC 3) 2) regs3 (0xFC000000#32)
def w42 : State := busy runDev deep3 (wordJ 0x1d 0 12)
def w43 : State := busy runDev regs3 (wordJ 0x1e 0 0)
def w44 : State := busy runDev regs3 (wordR 0x1f 0 1 0)
def w45 : State := busy runDev regs3 (wordI 0x16 4 6 ((1 : BitVec 18).toNat))
def w46 : State := busy runDev regs3 (wordI 0x17 4 0 ((0x3FFFF : BitVec 18).toNat))
def w47 : State := busy runDev regs3 (wordI 0x19 4 0 ((0xFFFF : BitVec 18).toNat))
def w48 : State := busy runDev regs3 (wordD 0x24 0 0 0 48 0)
def w49 : State := busy runDev regs3 (wordD 0x3b 0 0 0 0 3)
def w50 : State := busy runDev regs3 (wordD 0x33 0 0 0 0 0)
def w51 : State := busy excDev deep3 (wordJ 0x1d 0 12)
def w52 : State := busy excDev regs3 (wordJ 0x1e 0 0)
def w53 : State := busy excDev regs3 (wordR 0x1f 0 1 0)
def w54 : State := busy excDev regs3 (wordI 0x16 4 6 ((1 : BitVec 18).toNat))
def w55 : State := busy excDev regs3 (wordI 0x17 4 0 ((0x3FFFF : BitVec 18).toNat))
def w56 : State := busy excDev regs3 (wordI 0x19 4 0 ((0xFFFF : BitVec 18).toNat))
def w57 : State := busy excDev regs3 (wordD 0x24 0 0 0 48 0)
def w58 : State := busy excDev regs3 (wordD 0x3b 0 0 0 0 3)
def w59 : State := busy excDev regs3 (wordD 0x33 0 0 0 0 0)
def w60 : State := busy runDev { deep3 with trapped := true } (wordJ 0x1d 0 12)
def w61 : State := busy runDev { regs3 with trapped := true } (wordJ 0x1e 0 0)
def w62 : State := busy runDev { regs3 with trapped := true } (wordI 0x16 4 6 ((1 : BitVec 18).toNat))
def w63 : State := busy runDev { regs3 with trapped := true } (wordI 0x17 4 0 ((0x3FFFF : BitVec 18).toNat))
def w64 : State := busy runDev { regs3 with trapped := true } (wordI 0x19 4 0 ((0xFFFF : BitVec 18).toNat))
def w65 : State := busy runDev { regs3 with trapped := true } (wordD 0x24 0 0 0 48 0)
def w66 : State := busy runDev { regs3 with trapped := true } (wordD 0x3b 0 0 0 0 3)
def w67 : State := busy runDev { regs3 with trapped := true } (wordD 0x33 0 0 0 0 0)
def w68 : State := busy (runDev.put (F.TELLER_CFG_EXC 3) 2) deep3 (wordJ 0x1d 0 12)
def w69 : State := busy (runDev.put (F.TELLER_CFG_EXC 3) 2) regs3 (wordJ 0x1e 0 0)
def w70 : State := busy (runDev.put (F.TELLER_CFG_EXC 3) 2) regs3 (wordR 0x1f 0 1 0)
def w71 : State := busy (runDev.put (F.TELLER_CFG_EXC 3) 2) regs3 (wordI 0x16 4 6 ((1 : BitVec 18).toNat))
def w72 : State := busy (runDev.put (F.TELLER_CFG_EXC 3) 2) regs3 (wordI 0x17 4 0 ((0x3FFFF : BitVec 18).toNat))
def w73 : State := busy (runDev.put (F.TELLER_CFG_EXC 3) 2) regs3 (wordI 0x19 4 0 ((0xFFFF : BitVec 18).toNat))
def w74 : State := busy (runDev.put (F.TELLER_CFG_EXC 3) 2) regs3 (wordD 0x24 0 0 0 48 0)
def w75 : State := busy (runDev.put (F.TELLER_CFG_EXC 3) 2) regs3 (wordD 0x3b 0 0 0 0 3)
def w76 : State := busy (runDev.put (F.TELLER_CFG_EXC 3) 2) regs3 (wordD 0x33 0 0 0 0 0)
def w77 : State := tell (puts runDev [(F.TELLER_CFG_WDOG 3, 1), (F.TELLER_CFG_EXC 3, 1)]) { st := .running, trapped := true, pc := 9, trap := 4, runAt := 3, wdogNs := 8 }
def w78 : State := tell (puts runDev [(F.TELLER_CFG_WDOG 3, 1), (F.TELLER_CFG_EXC 3, 0)]) { st := .running, trapped := false, pc := 9, trap := 4, runAt := 3, wdogNs := 8 }
def w79 : State := tell (puts runDev [(F.TELLER_CFG_WDOG 3, 1), (F.TELLER_CFG_EXC 3, 1)]) { st := .running, trapped := false, pc := 9, trap := 4, runAt := 3, wdogNs := 8 }

/-- Every hypothesis of TellerExceptions is met. -/
theorem wit_TellerExceptions :
    (w38.ready 3 Ecc.clean 4227858432#32 = true) ∧
    (legalWord (4227858432 : ℕ) = false) ∧
    ((w38.core.teller 3).trapped = false) ∧
    (w38.core.get (F.TELLER_CFG_EXC ↑3) = 0) ∧
    (w39.ready 3 Ecc.clean 4227858432#32 = true) ∧
    ((w39.core.teller 3).trapped = false) ∧
    (w39.core.get (F.TELLER_CFG_EXC ↑3) = 1) ∧
    (w40.ready 3 Ecc.clean 4227858432#32 = true) ∧
    ((w40.core.teller 3).trapped = true) ∧
    (w40.core.get (F.TELLER_CFG_EXC ↑3) < 2) ∧
    (w41.ready 3 Ecc.clean 4227858432#32 = true) ∧
    (w41.core.get (F.TELLER_CFG_EXC ↑3) = 2) ∧
    (w42.ready 3 Ecc.clean (wordJ 29 0 12#16) = true) ∧
    (16 ≤ (w42.core.teller 3).stack.length) ∧
    ((w42.core.teller 3).trapped = false) ∧
    (w42.core.get (F.TELLER_CFG_EXC ↑3) = 0) ∧
    (w43.ready 3 Ecc.clean (wordJ 30 0 0#16) = true) ∧
    ((w43.core.teller 3).stack = []) ∧
    ((w43.core.teller 3).trapped = false) ∧
    (w43.core.get (F.TELLER_CFG_EXC ↑3) = 0) ∧
    (w44.ready 3 Ecc.clean (wordR 31 0 1 0) = true) ∧
    ((w44.core.teller 3).trapped = false) ∧
    (w44.core.get (F.TELLER_CFG_EXC ↑3) = 0) ∧
    (w45.ready 3 Ecc.clean (wordI 22 4 6 1) = true) ∧
    ((0 : ℤ) ≤ BitVec.toInt ((w45.core.teller (3 : Fin (8 : ℕ))).xr (6 : Fin (16 : ℕ)) + BitVec.ofNat (32 : ℕ) (1 : ℕ))) ∧
    (BitVec.toInt ((w45.core.teller (3 : Fin (8 : ℕ))).xr (6 : Fin (16 : ℕ)) + BitVec.ofNat (32 : ℕ) (1 : ℕ)) ≤ (65535 : ℤ)) ∧
    ((BitVec.toInt ((w45.core.teller 3).xr 6 + 1#32)).toNat % 4 ≠ 0) ∧
    ((w45.core.teller 3).trapped = false) ∧
    (w45.core.get (F.TELLER_CFG_EXC ↑3) = 0) ∧
    (w46.ready 3 Ecc.clean (wordI 23 4 0 262143) = true) ∧
    (BitVec.toInt ((w46.core.teller (3 : Fin (8 : ℕ))).xr (0 : Fin (16 : ℕ)) + BitVec.ofNat (32 : ℕ) (4294967295 : ℕ)) < (0 : ℤ) ∨ (65535 : ℤ) < BitVec.toInt ((w46.core.teller (3 : Fin (8 : ℕ))).xr (0 : Fin (16 : ℕ)) + BitVec.ofNat (32 : ℕ) (4294967295 : ℕ))) ∧
    ((w46.core.teller 3).trapped = false) ∧
    (w46.core.get (F.TELLER_CFG_EXC ↑3) = 0) ∧
    (w47.ready 3 Ecc.clean (wordI 25 4 0 65535) = true) ∧
    ((0 : ℤ) ≤ BitVec.toInt ((w47.core.teller (3 : Fin (8 : ℕ))).xr (0 : Fin (16 : ℕ)) + BitVec.ofNat (32 : ℕ) (65535 : ℕ))) ∧
    (BitVec.toInt ((w47.core.teller (3 : Fin (8 : ℕ))).xr (0 : Fin (16 : ℕ)) + BitVec.ofNat (32 : ℕ) (65535 : ℕ)) ≤ (65535 : ℤ)) ∧
    ((w47.core.teller 3).trapped = false) ∧
    (w47.core.get (F.TELLER_CFG_EXC ↑3) = 0) ∧
    (w48.ready 3 Ecc.clean (wordD 36 0 0 0 (48#6) 0) = true) ∧
    (48 ≤ (BitVec.toNat ((w48.core.teller 3).xr 0) + 48) % 4294967296) ∧
    ((w48.core.teller 3).trapped = false) ∧
    (w48.core.get (F.TELLER_CFG_EXC ↑3) = 0) ∧
    (w49.ready 3 Ecc.clean (wordD 59 0 0 0 (0#6) 3) = true) ∧
    ((w49.core.teller 3).trapped = false) ∧
    (w49.core.get (F.TELLER_CFG_EXC ↑3) = 0) ∧
    (w50.ready 3 Ecc.clean (wordD 51 0 0 0 (0#6) 0) = true) ∧
    ((BitVec.toNat ((w50.core.teller 3).xr 0) + 0) % 4294967296 = 0 ∨ 255 < (BitVec.toNat ((w50.core.teller 3).xr 0) + 0) % 4294967296) ∧
    ((w50.core.teller 3).trapped = false) ∧
    (w50.core.get (F.TELLER_CFG_EXC ↑3) = 0) ∧
    (w51.ready 3 Ecc.clean (wordJ 29 0 12#16) = true) ∧
    (16 ≤ (w51.core.teller 3).stack.length) ∧
    ((w51.core.teller 3).trapped = false) ∧
    (w51.core.get (F.TELLER_CFG_EXC ↑3) = 1) ∧
    (w52.ready 3 Ecc.clean (wordJ 30 0 0#16) = true) ∧
    ((w52.core.teller 3).stack = []) ∧
    ((w52.core.teller 3).trapped = false) ∧
    (w52.core.get (F.TELLER_CFG_EXC ↑3) = 1) ∧
    (w53.ready 3 Ecc.clean (wordR 31 0 1 0) = true) ∧
    ((w53.core.teller 3).trapped = false) ∧
    (w53.core.get (F.TELLER_CFG_EXC ↑3) = 1) ∧
    (w54.ready 3 Ecc.clean (wordI 22 4 6 1) = true) ∧
    ((0 : ℤ) ≤ BitVec.toInt ((w54.core.teller (3 : Fin (8 : ℕ))).xr (6 : Fin (16 : ℕ)) + BitVec.ofNat (32 : ℕ) (1 : ℕ))) ∧
    (BitVec.toInt ((w54.core.teller (3 : Fin (8 : ℕ))).xr (6 : Fin (16 : ℕ)) + BitVec.ofNat (32 : ℕ) (1 : ℕ)) ≤ (65535 : ℤ)) ∧
    ((BitVec.toInt ((w54.core.teller 3).xr 6 + 1#32)).toNat % 4 ≠ 0) ∧
    ((w54.core.teller 3).trapped = false) ∧
    (w54.core.get (F.TELLER_CFG_EXC ↑3) = 1) ∧
    (w55.ready 3 Ecc.clean (wordI 23 4 0 262143) = true) ∧
    (BitVec.toInt ((w55.core.teller (3 : Fin (8 : ℕ))).xr (0 : Fin (16 : ℕ)) + BitVec.ofNat (32 : ℕ) (4294967295 : ℕ)) < (0 : ℤ) ∨ (65535 : ℤ) < BitVec.toInt ((w55.core.teller (3 : Fin (8 : ℕ))).xr (0 : Fin (16 : ℕ)) + BitVec.ofNat (32 : ℕ) (4294967295 : ℕ))) ∧
    ((w55.core.teller 3).trapped = false) ∧
    (w55.core.get (F.TELLER_CFG_EXC ↑3) = 1) ∧
    (w56.ready 3 Ecc.clean (wordI 25 4 0 65535) = true) ∧
    ((0 : ℤ) ≤ BitVec.toInt ((w56.core.teller (3 : Fin (8 : ℕ))).xr (0 : Fin (16 : ℕ)) + BitVec.ofNat (32 : ℕ) (65535 : ℕ))) ∧
    (BitVec.toInt ((w56.core.teller (3 : Fin (8 : ℕ))).xr (0 : Fin (16 : ℕ)) + BitVec.ofNat (32 : ℕ) (65535 : ℕ)) ≤ (65535 : ℤ)) ∧
    ((w56.core.teller 3).trapped = false) ∧
    (w56.core.get (F.TELLER_CFG_EXC ↑3) = 1) ∧
    (w57.ready 3 Ecc.clean (wordD 36 0 0 0 (48#6) 0) = true) ∧
    (48 ≤ (BitVec.toNat ((w57.core.teller 3).xr 0) + 48) % 4294967296) ∧
    ((w57.core.teller 3).trapped = false) ∧
    (w57.core.get (F.TELLER_CFG_EXC ↑3) = 1) ∧
    (w58.ready 3 Ecc.clean (wordD 59 0 0 0 (0#6) 3) = true) ∧
    ((w58.core.teller 3).trapped = false) ∧
    (w58.core.get (F.TELLER_CFG_EXC ↑3) = 1) ∧
    (w59.ready 3 Ecc.clean (wordD 51 0 0 0 (0#6) 0) = true) ∧
    ((BitVec.toNat ((w59.core.teller 3).xr 0) + 0) % 4294967296 = 0 ∨ 255 < (BitVec.toNat ((w59.core.teller 3).xr 0) + 0) % 4294967296) ∧
    ((w59.core.teller 3).trapped = false) ∧
    (w59.core.get (F.TELLER_CFG_EXC ↑3) = 1) ∧
    (w60.ready 3 Ecc.clean (wordJ 29 0 12#16) = true) ∧
    (16 ≤ (w60.core.teller 3).stack.length) ∧
    ((w60.core.teller 3).trapped = true) ∧
    (w60.core.get (F.TELLER_CFG_EXC ↑3) < 2) ∧
    (w61.ready 3 Ecc.clean (wordJ 30 0 0#16) = true) ∧
    ((w61.core.teller 3).stack = []) ∧
    ((w61.core.teller 3).trapped = true) ∧
    (w61.core.get (F.TELLER_CFG_EXC ↑3) < 2) ∧
    (w62.ready 3 Ecc.clean (wordI 22 4 6 1) = true) ∧
    ((0 : ℤ) ≤ BitVec.toInt ((w62.core.teller (3 : Fin (8 : ℕ))).xr (6 : Fin (16 : ℕ)) + BitVec.ofNat (32 : ℕ) (1 : ℕ))) ∧
    (BitVec.toInt ((w62.core.teller (3 : Fin (8 : ℕ))).xr (6 : Fin (16 : ℕ)) + BitVec.ofNat (32 : ℕ) (1 : ℕ)) ≤ (65535 : ℤ)) ∧
    ((BitVec.toInt ((w62.core.teller 3).xr 6 + 1#32)).toNat % 4 ≠ 0) ∧
    ((w62.core.teller 3).trapped = true) ∧
    (w62.core.get (F.TELLER_CFG_EXC ↑3) < 2) ∧
    (w63.ready 3 Ecc.clean (wordI 23 4 0 262143) = true) ∧
    (BitVec.toInt ((w63.core.teller (3 : Fin (8 : ℕ))).xr (0 : Fin (16 : ℕ)) + BitVec.ofNat (32 : ℕ) (4294967295 : ℕ)) < (0 : ℤ) ∨ (65535 : ℤ) < BitVec.toInt ((w63.core.teller (3 : Fin (8 : ℕ))).xr (0 : Fin (16 : ℕ)) + BitVec.ofNat (32 : ℕ) (4294967295 : ℕ))) ∧
    ((w63.core.teller 3).trapped = true) ∧
    (w63.core.get (F.TELLER_CFG_EXC ↑3) < 2) ∧
    (w64.ready 3 Ecc.clean (wordI 25 4 0 65535) = true) ∧
    ((0 : ℤ) ≤ BitVec.toInt ((w64.core.teller (3 : Fin (8 : ℕ))).xr (0 : Fin (16 : ℕ)) + BitVec.ofNat (32 : ℕ) (65535 : ℕ))) ∧
    (BitVec.toInt ((w64.core.teller (3 : Fin (8 : ℕ))).xr (0 : Fin (16 : ℕ)) + BitVec.ofNat (32 : ℕ) (65535 : ℕ)) ≤ (65535 : ℤ)) ∧
    ((w64.core.teller 3).trapped = true) ∧
    (w64.core.get (F.TELLER_CFG_EXC ↑3) < 2) ∧
    (w65.ready 3 Ecc.clean (wordD 36 0 0 0 (48#6) 0) = true) ∧
    (48 ≤ (BitVec.toNat ((w65.core.teller 3).xr 0) + 48) % 4294967296) ∧
    ((w65.core.teller 3).trapped = true) ∧
    (w65.core.get (F.TELLER_CFG_EXC ↑3) < 2) ∧
    (w66.ready 3 Ecc.clean (wordD 59 0 0 0 (0#6) 3) = true) ∧
    ((w66.core.teller 3).trapped = true) ∧
    (w66.core.get (F.TELLER_CFG_EXC ↑3) < 2) ∧
    (w67.ready 3 Ecc.clean (wordD 51 0 0 0 (0#6) 0) = true) ∧
    ((BitVec.toNat ((w67.core.teller 3).xr 0) + 0) % 4294967296 = 0 ∨ 255 < (BitVec.toNat ((w67.core.teller 3).xr 0) + 0) % 4294967296) ∧
    ((w67.core.teller 3).trapped = true) ∧
    (w67.core.get (F.TELLER_CFG_EXC ↑3) < 2) ∧
    (w68.ready 3 Ecc.clean (wordJ 29 0 12#16) = true) ∧
    (16 ≤ (w68.core.teller 3).stack.length) ∧
    (w68.core.get (F.TELLER_CFG_EXC ↑3) = 2) ∧
    (w69.ready 3 Ecc.clean (wordJ 30 0 0#16) = true) ∧
    ((w69.core.teller 3).stack = []) ∧
    (w69.core.get (F.TELLER_CFG_EXC ↑3) = 2) ∧
    (w70.ready 3 Ecc.clean (wordR 31 0 1 0) = true) ∧
    ((w70.core.teller 3).trapped = false) ∧
    (w70.core.get (F.TELLER_CFG_EXC ↑3) = 2) ∧
    (w71.ready 3 Ecc.clean (wordI 22 4 6 1) = true) ∧
    ((0 : ℤ) ≤ BitVec.toInt ((w71.core.teller (3 : Fin (8 : ℕ))).xr (6 : Fin (16 : ℕ)) + BitVec.ofNat (32 : ℕ) (1 : ℕ))) ∧
    (BitVec.toInt ((w71.core.teller (3 : Fin (8 : ℕ))).xr (6 : Fin (16 : ℕ)) + BitVec.ofNat (32 : ℕ) (1 : ℕ)) ≤ (65535 : ℤ)) ∧
    ((BitVec.toInt ((w71.core.teller 3).xr 6 + 1#32)).toNat % 4 ≠ 0) ∧
    (w71.core.get (F.TELLER_CFG_EXC ↑3) = 2) ∧
    (w72.ready 3 Ecc.clean (wordI 23 4 0 262143) = true) ∧
    (BitVec.toInt ((w72.core.teller (3 : Fin (8 : ℕ))).xr (0 : Fin (16 : ℕ)) + BitVec.ofNat (32 : ℕ) (4294967295 : ℕ)) < (0 : ℤ) ∨ (65535 : ℤ) < BitVec.toInt ((w72.core.teller (3 : Fin (8 : ℕ))).xr (0 : Fin (16 : ℕ)) + BitVec.ofNat (32 : ℕ) (4294967295 : ℕ))) ∧
    (w72.core.get (F.TELLER_CFG_EXC ↑3) = 2) ∧
    (w73.ready 3 Ecc.clean (wordI 25 4 0 65535) = true) ∧
    ((0 : ℤ) ≤ BitVec.toInt ((w73.core.teller (3 : Fin (8 : ℕ))).xr (0 : Fin (16 : ℕ)) + BitVec.ofNat (32 : ℕ) (65535 : ℕ))) ∧
    (BitVec.toInt ((w73.core.teller (3 : Fin (8 : ℕ))).xr (0 : Fin (16 : ℕ)) + BitVec.ofNat (32 : ℕ) (65535 : ℕ)) ≤ (65535 : ℤ)) ∧
    (w73.core.get (F.TELLER_CFG_EXC ↑3) = 2) ∧
    (w74.ready 3 Ecc.clean (wordD 36 0 0 0 (48#6) 0) = true) ∧
    (48 ≤ (BitVec.toNat ((w74.core.teller 3).xr 0) + 48) % 4294967296) ∧
    (w74.core.get (F.TELLER_CFG_EXC ↑3) = 2) ∧
    (w75.ready 3 Ecc.clean (wordD 59 0 0 0 (0#6) 3) = true) ∧
    (w75.core.get (F.TELLER_CFG_EXC ↑3) = 2) ∧
    (w76.ready 3 Ecc.clean (wordD 51 0 0 0 (0#6) 0) = true) ∧
    ((BitVec.toNat ((w76.core.teller 3).xr 0) + 0) % 4294967296 = 0 ∨ 255 < (BitVec.toNat ((w76.core.teller 3).xr 0) + 0) % 4294967296) ∧
    (w76.core.get (F.TELLER_CFG_EXC ↑3) = 2) ∧
    (w77.core.live = true) ∧
    (w77.core.mainAlive = true) ∧
    (w77.core.eff ≠ Mode.watch ∨ w77.core.awake = true) ∧
    ((w77.core.teller 3).st = TRun.running) ∧
    ((w77.core.teller 3).stall = none) ∧
    (0 < w77.core.get (F.TELLER_CFG_WDOG ↑3)) ∧
    (w77.core.get (F.TELLER_CFG_WDOG ↑3) * 1000000 ≤ (w77.core.teller 3).wdogNs + (w77.at 5000000 - (w77.core.teller 3).runAt)) ∧
    ((w77.core.teller 3).trapped = true) ∧
    (w77.core.get (F.TELLER_CFG_EXC ↑3) = 1) ∧
    (w78.core.live = true) ∧
    (w78.core.mainAlive = true) ∧
    (w78.core.eff ≠ Mode.watch ∨ w78.core.awake = true) ∧
    ((w78.core.teller 3).st = TRun.running) ∧
    ((w78.core.teller 3).stall = none) ∧
    (0 < w78.core.get (F.TELLER_CFG_WDOG ↑3)) ∧
    (w78.core.get (F.TELLER_CFG_WDOG ↑3) * 1000000 ≤ (w78.core.teller 3).wdogNs + (w78.at 5000000 - (w78.core.teller 3).runAt)) ∧
    ((w78.core.teller 3).trapped = false) ∧
    (w78.core.get (F.TELLER_CFG_EXC ↑3) = 0) ∧
    (w79.core.live = true) ∧
    (w79.core.mainAlive = true) ∧
    (w79.core.eff ≠ Mode.watch ∨ w79.core.awake = true) ∧
    ((w79.core.teller 3).st = TRun.running) ∧
    ((w79.core.teller 3).stall = none) ∧
    (0 < w79.core.get (F.TELLER_CFG_WDOG ↑3)) ∧
    (w79.core.get (F.TELLER_CFG_WDOG ↑3) * 1000000 ≤ (w79.core.teller 3).wdogNs + (w79.at 5000000 - (w79.core.teller 3).runAt)) ∧
    ((w79.core.teller 3).trapped = false) ∧
    (w79.core.get (F.TELLER_CFG_EXC ↑3) = 1) := by
  refine ⟨?_, ?_, ?_, ?_, ?_, ?_, ?_, ?_, ?_, ?_, ?_, ?_, ?_, ?_, ?_, ?_, ?_, ?_, ?_, ?_, ?_, ?_, ?_, ?_, ?_, ?_, ?_, ?_, ?_, ?_, ?_, ?_, ?_, ?_, ?_, ?_, ?_, ?_, ?_, ?_, ?_, ?_, ?_, ?_, ?_, ?_, ?_, ?_, ?_, ?_, ?_, ?_, ?_, ?_, ?_, ?_, ?_, ?_, ?_, ?_, ?_, ?_, ?_, ?_, ?_, ?_, ?_, ?_, ?_, ?_, ?_, ?_, ?_, ?_, ?_, ?_, ?_, ?_, ?_, ?_, ?_, ?_, ?_, ?_, ?_, ?_, ?_, ?_, ?_, ?_, ?_, ?_, ?_, ?_, ?_, ?_, ?_, ?_, ?_, ?_, ?_, ?_, ?_, ?_, ?_, ?_, ?_, ?_, ?_, ?_, ?_, ?_, ?_, ?_, ?_, ?_, ?_, ?_, ?_, ?_, ?_, ?_, ?_, ?_, ?_, ?_, ?_, ?_, ?_, ?_, ?_, ?_, ?_, ?_, ?_, ?_, ?_, ?_, ?_, ?_, ?_, ?_, ?_, ?_, ?_, ?_, ?_, ?_, ?_, ?_, ?_, ?_, ?_, ?_, ?_, ?_, ?_, ?_, ?_, ?_, ?_, ?_, ?_, ?_, ?_, ?_, ?_, ?_, ?_, ?_, ?_, ?_, ?_, ?_, ?_, ?_⟩ <;> decide +kernel

/-! ### Witnesses: TellerWaits -/

def w80 : State := busy runDev regs3 (wordD 0x2a 0 5 2 0 0)
def w81 : State := busy runDev regs3 (wordD 0x2b 0 5 2 0 0)
def w82 : State := busy runDev regs3 (wordD 0x2f 0 5 2 0 0)
def w83 : State := busy runDev regs3 (wordD 0x20 0 0 0 0 2)
def w84 : State := busy (watchDev runDev) regs3 (wordD 0x20 4 0 0 0 3)
def w85 : State := busy runDev regs3 (wordI 0x23 0 2 ((0x3FFFF : BitVec 18).toNat))

/-- Every hypothesis of TellerWaits is met. -/
theorem wit_TellerWaits :
    ((BitVec.toNat ((w80.core.teller 3).xr 5) + 0) % 4294967296 < 64) ∧
    (w80.ready 3 Ecc.clean (wordD 42 0 5 2 (0#6) 0) = true) ∧
    ((BitVec.toNat ((w81.core.teller 3).xr 5) + 0) % 4294967296 < 64) ∧
    (w81.ready 3 Ecc.clean (wordD 43 0 5 2 (0#6) 0) = true) ∧
    ((BitVec.toNat ((w82.core.teller 3).xr 5) + 0) % 4294967296 < 16) ∧
    (w82.ready 3 Ecc.clean (wordD 47 0 5 2 (0#6) 0) = true) ∧
    (w83.ready 3 Ecc.clean (wordD 32 0 0 0 (0#6) 2) = true) ∧
    (w84.ready 3 Ecc.clean (wordD 32 4 0 0 (0#6) 3) = true) ∧
    (w85.ready 3 Ecc.clean (wordI 35 0 2 262143) = true) := by
  refine ⟨?_, ?_, ?_, ?_, ?_, ?_, ?_, ?_, ?_⟩ <;> decide +kernel

/-! ### Witnesses: TellerWaitEnds -/

def w86 : State := waits3 ({ runDev with rails := Vector.replicate 48 { code := .good } }) (.await 6 (some 5))
def w87 : State := waits3 (runDev) (.sync true)
def w88 : State := waits3 (runDev) (.wwake 4 true false)
def w89 : State := waits3 (runDev) (.wwake 4 false true)
def w90 : State := waits3 (runDev) (.time 5)
def w91 : State := waits3 ({ (runDev.put (F.M_LO_RAILS 6) 5) with rails := Vector.replicate 48 { code := .off } }) (.woff 6 none)
def w92 : State := waits3 (runDev) (.wang 2 true none)
def w93 : State := waits3 ((runDev.put (F.M_LO_RAILS 6) 5)) (.await 6 (some 5))
def w94 : State := waits3 ({ (runDev.put (F.M_LO_RAILS 6) 5) with rails := Vector.replicate 48 { code := .good } }) (.woff 6 (some 5))
def w95 : State := waits3 (runDev) (.wang 2 false (some 5))

/-- Every hypothesis of TellerWaitEnds is met. -/
theorem wit_TellerWaitEnds :
    (w86.core.live = true) ∧
    (w86.core.mainAlive = true) ∧
    ((w86.core.teller 3).st = TRun.waiting) ∧
    ((w86.core.teller 3).wait = some (Wait.await 6 (some 5))) ∧
    (∀ (n : Fin 48), BitVec.getLsbD (w86.core.maskSet ↑6) ↑n = true → (w86.core.rail n).code = RailCode.good) ∧
    (5 ≤ w86.at 5) ∧
    (w87.core.live = true) ∧
    (w87.core.mainAlive = true) ∧
    ((w87.core.teller 3).st = TRun.waiting) ∧
    ((w87.core.teller 3).wait = some (Wait.sync true)) ∧
    (w88.core.live = true) ∧
    (w88.core.mainAlive = true) ∧
    ((w88.core.teller 3).st = TRun.waiting) ∧
    ((w88.core.teller 3).wait = some (Wait.wwake 4 true false)) ∧
    ((w88.core.teller 3).causes ≠ 0#8) ∧
    (w89.core.live = true) ∧
    (w89.core.mainAlive = true) ∧
    ((w89.core.teller 3).st = TRun.waiting) ∧
    ((w89.core.teller 3).wait = some (Wait.wwake 4 false true)) ∧
    (w90.core.live = true) ∧
    (w90.core.mainAlive = true) ∧
    ((w90.core.teller 3).st = TRun.waiting) ∧
    ((w90.core.teller 3).wait = some (Wait.time 5)) ∧
    (5 ≤ w90.at 5) ∧
    (w91.core.live = true) ∧
    (w91.core.mainAlive = true) ∧
    ((w91.core.teller 3).st = TRun.waiting) ∧
    ((w91.core.teller 3).wait = some (Wait.woff 6 none)) ∧
    (∀ (n : Fin 48), BitVec.getLsbD (w91.core.maskSet ↑6) ↑n = true → (w91.core.rail n).code = RailCode.off ∨ (w91.core.rail n).code = RailCode.unused) ∧
    (w92.core.live = true) ∧
    (w92.core.mainAlive = true) ∧
    ((w92.core.teller 3).st = TRun.waiting) ∧
    ((w92.core.teller 3).wait = some (Wait.wang 2 true none)) ∧
    (w93.core.live = true) ∧
    (w93.core.mainAlive = true) ∧
    ((w93.core.teller 3).st = TRun.waiting) ∧
    ((w93.core.teller 3).wait = some (Wait.await 6 (some 5))) ∧
    (5 ≤ w93.at 5) ∧
    (¬∀ (n : Fin 48), BitVec.getLsbD (w93.core.maskSet ↑6) ↑n = true → (w93.core.rail n).code = RailCode.good) ∧
    (w94.core.live = true) ∧
    (w94.core.mainAlive = true) ∧
    ((w94.core.teller 3).st = TRun.waiting) ∧
    ((w94.core.teller 3).wait = some (Wait.woff 6 (some 5))) ∧
    (5 ≤ w94.at 5) ∧
    (¬∀ (n : Fin 48), BitVec.getLsbD (w94.core.maskSet ↑6) ↑n = true → (w94.core.rail n).code = RailCode.off ∨ (w94.core.rail n).code = RailCode.unused) ∧
    (w95.core.live = true) ∧
    (w95.core.mainAlive = true) ∧
    ((w95.core.teller 3).st = TRun.waiting) ∧
    ((w95.core.teller 3).wait = some (Wait.wang 2 false (some 5))) ∧
    (5 ≤ w95.at 5) := by
  refine ⟨?_, ?_, ?_, ?_, ?_, ?_, ?_, ?_, ?_, ?_, ?_, ?_, ?_, ?_, ?_, ?_, ?_, ?_, ?_, ?_, ?_, ?_, ?_, ?_, ?_, ?_, ?_, ?_, ?_, ?_, ?_, ?_, ?_, ?_, ?_, ?_, ?_, ?_, ?_, ?_, ?_, ?_, ?_, ?_, ?_, ?_, ?_, ?_, ?_, ?_⟩ <;> decide +kernel

/-! ### Witnesses: TellerQueues -/

def w96 : State := busy maskDev regs3 (wordD 0x20 0 0 0 0 4)
def w97 : State := busy maskDev regs3 (wordD 0x22 0 0 0 7 1)
def w98 : State := busy maskDev regs3 (wordD 0x24 0 0 0 47 0)
def w99 : State := busy maskDev regs3 (wordD 0x25 0 0 0 47 0)
def w100 : State := busy maskDev regs3 (wordD 0x26 0 0 0 47 0)
def w101 : State := busy maskDev regs3 (wordD 0x29 0 0 0 47 6)
def w102 : State := busy maskDev regs3 (wordD 0x3c 0 0 3 7 0)
def w103 : State := busy maskDev { regs3 with x := regs3.x.set 7 (-512 : BitVec 32) } (wordD 0x3c 0 0 7 8 0)
def w104 : State := busy maskDev regs3 (wordD 0x27 0 5 0 0 0)
def w105 : State := busy maskDev regs3 (wordD 0x28 0 5 0 0 0)
def w106 : State := busy maskDev regs3 (wordD 0x2d 0 0 1 63 0)
def w107 : State := busy maskDev regs3 (wordD 0x3b 0 0 0 0 0)
def w108 : State := busy maskDev regs3 (wordI 0x1b 1 0 ((0xFFFF : BitVec 18).toNat))
def w109 : State := busy maskDev regs3 (wordI 0x1b 1 0 ((0x1803 : BitVec 18).toNat))
def w110 : State := busy maskDev regs3 (wordI 0x1b 3 0 ((0xC0 : BitVec 18).toNat))

/-- Every hypothesis of TellerQueues is met. -/
theorem wit_TellerQueues :
    ((w96.core.teller 3).queue.length < 64) ∧
    (w96.ready 3 Ecc.clean (wordD 32 0 0 0 (0#6) 4) = true) ∧
    ((w97.core.teller 3).queue.length < 64) ∧
    (w97.ready 3 Ecc.clean (wordD 34 0 0 0 (7#6) 1) = true) ∧
    ((BitVec.toNat ((w97.core.teller 3).xr 0) + 7) % 4294967296 < 8) ∧
    ((1 : ℕ) ≤ (1 : ℕ)) ∧
    ((1 : ℕ) ≤ (4 : ℕ)) ∧
    (w97.core.owner (BitVec.ofNat 8 (56 + (BitVec.toNat ((w97.core.teller 3).xr 0) + 7) % 4294967296)) = Owner.program) ∧
    ((w98.core.teller 3).queue.length < 64) ∧
    ((BitVec.toNat ((w98.core.teller 3).xr 0) + 47) % 4294967296 < 48) ∧
    (w98.core.owner (BitVec.ofNat 8 ((BitVec.toNat ((w98.core.teller 3).xr 0) + 47) % 4294967296)) = Owner.program) ∧
    (w98.ready 3 Ecc.clean (wordD 36 0 0 0 (47#6) 0) = true) ∧
    ((w99.core.teller 3).queue.length < 64) ∧
    ((BitVec.toNat ((w99.core.teller 3).xr 0) + 47) % 4294967296 < 48) ∧
    (w99.core.owner (BitVec.ofNat 8 ((BitVec.toNat ((w99.core.teller 3).xr 0) + 47) % 4294967296)) = Owner.program) ∧
    (w99.ready 3 Ecc.clean (wordD 37 0 0 0 (47#6) 0) = true) ∧
    ((w100.core.teller 3).queue.length < 64) ∧
    ((BitVec.toNat ((w100.core.teller 3).xr 0) + 47) % 4294967296 < 48) ∧
    (w100.core.owner (BitVec.ofNat 8 ((BitVec.toNat ((w100.core.teller 3).xr 0) + 47) % 4294967296)) = Owner.program) ∧
    (w100.ready 3 Ecc.clean (wordD 38 0 0 0 (47#6) 0) = true) ∧
    ((w101.core.teller 3).queue.length < 64) ∧
    ((BitVec.toNat ((w101.core.teller 3).xr 0) + 47) % 4294967296 < 48) ∧
    (w101.core.owner (BitVec.ofNat 8 ((BitVec.toNat ((w101.core.teller 3).xr 0) + 47) % 4294967296)) = Owner.program) ∧
    (w101.ready 3 Ecc.clean (wordD 41 0 0 0 (47#6) 6) = true) ∧
    ((w102.core.teller 3).queue.length < 64) ∧
    ((BitVec.toNat ((w102.core.teller 3).xr 0) + 7) % 4294967296 < 48) ∧
    (w102.core.owner (BitVec.ofNat 8 ((BitVec.toNat ((w102.core.teller 3).xr 0) + 7) % 4294967296)) = Owner.program) ∧
    (w102.ready 3 Ecc.clean (wordD 60 0 0 3 (7#6) 0) = true) ∧
    ((BitVec.toNat ((w102.core.teller 3).xr 0) + 7) % 4294967296 < 8) ∧
    ((-150 : ℤ) ≤ BitVec.toInt ((w102.core.teller (3 : Fin (8 : ℕ))).xr (3 : Fin (16 : ℕ)))) ∧
    (BitVec.toInt ((w102.core.teller (3 : Fin (8 : ℕ))).xr (3 : Fin (16 : ℕ))) ≤ (150 : ℤ)) ∧
    ((w103.core.teller 3).queue.length < 64) ∧
    ((BitVec.toNat ((w103.core.teller 3).xr 0) + 8) % 4294967296 < 48) ∧
    (w103.core.owner (BitVec.ofNat 8 ((BitVec.toNat ((w103.core.teller 3).xr 0) + 8) % 4294967296)) = Owner.program) ∧
    (w103.ready 3 Ecc.clean (wordD 60 0 0 7 (8#6) 0) = true) ∧
    (8 ≤ (BitVec.toNat ((w103.core.teller 3).xr 0) + 8) % 4294967296) ∧
    ((-512 : ℤ) ≤ BitVec.toInt ((w103.core.teller (3 : Fin (8 : ℕ))).xr (7 : Fin (16 : ℕ)))) ∧
    (BitVec.toInt ((w103.core.teller (3 : Fin (8 : ℕ))).xr (7 : Fin (16 : ℕ))) ≤ (511 : ℤ)) ∧
    ((w104.core.teller 3).queue.length < 64) ∧
    ((BitVec.toNat ((w104.core.teller 3).xr 5) + 0) % 4294967296 < 64) ∧
    ((w104.slot 5 Ecc.clean).core.maskSet ((BitVec.toNat ((w104.core.teller 3).xr 5) + 0) % 4294967296) ≠ 0#48) ∧
    (∀ (n : Fin 48), BitVec.getLsbD ((w104.slot 5 Ecc.clean).core.maskSet ((BitVec.toNat ((w104.core.teller 3).xr 5) + 0) % 4294967296)) ↑n = true → w104.core.owner (BitVec.ofNat 8 ↑n) = Owner.program) ∧
    (w104.ready 3 Ecc.clean (wordD 39 0 5 0 (0#6) 0) = true) ∧
    ((w105.core.teller 3).queue.length < 64) ∧
    ((BitVec.toNat ((w105.core.teller 3).xr 5) + 0) % 4294967296 < 64) ∧
    ((w105.slot 5 Ecc.clean).core.maskSet ((BitVec.toNat ((w105.core.teller 3).xr 5) + 0) % 4294967296) ≠ 0#48) ∧
    (∀ (n : Fin 48), BitVec.getLsbD ((w105.slot 5 Ecc.clean).core.maskSet ((BitVec.toNat ((w105.core.teller 3).xr 5) + 0) % 4294967296)) ↑n = true → w105.core.owner (BitVec.ofNat 8 ↑n) = Owner.program) ∧
    (w105.ready 3 Ecc.clean (wordD 40 0 5 0 (0#6) 0) = true) ∧
    ((w106.core.teller 3).queue.length < 64) ∧
    (w106.ready 3 Ecc.clean (wordD 45 0 0 1 (63#6) 0) = true) ∧
    ((BitVec.toNat ((w106.core.teller 3).xr 0) + 63) % 4294967296 < 64) ∧
    (w106.core.owner 126#8 = Owner.program) ∧
    ((w107.core.teller 3).queue.length < 64) ∧
    (w107.ready 3 Ecc.clean (wordD 59 0 0 0 (0#6) 0) = true) ∧
    (BitVec.ofNat (2 : ℕ) (0 : ℕ) ≠ BitVec.ofNat (2 : ℕ) (3 : ℕ)) ∧
    (w107.core.owner 123#8 = Owner.program) ∧
    ((w108.core.teller 3).queue.length < 64) ∧
    (w108.ready 3 Ecc.clean (wordI 27 1 0 65535) = true) ∧
    (BitVec.toNat ((w108.core.teller 3).xr 0) + 65535 ≤ 65535) ∧
    (BitVec.toNat ((w108.core.teller 3).xr 0) + 65535 ≠ 192) ∧
    (writables (BitVec.toNat ((w108.core.teller 3).xr 0) + 65535) = []) ∧
    ((w109.core.teller 3).queue.length < 64) ∧
    (w109.ready 3 Ecc.clean (wordI 27 1 0 6147) = true) ∧
    (BitVec.toNat ((w109.core.teller 3).xr 0) + 6147 ≤ 65535) ∧
    (BitVec.toNat ((w109.core.teller 3).xr 0) + 6147 ≠ 192) ∧
    (writables (BitVec.toNat ((w109.core.teller 3).xr 0) + 6147) ≠ []) ∧
    (((w109.slot 5 Ecc.clean).core.writeAt (Writer.teller 3) (w109.core.teller 3).pc { reg := BitVec.toNat ((w109.core.teller 3).xr 0) + 6147, mask := 4294967295#32, val := (w109.core.teller 3).xr 1 : RegWrite }).stated = true) ∧
    ((w109.slot 5 Ecc.clean).core.voffOver ((w109.slot 5 Ecc.clean).core.writeAt (Writer.teller 3) (w109.core.teller 3).pc { reg := BitVec.toNat ((w109.core.teller 3).xr 0) + 6147, mask := 4294967295#32, val := (w109.core.teller 3).xr 1 : RegWrite }) = false) ∧
    (BitVec.toNat ((w109.core.teller 3).xr 0) + 6147 ≠ 7429) ∧
    (∃ r, (w109.slot 5 Ecc.clean).core.resource (BitVec.toNat ((w109.core.teller 3).xr 0) + 6147) = some r ∧ w109.core.owner r = Owner.program) ∧
    ((w110.core.teller 3).queue.length < 64) ∧
    (w110.ready 3 Ecc.clean (wordI 27 3 0 192) = true) ∧
    (BitVec.toNat ((w110.core.teller 3).xr 0) + 192 = 192) ∧
    (BitVec.toNat ((w110.core.teller 3).xr 3) % 256 < 70) ∧
    (((w110.slot 5 Ecc.clean).core.writeAt (Writer.teller 3) (w110.core.teller 3).pc { reg := BitVec.toNat ((w110.core.teller 3).xr 0) + 192, mask := 4294967295#32, val := (w110.core.teller 3).xr 3 : RegWrite }).stated = true) ∧
    (w110.core.owner (BitVec.ofNat 8 (BitVec.toNat ((w110.core.teller 3).xr 3) % 256)) = Owner.program) := by
  refine ⟨?_, ?_, ?_, ?_, ?_, ?_, ?_, ?_, ?_, ?_, ?_, ?_, ?_, ?_, ?_, ?_, ?_, ?_, ?_, ?_, ?_, ?_, ?_, ?_, ?_, ?_, ?_, ?_, ?_, ?_, ?_, ?_, ?_, ?_, ?_, ?_, ?_, ?_, ?_, ?_, ?_, ?_, ?_, ?_, ?_, ?_, ?_, ?_, ?_, ?_, ?_, ?_, ?_, ?_, ?_, ?_, ?_, ?_, ?_, ?_, ?_, ?_, ?_, ?_, ?_, ?_, ?_, ?_, ?_, ?_, ?_, ?_, ?_, ?_, ?_, ?_⟩ <;> decide +kernel

/-! ### Witnesses: TellerDenied -/

def w111 : State := busy doorDev regs3 (wordD 0x24 0 5 0 41 0)
def w112 : State := busy doorDev regs3 (wordD 0x25 0 5 0 41 0)
def w113 : State := busy doorDev regs3 (wordD 0x26 0 5 0 41 0)
def w114 : State := busy doorDev regs3 (wordD 0x29 0 5 0 0 70)
def w115 : State := busy doorDev regs3 (wordD 0x3c 0 5 3 0 0)
def w116 : State := busy doorDev regs3 (wordD 0x36 4 5 0 0 1)
def w117 : State := busy { maskDev with owners := Vector.replicate 256 (.door 0) } regs3 (wordD 0x27 0 5 0 0 0)
def w118 : State := busy { maskDev with owners := Vector.replicate 256 (.door 0) } regs3 (wordD 0x28 0 5 0 0 0)
def w119 : State := busy doorDev regs3 (wordD 0x22 0 5 0 0 1)
def w120 : State := busy doorDev regs3 (wordD 0x2d 0 5 3 57 1)
def w121 : State := busy doorDev regs3 (wordD 0x3b 0 0 0 0 0)
def w122 : State := busy doorDev regs3 (wordD 0x31 0 5 3 0 0)
def w123 : State := busy doorDev regs3 (wordD 0x32 4 5 3 0 0)
def w124 : State := busy doorDev regs3 (wordD 0x37 0 5 0 41 0)
def w125 : State := busy doorDev regs3 (wordD 0x38 4 0 0 5 11)
def w126 : State := busy doorDev regs3 (wordD 0x39 0 0 0 5 0)
def w127 : State := busy doorDev regs3 (wordD 0x3a 0 0 0 63 0)

/-- Every hypothesis of TellerDenied is met. -/
theorem wit_TellerDenied :
    (w111.core.get (F.TELLER_CFG_STRICT ↑3) = 0) ∧
    ((BitVec.toNat ((w111.core.teller 3).xr 5) + 41) % 4294967296 < 48) ∧
    (w111.core.owner (BitVec.ofNat 8 ((BitVec.toNat ((w111.core.teller 3).xr 5) + 41) % 4294967296)) ≠ Owner.program) ∧
    (w111.ready 3 Ecc.clean (wordD 36 0 5 0 (41#6) 0) = true) ∧
    (w112.core.get (F.TELLER_CFG_STRICT ↑3) = 0) ∧
    ((BitVec.toNat ((w112.core.teller 3).xr 5) + 41) % 4294967296 < 48) ∧
    (w112.core.owner (BitVec.ofNat 8 ((BitVec.toNat ((w112.core.teller 3).xr 5) + 41) % 4294967296)) ≠ Owner.program) ∧
    (w112.ready 3 Ecc.clean (wordD 37 0 5 0 (41#6) 0) = true) ∧
    (w113.core.get (F.TELLER_CFG_STRICT ↑3) = 0) ∧
    ((BitVec.toNat ((w113.core.teller 3).xr 5) + 41) % 4294967296 < 48) ∧
    (w113.core.owner (BitVec.ofNat 8 ((BitVec.toNat ((w113.core.teller 3).xr 5) + 41) % 4294967296)) ≠ Owner.program) ∧
    (w113.ready 3 Ecc.clean (wordD 38 0 5 0 (41#6) 0) = true) ∧
    (w114.core.get (F.TELLER_CFG_STRICT ↑3) = 0) ∧
    ((BitVec.toNat ((w114.core.teller 3).xr 5) + 0) % 4294967296 < 48) ∧
    (w114.core.owner (BitVec.ofNat 8 ((BitVec.toNat ((w114.core.teller 3).xr 5) + 0) % 4294967296)) ≠ Owner.program) ∧
    ((70 : ℕ) = (6 : ℕ) + if true = true then (64 : ℕ) else (0 : ℕ)) ∧
    (w114.ready 3 Ecc.clean (wordD 41 0 5 0 (0#6) 70) = true) ∧
    (w115.core.get (F.TELLER_CFG_STRICT ↑3) = 0) ∧
    ((BitVec.toNat ((w115.core.teller 3).xr 5) + 0) % 4294967296 < 48) ∧
    (w115.core.owner (BitVec.ofNat 8 ((BitVec.toNat ((w115.core.teller 3).xr 5) + 0) % 4294967296)) ≠ Owner.program) ∧
    (w115.ready 3 Ecc.clean (wordD 60 0 5 3 (0#6) 0) = true) ∧
    ((BitVec.toNat ((w115.core.teller 3).xr 5) + 0) % 4294967296 < 8) ∧
    ((-150 : ℤ) ≤ BitVec.toInt ((w115.core.teller (3 : Fin (8 : ℕ))).xr (3 : Fin (16 : ℕ)))) ∧
    (BitVec.toInt ((w115.core.teller (3 : Fin (8 : ℕ))).xr (3 : Fin (16 : ℕ))) ≤ (150 : ℤ)) ∧
    (w116.core.get (F.TELLER_CFG_STRICT ↑3) = 0) ∧
    ((BitVec.toNat ((w116.core.teller 3).xr 5) + 0) % 4294967296 < 48) ∧
    (w116.core.owner (BitVec.ofNat 8 ((BitVec.toNat ((w116.core.teller 3).xr 5) + 0) % 4294967296)) ≠ Owner.program) ∧
    (w116.ready 3 Ecc.clean (wordD 54 4 5 0 (0#6) 1) = true) ∧
    ((1 : ℕ) ≤ (1 : ℕ)) ∧
    (w117.core.get (F.TELLER_CFG_STRICT ↑3) = 0) ∧
    ((BitVec.toNat ((w117.core.teller 3).xr 5) + 0) % 4294967296 < 64) ∧
    (BitVec.getLsbD ((w117.slot 5 Ecc.clean).core.maskSet ((BitVec.toNat ((w117.core.teller 3).xr 5) + 0) % 4294967296)) ↑47 = true) ∧
    (w117.core.owner (BitVec.ofNat 8 ↑47) ≠ Owner.program) ∧
    (w117.ready 3 Ecc.clean (wordD 39 0 5 0 (0#6) 0) = true) ∧
    (w118.core.get (F.TELLER_CFG_STRICT ↑3) = 0) ∧
    ((BitVec.toNat ((w118.core.teller 3).xr 5) + 0) % 4294967296 < 64) ∧
    (BitVec.getLsbD ((w118.slot 5 Ecc.clean).core.maskSet ((BitVec.toNat ((w118.core.teller 3).xr 5) + 0) % 4294967296)) ↑47 = true) ∧
    (w118.core.owner (BitVec.ofNat 8 ↑47) ≠ Owner.program) ∧
    (w118.ready 3 Ecc.clean (wordD 40 0 5 0 (0#6) 0) = true) ∧
    (w119.core.get (F.TELLER_CFG_STRICT ↑3) = 0) ∧
    (w119.ready 3 Ecc.clean (wordD 34 0 5 0 (0#6) 1) = true) ∧
    ((BitVec.toNat ((w119.core.teller 3).xr 5) + 0) % 4294967296 < 8) ∧
    ((1 : ℕ) ≤ (4 : ℕ)) ∧
    (w119.core.owner (BitVec.ofNat 8 (56 + (BitVec.toNat ((w119.core.teller 3).xr 5) + 0) % 4294967296)) ≠ Owner.program) ∧
    (w120.core.get (F.TELLER_CFG_STRICT ↑3) = 0) ∧
    (w120.ready 3 Ecc.clean (wordD 45 0 5 3 (57#6) (if true = true then 1 else 0)) = true) ∧
    ((BitVec.toNat ((w120.core.teller 3).xr 5) + 57) % 4294967296 < 64) ∧
    (w120.core.owner 126#8 ≠ Owner.program) ∧
    (w121.core.get (F.TELLER_CFG_STRICT ↑3) = 0) ∧
    (w121.ready 3 Ecc.clean (wordD 59 0 0 0 (0#6) 0) = true) ∧
    (BitVec.ofNat (2 : ℕ) (0 : ℕ) ≠ BitVec.ofNat (2 : ℕ) (3 : ℕ)) ∧
    (w121.core.owner 123#8 ≠ Owner.program) ∧
    (w122.core.get (F.TELLER_CFG_STRICT ↑3) = 0) ∧
    (w122.ready 3 Ecc.clean (wordD 49 0 5 3 (0#6) 0) = true) ∧
    (w122.core.owner 120#8 ≠ Owner.program) ∧
    (w123.core.get (F.TELLER_CFG_STRICT ↑3) = 0) ∧
    (w123.ready 3 Ecc.clean (wordD 50 4 5 3 (0#6) 0) = true) ∧
    (w123.core.owner 122#8 ≠ Owner.program) ∧
    (w124.core.get (F.TELLER_CFG_STRICT ↑3) = 0) ∧
    (w124.ready 3 Ecc.clean (wordD 55 0 5 0 (41#6) 0) = true) ∧
    ((BitVec.toNat ((w124.core.teller 3).xr 5) + 41) % 4294967296 < 48) ∧
    (w124.core.owner (BitVec.ofNat 8 (64 + (BitVec.toNat ((w124.core.teller 3).xr 5) + 41) % 4294967296 / 8)) ≠ Owner.program) ∧
    (w125.core.get (F.TELLER_CFG_STRICT ↑3) = 0) ∧
    ((BitVec.toNat ((w125.core.teller 3).xr 0) + 5) % 4294967296 < 6) ∧
    (w125.core.owner (BitVec.ofNat 8 (64 + (BitVec.toNat ((w125.core.teller 3).xr 0) + 5) % 4294967296)) ≠ Owner.program) ∧
    (w125.ready 3 Ecc.clean (wordD 56 4 0 0 (5#6) 11) = true) ∧
    (11 ≤ 11 ∨ 11 = 12 ∧ 4 ≤ (BitVec.toNat ((w125.core.teller 3).xr 0) + 5) % 4294967296) ∧
    (w126.core.get (F.TELLER_CFG_STRICT ↑3) = 0) ∧
    ((BitVec.toNat ((w126.core.teller 3).xr 0) + 5) % 4294967296 < 6) ∧
    (w126.core.owner (BitVec.ofNat 8 (64 + (BitVec.toNat ((w126.core.teller 3).xr 0) + 5) % 4294967296)) ≠ Owner.program) ∧
    (w126.ready 3 Ecc.clean (wordD 57 0 0 0 (5#6) 0) = true) ∧
    (w127.core.get (F.TELLER_CFG_STRICT ↑3) = 0) ∧
    (w127.ready 3 Ecc.clean (wordD 58 0 0 0 (63#6) 0) = true) ∧
    ((BitVec.toNat ((w127.core.teller 3).xr 0) + 63) % 4294967296 < 64) ∧
    (((BitVec.toNat ((w127.core.teller 3).xr 0) + 63) % 4294967296).testBit ↑5 = true) ∧
    (w127.core.owner (BitVec.ofNat 8 (64 + ↑5)) ≠ Owner.program) := by
  refine ⟨?_, ?_, ?_, ?_, ?_, ?_, ?_, ?_, ?_, ?_, ?_, ?_, ?_, ?_, ?_, ?_, ?_, ?_, ?_, ?_, ?_, ?_, ?_, ?_, ?_, ?_, ?_, ?_, ?_, ?_, ?_, ?_, ?_, ?_, ?_, ?_, ?_, ?_, ?_, ?_, ?_, ?_, ?_, ?_, ?_, ?_, ?_, ?_, ?_, ?_, ?_, ?_, ?_, ?_, ?_, ?_, ?_, ?_, ?_, ?_, ?_, ?_, ?_, ?_, ?_, ?_, ?_, ?_, ?_, ?_, ?_, ?_, ?_, ?_, ?_, ?_⟩ <;> decide +kernel

/-! ### Witnesses: TellerStalls -/

def w128 : State := busy progDev full3 (wordD 0x24 0 5 0 41 0)
def w129 : State := busy jfullDev regs3 (wordN 0x34 5 3 1)
def w130 : State := busy progDev { regs3 with stall := some (.queue ⟨1, .lock⟩) } (0#32)
def w131 : State := busy progDev { regs3 with stall := some (.note rec0) } (0#32)
def w132 : State := busy progDev { regs3 with again := true, entry := 12, stack := [9], queue := [⟨4, .lock⟩], stall := some (.queue ⟨1, .lock⟩) } (0#32)
def w133 : State := busy progDev { regs3 with again := true, entry := 12, stack := [9], queue := [⟨4, .lock⟩], stall := some (.note rec0) } (0#32)

/-- Every hypothesis of TellerStalls is met. -/
theorem wit_TellerStalls :
    ((BitVec.toNat ((w128.core.teller 3).xr 5) + 41) % 4294967296 < 48) ∧
    (w128.ready 3 Ecc.clean (wordD 36 0 5 0 (41#6) 0) = true) ∧
    (w128.core.owner (BitVec.ofNat 8 ((BitVec.toNat ((w128.core.teller 3).xr 5) + 41) % 4294967296)) = Owner.program) ∧
    (64 ≤ (w128.core.teller 3).queue.length) ∧
    (w129.ready 3 Ecc.clean (wordN 52 5 3 1) = true) ∧
    (96 ≤ w129.core.jq.length) ∧
    (w130.core.live = true) ∧
    (w130.core.mainAlive = true) ∧
    ((w130.core.teller 3).st = TRun.running) ∧
    ((w130.core.teller 3).again = false) ∧
    ((w130.core.teller 3).stall = some (Stall.queue { pc := 1#16, body := TReqBody.lock : TReq })) ∧
    ((w130.core.teller 3).queue.length < 64) ∧
    (w131.core.live = true) ∧
    (w131.core.mainAlive = true) ∧
    ((w131.core.teller 3).st = TRun.running) ∧
    ((w131.core.teller 3).again = false) ∧
    ((w131.core.teller 3).stall = some (Stall.note rec0)) ∧
    (w131.core.jq.length < 96) ∧
    (w131.core.jLost = 0) ∧
    (w132.core.live = true) ∧
    (w132.core.mainAlive = true) ∧
    ((w132.core.teller 3).st = TRun.running) ∧
    ((w132.core.teller 3).again = true) ∧
    ((w132.core.teller 3).stall = some (Stall.queue { pc := 1#16, body := TReqBody.lock : TReq })) ∧
    ((w132.core.teller 3).queue.length < 64) ∧
    (w133.core.live = true) ∧
    (w133.core.mainAlive = true) ∧
    ((w133.core.teller 3).st = TRun.running) ∧
    ((w133.core.teller 3).again = true) ∧
    ((w133.core.teller 3).stall = some (Stall.note rec0)) ∧
    (w133.core.jq.length < 96) := by
  refine ⟨?_, ?_, ?_, ?_, ?_, ?_, ?_, ?_, ?_, ?_, ?_, ?_, ?_, ?_, ?_, ?_, ?_, ?_, ?_, ?_, ?_, ?_, ?_, ?_, ?_, ?_, ?_, ?_, ?_, ?_, ?_⟩ <;> decide +kernel

/-! ### Witnesses: TellerPurses -/

def w134 : State := busy progDev regs3 (wordD 0x31 0 5 3 0 0)
def w135 : State := busy progDev regs3 (wordD 0x31 0 0 3 0 0)
def w136 : State := busy progDev regs3 (wordD 0x32 4 5 0 0 0)
def w137 : State := busy { progDev with heatRes := [⟨.teller 2 6, 50, 0, true⟩, ⟨.teller 3 7, 50, 0, true⟩] } regs3 (wordD 0x33 0 5 0 0 0)
def w138 : State := busy { progDev with heatRes := [⟨.arch, 50, 0, true⟩, ⟨.teller 3 7, 50, 0, true⟩] } regs3 (wordD 0x33 0 5 0 0 0)

/-- Every hypothesis of TellerPurses is met. -/
theorem wit_TellerPurses :
    (w134.ready 3 Ecc.clean (wordD 49 0 5 3 (0#6) 0) = true) ∧
    (w134.core.owner 120#8 = Owner.program) ∧
    (0 < (BitVec.toNat ((w134.core.teller 3).xr 5) + 0) % 4294967296) ∧
    (w135.ready 3 Ecc.clean (wordD 49 0 0 3 (0#6) 0) = true) ∧
    (w135.core.owner 120#8 = Owner.program) ∧
    ((BitVec.toNat ((w135.core.teller 3).xr 0) + 0) % 4294967296 = 0) ∧
    (w136.ready 3 Ecc.clean (wordD 50 4 5 0 (0#6) 0) = true) ∧
    (w136.core.owner 122#8 = Owner.program) ∧
    (w137.ready 3 Ecc.clean (wordD 51 0 5 0 (0#6) 0) = true) ∧
    (1 ≤ (BitVec.toNat ((w137.core.teller 3).xr 5) + 0) % 4294967296) ∧
    ((BitVec.toNat ((w137.core.teller 3).xr 5) + 0) % 4294967296 ≤ 255) ∧
    (w137.core.owner 122#8 = Owner.program) ∧
    (∃ x ∈ w137.core.heatRes, ∃ j, x.who = HWho.teller j ((BitVec.toNat ((w137.core.teller 3).xr 5) + 0) % 4294967296)) ∧
    (w138.ready 3 Ecc.clean (wordD 51 0 5 0 (0#6) 0) = true) ∧
    (1 ≤ (BitVec.toNat ((w138.core.teller 3).xr 5) + 0) % 4294967296) ∧
    ((BitVec.toNat ((w138.core.teller 3).xr 5) + 0) % 4294967296 ≤ 255) ∧
    (w138.core.owner 122#8 = Owner.program) ∧
    (¬∃ x ∈ w138.core.heatRes, ∃ j, x.who = HWho.teller j ((BitVec.toNat ((w138.core.teller 3).xr 5) + 0) % 4294967296)) := by
  refine ⟨?_, ?_, ?_, ?_, ?_, ?_, ?_, ?_, ?_, ?_, ?_, ?_, ?_, ?_, ?_, ?_, ?_, ?_⟩ <;> decide +kernel

/-! ### Witnesses: TellerRecords -/

def w139 : State := busy progDev regs3 (wordN 0x34 1 2 5)
def w140 : State := busy progDev regs3 (wordN 0x35 1 2 7)
def w141 : State := busy progDev regs3 (wordN 0x35 1 2 8199)
def w142 : State := busy { progDev with folio := some { progDev.freeze 1 2 false 3 4 with at_ := 5 }, jq := [(0, { rec0 with ff := true })], jIn := 1 } regs3 (wordN 0x35 1 2 8199)

/-- Every hypothesis of TellerRecords is met. -/
theorem wit_TellerRecords :
    (w139.core.jLost = 0) ∧
    (w139.core.jq.length < 96) ∧
    (w139.ready 3 Ecc.clean (wordN 52 1 2 5) = true) ∧
    (w140.core.jLost = 0) ∧
    (w140.core.jq.length < 96) ∧
    (w140.ready 3 Ecc.clean (wordN 53 1 2 7) = true) ∧
    (∀ (f : Folio), w140.core.folio = some f → f.at_ < w140.at 5) ∧
    (w141.core.jLost = 0) ∧
    (w141.core.jq.length < 96) ∧
    (w141.ready 3 Ecc.clean (wordN 53 1 2 8199) = true) ∧
    (∀ (f : Folio), w141.core.folio = some f → f.at_ < w141.at 5) ∧
    (w141.core.eff ≠ Mode.watch) ∧
    (w141.core.get F.SAFE_STATUS_VAULTLOST = 0) ∧
    (w141.core.vault.loaded = true) ∧
    (w141.core.vault.run = none) ∧
    (w141.core.vault.pend = none) ∧
    (w142.core.jLost = 0) ∧
    (w142.core.jq.length < 96) ∧
    (∃ f, w142.core.folio = some f ∧ f.at_ = w142.at 5 ∧ f.dangerous = false ∧ w142.core.folioDone = false ∧ w142.ready 3 Ecc.clean (wordN 53 1 2 8199) = true) := by
  refine ⟨?_, ?_, ?_, ?_, ?_, ?_, ?_, ?_, ?_, ?_, ?_, ?_, ?_, ?_, ?_, ?_, ?_, ?_, ?_⟩ <;> decide +kernel

/-! ### Witnesses: TellerActs -/

def w143 : State := busy ({ (progDev.put (F.CAP_STATUS_STATE 5) 1) with cvs := Vector.replicate 6 { op := .scan, began := 1 } }) regs3 (wordD 0x37 0 0 0 47 0)
def w144 : State := busy ({ (progDev.put (F.CAP_STATUS_STATE 5) 1) with cvs := Vector.replicate 6 { op := .scan, began := 1 } }) regs3 (wordD 0x38 4 0 0 5 11)
def w145 : State := busy ({ (progDev.put (F.CAP_STATUS_STATE 5) 1) with cvs := Vector.replicate 6 { op := .scan, began := 1 } }) regs3 (wordD 0x39 0 0 0 5 0)
def w146 : State := busy ({ (progDev.put (F.CAP_STATUS_STATE 5) 1) with cvs := Vector.replicate 6 { op := .scan, began := 1 } }) regs3 (wordD 0x36 4 0 0 47 0)
def w147 : State := busy (watchDev progDev) regs3 (wordD 0x37 0 0 0 47 0)
def w148 : State := busy (watchDev progDev) regs3 (wordD 0x38 4 0 0 5 11)
def w149 : State := busy (watchDev progDev) regs3 (wordD 0x39 0 0 0 5 0)
def w150 : State := busy (watchDev progDev) regs3 (wordD 0x3a 0 0 0 32 0)
def w151 : State := busy (watchDev progDev) regs3 (wordD 0x36 4 0 0 47 0)
def w152 : State := busy { progDev with cvs := Vector.replicate 6 { op := .cal } } regs3 (wordD 0x39 0 0 0 5 0)
def w153 : State := busy { progDev with afill := (25165824 - 1024, 3) } regs3 (wordD 0x3a 0 0 0 32 0)
def w154 : State := busy { (progDev.put F.PURSE_HEAT_HEADROOM 60000).put (F.CAP_STATUS_STATE 5) 1 with holdE := 3, headMw := 60000 } regs3 (wordD 0x3a 0 0 0 32 0)

/-- Every hypothesis of TellerActs is met. -/
theorem wit_TellerActs :
    ((BitVec.toNat ((w143.core.teller 3).xr 0) + 47) % 4294967296 < 48) ∧
    (w143.ready 3 Ecc.clean (wordD 55 0 0 0 (47#6) 0) = true) ∧
    (w143.core.owner (BitVec.ofNat 8 (64 + (BitVec.toNat ((w143.core.teller 3).xr 0) + 47) % 4294967296 / 8)) = Owner.program) ∧
    (w143.core.eff ≠ Mode.watch) ∧
    (w143.core.get (F.CAP_STATUS_STATE ↑5) = 1) ∧
    ((w143.slot 5 Ecc.clean).core.cvBusy 5 { src := TrigSrc.teller 3 (w143.core.teller 3).pc, ch := (BitVec.toNat ((w143.core.teller 3).xr 0) + 47) % 4294967296 % 8, burst := true, stamp := (w143.slot 5 Ecc.clean).core.stamp, arrive := (w143.slot 5 Ecc.clean).core.arrival 5 : Trig } = false) ∧
    ((w143.core.cv 5).op = CvOp.scan) ∧
    ((BitVec.toNat ((w144.core.teller 3).xr 0) + 5) % 4294967296 < 6) ∧
    (w144.core.owner (BitVec.ofNat 8 (64 + (BitVec.toNat ((w144.core.teller 3).xr 0) + 5) % 4294967296)) = Owner.program) ∧
    (w144.ready 3 Ecc.clean (wordD 56 4 0 0 (5#6) 11) = true) ∧
    (11 ≤ 11 ∨ 11 = 12 ∧ 4 ≤ (BitVec.toNat ((w144.core.teller 3).xr 0) + 5) % 4294967296) ∧
    (w144.core.eff ≠ Mode.watch) ∧
    ((w144.slot 5 Ecc.clean).core.cvBusy 5 { src := TrigSrc.teller 3 (w144.core.teller 3).pc, ch := 11, burst := false, stamp := (w144.slot 5 Ecc.clean).core.stamp, arrive := (w144.slot 5 Ecc.clean).core.arrival 5 : Trig } = false) ∧
    ((w144.core.cv 5).op = CvOp.scan) ∧
    ((BitVec.toNat ((w145.core.teller 3).xr 0) + 5) % 4294967296 < 6) ∧
    (w145.core.owner (BitVec.ofNat 8 (64 + (BitVec.toNat ((w145.core.teller 3).xr 0) + 5) % 4294967296)) = Owner.program) ∧
    (w145.ready 3 Ecc.clean (wordD 57 0 0 0 (5#6) 0) = true) ∧
    (w145.core.eff ≠ Mode.watch) ∧
    ((w145.core.cv 5).op = CvOp.scan) ∧
    ((w145.core.cv 5).calPend = false) ∧
    ((w145.core.cv 5).arriving = none) ∧
    ((w145.core.cv 5).pend = none) ∧
    ((BitVec.toNat ((w146.core.teller 3).xr 0) + 47) % 4294967296 < 48) ∧
    (w146.ready 3 Ecc.clean (wordD 54 4 0 0 (47#6) 0) = true) ∧
    (w146.core.owner (BitVec.ofNat 8 ((BitVec.toNat ((w146.core.teller 3).xr 0) + 47) % 4294967296)) = Owner.program) ∧
    (w146.core.eff ≠ Mode.watch) ∧
    (w146.core.probing = []) ∧
    (w146.core.probes.length < 16) ∧
    ((BitVec.toNat ((w147.core.teller 3).xr 0) + 47) % 4294967296 < 48) ∧
    (w147.ready 3 Ecc.clean (wordD 55 0 0 0 (47#6) 0) = true) ∧
    (w147.core.owner (BitVec.ofNat 8 (64 + (BitVec.toNat ((w147.core.teller 3).xr 0) + 47) % 4294967296 / 8)) = Owner.program) ∧
    (w147.core.eff = Mode.watch) ∧
    ((BitVec.toNat ((w148.core.teller 3).xr 0) + 5) % 4294967296 < 6) ∧
    (w148.core.owner (BitVec.ofNat 8 (64 + (BitVec.toNat ((w148.core.teller 3).xr 0) + 5) % 4294967296)) = Owner.program) ∧
    (w148.ready 3 Ecc.clean (wordD 56 4 0 0 (5#6) 11) = true) ∧
    (11 ≤ 11 ∨ 11 = 12 ∧ 4 ≤ (BitVec.toNat ((w148.core.teller 3).xr 0) + 5) % 4294967296) ∧
    (w148.core.eff = Mode.watch) ∧
    ((BitVec.toNat ((w149.core.teller 3).xr 0) + 5) % 4294967296 < 6) ∧
    (w149.core.owner (BitVec.ofNat 8 (64 + (BitVec.toNat ((w149.core.teller 3).xr 0) + 5) % 4294967296)) = Owner.program) ∧
    (w149.ready 3 Ecc.clean (wordD 57 0 0 0 (5#6) 0) = true) ∧
    (w149.core.eff = Mode.watch) ∧
    (w150.ready 3 Ecc.clean (wordD 58 0 0 0 (32#6) 0) = true) ∧
    (0 < (BitVec.toNat ((w150.core.teller 3).xr 0) + 32) % 4294967296) ∧
    ((BitVec.toNat ((w150.core.teller 3).xr 0) + 32) % 4294967296 < 64) ∧
    (∀ (c : Fin 6), ((BitVec.toNat ((w150.core.teller 3).xr 0) + 32) % 4294967296).testBit ↑c = true → w150.core.owner (BitVec.ofNat 8 (64 + ↑c)) = Owner.program) ∧
    (w150.core.eff = Mode.watch) ∧
    ((BitVec.toNat ((w151.core.teller 3).xr 0) + 47) % 4294967296 < 48) ∧
    (w151.ready 3 Ecc.clean (wordD 54 4 0 0 (47#6) 0) = true) ∧
    (w151.core.owner (BitVec.ofNat 8 ((BitVec.toNat ((w151.core.teller 3).xr 0) + 47) % 4294967296)) = Owner.program) ∧
    (w151.core.eff = Mode.watch) ∧
    ((BitVec.toNat ((w152.core.teller 3).xr 0) + 5) % 4294967296 < 6) ∧
    (w152.core.owner (BitVec.ofNat 8 (64 + (BitVec.toNat ((w152.core.teller 3).xr 0) + 5) % 4294967296)) = Owner.program) ∧
    (w152.ready 3 Ecc.clean (wordD 57 0 0 0 (5#6) 0) = true) ∧
    (w152.core.eff ≠ Mode.watch) ∧
    ((w152.core.cv 5).op = CvOp.cal ∨ (w152.core.cv 5).calPend = true) ∧
    (w153.ready 3 Ecc.clean (wordD 58 0 0 0 (32#6) 0) = true) ∧
    (0 < (BitVec.toNat ((w153.core.teller 3).xr 0) + 32) % 4294967296) ∧
    ((BitVec.toNat ((w153.core.teller 3).xr 0) + 32) % 4294967296 < 64) ∧
    (∀ (c : Fin 6), ((BitVec.toNat ((w153.core.teller 3).xr 0) + 32) % 4294967296).testBit ↑c = true → w153.core.owner (BitVec.ofNat 8 (64 + ↑c)) = Owner.program) ∧
    (w153.core.eff ≠ Mode.watch) ∧
    ((w153.slot 5 Ecc.clean).core.archRefusal (BitVec.ofNat 6 ((BitVec.toNat ((w153.core.teller 3).xr 0) + 32) % 4294967296)) = some Reason.archiveFull) ∧
    (w154.ready 3 Ecc.clean (wordD 58 0 0 0 (32#6) 0) = true) ∧
    (0 < (BitVec.toNat ((w154.core.teller 3).xr 0) + 32) % 4294967296) ∧
    ((BitVec.toNat ((w154.core.teller 3).xr 0) + 32) % 4294967296 < 64) ∧
    (∀ (c : Fin 6), ((BitVec.toNat ((w154.core.teller 3).xr 0) + 32) % 4294967296).testBit ↑c = true → w154.core.owner (BitVec.ofNat 8 (64 + ↑c)) = Owner.program) ∧
    (w154.core.eff ≠ Mode.watch) ∧
    ((w154.slot 5 Ecc.clean).core.archRefusal (BitVec.ofNat 6 ((BitVec.toNat ((w154.core.teller 3).xr 0) + 32) % 4294967296)) = none) := by
  refine ⟨?_, ?_, ?_, ?_, ?_, ?_, ?_, ?_, ?_, ?_, ?_, ?_, ?_, ?_, ?_, ?_, ?_, ?_, ?_, ?_, ?_, ?_, ?_, ?_, ?_, ?_, ?_, ?_, ?_, ?_, ?_, ?_, ?_, ?_, ?_, ?_, ?_, ?_, ?_, ?_, ?_, ?_, ?_, ?_, ?_, ?_, ?_, ?_, ?_, ?_, ?_, ?_, ?_, ?_, ?_, ?_, ?_, ?_, ?_, ?_, ?_, ?_, ?_, ?_, ?_, ?_, ?_⟩ <;> decide +kernel

/-! ### Witnesses: RailStart -/

def w155 : State := st ((puts runDev [(F.PWR_VIN_V, 500000), (F.PWR_START_VSTART, 300), (F.RAIL_CFG_USED 9, 1), (F.RAIL_CFG_CLAIM 9, 1)]).setRail 9 { code := .armed, inrush := .granted, heat := .granted, chat := [3] })
def w156 : State := st ((puts runDev [(F.PWR_VIN_V, 500000), (F.PWR_START_VSTART, 300), (F.RAIL_CFG_USED 9, 1), (F.RAIL_CFG_CLAIM 9, 1)]).setRail 9 { code := .off, inrush := .granted, heat := .granted, chat := [3] })

/-- Every hypothesis of RailStart is met. -/
theorem wit_RailStart :
    ((w155.core.rail 9).code = RailCode.armed) ∧
    (w155.core.live = true) ∧
    (w155.core.mainAlive = true) ∧
    (w155.core.get F.SAFE_STATUS_CLKFAIL = 0) ∧
    (w155.core.vault.run = none) ∧
    (w155.core.vault.pend = none) ∧
    (∀ (m : Fin 48), BitVec.getLsbD (w155.core.gateSet 9) ↑m = true → (w155.core.rail m).code = RailCode.good) ∧
    (w155.core.get (F.RAIL_CFG_SEQINREQ ↑9) = 1 → w155.core.seqIn = true) ∧
    ((w155.core.rail 9).inrush = Grant.granted ∨ (w155.core.rail 9).inrush = Grant.none ∧ w155.core.get (F.RAIL_BUDGET_INRUSH ↑9) = 0) ∧
    (w155.core.get (F.RAIL_BUDGET_HEAT ↑9) = 0 ∨ (w155.core.rail 9).heat = Grant.granted) ∧
    (w155.core.get F.PWR_START_VSTART * 1000 ≤ if w155.core.get F.SAFE_STATUS_MONLOST = 1 then (w155.core.cv 5).valid12.getD 0 else w155.core.get F.PWR_VIN_V) ∧
    (¬((w156.core.rail 9).code = RailCode.armed ∧ w156.core.live = true ∧ w156.core.mainAlive = true ∧ w156.core.get F.SAFE_STATUS_CLKFAIL = 0 ∧ w156.core.vault.run = none ∧ w156.core.vault.pend = none ∧ (∀ (m : Fin 48), BitVec.getLsbD (w156.core.gateSet 9) ↑m = true → (w156.core.rail m).code = RailCode.good) ∧ (w156.core.get (F.RAIL_CFG_SEQINREQ ↑9) = 1 → w156.core.seqIn = true) ∧ ((w156.core.rail 9).inrush = Grant.granted ∨ (w156.core.rail 9).inrush = Grant.none ∧ w156.core.get (F.RAIL_BUDGET_INRUSH ↑9) = 0) ∧ (w156.core.get (F.RAIL_BUDGET_HEAT ↑9) = 0 ∨ (w156.core.rail 9).heat = Grant.granted) ∧ w156.core.get F.PWR_START_VSTART * 1000 ≤ if w156.core.get F.SAFE_STATUS_MONLOST = 1 then (w156.core.cv 5).valid12.getD 0 else w156.core.get F.PWR_VIN_V)) := by
  refine ⟨?_, ?_, ?_, ?_, ?_, ?_, ?_, ?_, ?_, ?_, ?_, ?_⟩ <;> decide +kernel

/-! ### Witnesses: RailQualifies -/

def w157 : State := st ((puts runDev [(F.RAIL_FILT_CHAT_N 9, 3), (F.RAIL_FILT_CHAT_W 9, 10), (F.RAIL_TIMING_QUAL 9, 100), (F.SC_STATUS_OP 9, 0)]).setRail 9 { code := .qualifying, uvLive := true, out := .on, chat := [], stateAt := 3 })
def w158 : State := st ((puts runDev [(F.RAIL_FILT_CHAT_N 9, 3), (F.RAIL_FILT_CHAT_W 9, 10), (F.RAIL_TIMING_QUAL 9, 100), (F.SC_STATUS_OP 9, 0)]).setRail 9 { code := .rising, uvLive := false, out := .on, chat := [], stateAt := 3 })
def w159 : State := st ((puts runDev [(F.RAIL_FILT_CHAT_N 9, 3), (F.RAIL_FILT_CHAT_W 9, 10), (F.RAIL_TIMING_QUAL 9, 100), (F.SC_STATUS_OP 9, 0)]).setRail 9 { code := .rising, uvLive := false, out := .on, chat := [40, 41, 42], stateAt := 3 })
def w160 : State := st ((puts runDev [(F.RAIL_FILT_CHAT_N 9, 3), (F.RAIL_FILT_CHAT_W 9, 10), (F.RAIL_TIMING_QUAL 9, 100), (F.SC_STATUS_OP 9, 0)]).setRail 9 { code := .qualifying, uvLive := true, out := .on, chat := [40, 41, 42], stateAt := 3 })
def w161 : State := st ((puts runDev [(F.RAIL_FILT_CHAT_N 9, 3), (F.RAIL_FILT_CHAT_W 9, 10), (F.RAIL_TIMING_QUAL 9, 100), (F.SC_STATUS_OP 9, 0)]).setRail 9 { code := .qualifying, uvLive := false, out := .on, chat := [], stateAt := 3 })
def w162 : State := st ((puts runDev [(F.RAIL_FILT_CHAT_N 9, 3)]).setRail 9 { code := .rising, out := .on, riseAt := 9, brokeAt := 3, chat := [40] })

/-- Every hypothesis of RailQualifies is met. -/
theorem wit_RailQualifies :
    (w157.core.mainAlive = true) ∧
    ((w157.core.rail 9).code = RailCode.qualifying) ∧
    (w157.core.goodCond 9 = false) ∧
    ((List.filter (fun t => decide (w157.at 50 ≤ t + w157.core.get (F.RAIL_FILT_CHAT_W ↑9) * 1000000)) (w157.at 50 :: (w157.core.rail 9).chat)).length ≤ w157.core.get (F.RAIL_FILT_CHAT_N ↑9)) ∧
    (w157.at 50 < max (w157.core.rail 9).stateAt (w157.core.rail 9).brokeAt + w157.core.get (F.RAIL_TIMING_QUAL ↑9) * 10000) ∧
    (w158.core.mainAlive = true) ∧
    ((w158.core.rail 9).code = RailCode.rising) ∧
    (w158.core.goodCond 9 = true) ∧
    (↑9 < 8 ∨ (w158.core.rail 9).riseAt ≤ (w158.core.rail 9).brokeAt) ∧
    ((List.filter (fun t => decide (w158.at 50 ≤ t + w158.core.get (F.RAIL_FILT_CHAT_W ↑9) * 1000000)) (w158.at 50 :: (w158.core.rail 9).chat)).length ≤ w158.core.get (F.RAIL_FILT_CHAT_N ↑9)) ∧
    (w159.core.mainAlive = true) ∧
    ((w159.core.rail 9).code = RailCode.rising) ∧
    (w159.core.goodCond 9 = true) ∧
    (↑9 < 8 ∨ (w159.core.rail 9).riseAt ≤ (w159.core.rail 9).brokeAt) ∧
    (w159.core.get (F.RAIL_FILT_CHAT_N ↑9) < (List.filter (fun t => decide (w159.at 50 ≤ t + w159.core.get (F.RAIL_FILT_CHAT_W ↑9) * 1000000)) (w159.at 50 :: (w159.core.rail 9).chat)).length) ∧
    (w159.core.tableRuns = false) ∧
    (w160.core.mainAlive = true) ∧
    ((w160.core.rail 9).code = RailCode.qualifying) ∧
    (w160.core.goodCond 9 = false) ∧
    (w160.core.get (F.RAIL_FILT_CHAT_N ↑9) < (List.filter (fun t => decide (w160.at 50 ≤ t + w160.core.get (F.RAIL_FILT_CHAT_W ↑9) * 1000000)) (w160.at 50 :: (w160.core.rail 9).chat)).length) ∧
    (w160.core.tableRuns = false) ∧
    (w161.core.mainAlive = true) ∧
    ((w161.core.rail 9).code = RailCode.qualifying) ∧
    (w161.core.goodCond 9 = true) ∧
    (max (w161.core.rail 9).stateAt (w161.core.rail 9).brokeAt + w161.core.get (F.RAIL_TIMING_QUAL ↑9) * 10000 ≤ w161.at 2000000000) ∧
    (w162.core.mainAlive = true) ∧
    ((w162.core.rail 9).code = RailCode.rising) ∧
    (w162.core.goodCond 9 = true) ∧
    ((8 : ℕ) ≤ ↑(9 : Fin (48 : ℕ))) ∧
    ((w162.core.rail 9).brokeAt < (w162.core.rail 9).riseAt) := by
  refine ⟨?_, ?_, ?_, ?_, ?_, ?_, ?_, ?_, ?_, ?_, ?_, ?_, ?_, ?_, ?_, ?_, ?_, ?_, ?_, ?_, ?_, ?_, ?_, ?_, ?_, ?_, ?_, ?_, ?_, ?_⟩ <;> decide +kernel

/-! ### Witnesses: RailFaults -/

def w163 : State := st ((puts runDev [(F.RAIL_REACT_RISE 9, 0), (F.RAIL_REACT_UV 9, 0), (F.RAIL_REACT_PG 9, 0), (F.RAIL_CFG_PGUSE 9, 1), (F.SC_STATUS_OP 9, 0)]).setRail 9 { code := .good, out := .on, uvLive := true, uvAt := some 4, pg := false, pgAt := some 4 })
def w164 : State := st ((puts runDev [(F.RAIL_REACT_RISE 9, 0), (F.RAIL_REACT_UV 9, 0), (F.RAIL_REACT_PG 9, 0), (F.RAIL_CFG_PGUSE 9, 1), (F.SC_STATUS_OP 9, 0)]).setRail 9 { code := .rising, out := .on, riseAt := 4 })

/-- Every hypothesis of RailFaults is met. -/
theorem wit_RailFaults :
    (w163.core.live = true) ∧
    (w163.core.mainAlive = true) ∧
    (w163.core.vault.run = none) ∧
    (w163.core.vault.pend = none) ∧
    (w163.core.vault.loaded = true) ∧
    (w163.core.get F.SAFE_STATUS_VAULTLOST = 0) ∧
    ((w163.core.rail 9).out = RailOut.on) ∧
    (w163.core.jLost = 0) ∧
    (w163.core.jq.length < 128) ∧
    (w163.core.eff ≠ Mode.watch) ∧
    (w163.core.get (F.RAIL_REACT_UV ↑9) = 0) ∧
    ((0 : ℕ) ≤ (3 : ℕ)) ∧
    ((w163.core.rail 9).code = RailCode.good) ∧
    ((w163.core.rail 9).uvLive = true) ∧
    ((w163.core.rail 9).uvAt = some 4) ∧
    (max 4 (w163.core.rail 9).stateAt + w163.core.get (F.RAIL_FILT_UVFILT ↑9) * 100 ≤ w163.at 4000000000) ∧
    (w163.core.get (F.RAIL_REACT_PG ↑9) = 0) ∧
    ((8 : ℕ) ≤ ↑(9 : Fin (48 : ℕ))) ∧
    (w163.core.get (F.RAIL_CFG_PGUSE ↑9) = 1) ∧
    ((w163.core.rail 9).pg ≠ w163.core.flag (F.RAIL_CFG_PGPOL ↑9)) ∧
    ((w163.core.rail 9).pgAt = some 4) ∧
    (4 + w163.core.get (F.RAIL_FILT_UVFILT ↑9) * 100 ≤ w163.at 4000000000) ∧
    (w164.core.live = true) ∧
    (w164.core.mainAlive = true) ∧
    (w164.core.vault.run = none) ∧
    (w164.core.vault.pend = none) ∧
    (w164.core.vault.loaded = true) ∧
    (w164.core.get F.SAFE_STATUS_VAULTLOST = 0) ∧
    ((w164.core.rail 9).out = RailOut.on) ∧
    (w164.core.jLost = 0) ∧
    (w164.core.jq.length < 128) ∧
    (w164.core.eff ≠ Mode.watch) ∧
    (w164.core.get (F.RAIL_REACT_RISE ↑9) = 0) ∧
    ((w164.core.rail 9).code = RailCode.rising ∨ (w164.core.rail 9).code = RailCode.qualifying) ∧
    ((w164.core.rail 9).riseAt + w164.core.get (F.RAIL_TIMING_RISETO ↑9) * 1000000 ≤ w164.at 4000000000) ∧
    (8 ≤ ↑9 ∨ w164.core.get (F.SC_STATUS_OP ↑9) = 3) := by
  refine ⟨?_, ?_, ?_, ?_, ?_, ?_, ?_, ?_, ?_, ?_, ?_, ?_, ?_, ?_, ?_, ?_, ?_, ?_, ?_, ?_, ?_, ?_, ?_, ?_, ?_, ?_, ?_, ?_, ?_, ?_, ?_, ?_, ?_, ?_, ?_, ?_⟩ <;> decide +kernel

/-! ### Witnesses: RailOv -/

def w165 : State := st (runDev.setRail 9 { code := .off, out := .on, ovLive := true, ovAt := some 4 })

/-- Every hypothesis of RailOv is met. -/
theorem wit_RailOv :
    ((w165.core.rail 9).code ≠ RailCode.unused) ∧
    ((w165.core.rail 9).ovLive = true) ∧
    ((w165.core.rail 9).ovAt = some 4) ∧
    (4 + w165.core.get (F.RAIL_FILT_OVFILT ↑9) * 100 ≤ w165.at 4000000) ∧
    (w165.core.live = true) ∧
    (w165.core.eff ≠ Mode.watch) ∧
    (w165.core.vault.run = none) ∧
    (w165.core.vault.pend = none) ∧
    (w165.core.vault.loaded = true) ∧
    (w165.core.get F.SAFE_STATUS_VAULTLOST = 0) := by
  refine ⟨?_, ?_, ?_, ?_, ?_, ?_, ?_, ?_, ?_, ?_⟩ <;> decide +kernel

/-! ### Witnesses: RailSides -/

def w166 : State := st { (puts runDev [(F.RSTO_CFG_CLAIM 3, 1), (F.RSTO_STATUS_STRETCHING, 8), (F.RSTO_STATUS_ASSERTED, 9), (F.RSTO_MASKL_MASKL 3, 6), (F.RSTO_CFG_STRETCH 3, 2), (F.CASC_CFG_CLAIM, 1), (F.CASC_MASKL_MASKL, 6), (F.CASC_CFG_OUTDLY, 2)]) with rails := Vector.replicate 48 { code := .good } }
def w167 : State := st { (puts (puts runDev [(F.RSTO_CFG_CLAIM 3, 1), (F.RSTO_STATUS_STRETCHING, 8), (F.RSTO_STATUS_ASSERTED, 9), (F.RSTO_MASKL_MASKL 3, 6), (F.RSTO_CFG_STRETCH 3, 2), (F.CASC_CFG_CLAIM, 1), (F.CASC_MASKL_MASKL, 6), (F.CASC_CFG_OUTDLY, 2)]) [(F.SAFE_STATUS_CLKFAIL, 1)]) with rails := Vector.replicate 48 { code := .good } }
def w168 : State := st (rail9 runDev { code := .falling, offAt := 7 })
def w169 : State := st (rail9 (puts runDev [(F.RAIL_CFG_PGPOL 9, 0), (F.RAIL_CFG_PGUSE 9, 1)]) { code := .good, pg := false, pgAt := some 3 })

/-- Every hypothesis of RailSides is met. -/
theorem wit_RailSides :
    (w166.core.live = true) ∧
    ((8 : ℕ) ≤ ↑(9 : Fin (48 : ℕ))) ∧
    ((w166.core.rail 9).pg ≠ true) ∧
    (∀ p ∈ w166.core.probing, p.path ≠ Path.windowPg 9) ∧
    (true = w166.core.flag (F.RAIL_CFG_PGPOL ↑9)) ∧
    (w166.core.get (F.RSTO_CFG_CLAIM ↑3) = 1) ∧
    (w166.core.get (F.RSTO_CFG_MODE ↑3) = 0) ∧
    (w166.core.mainAlive = true) ∧
    (w166.core.get F.SAFE_STATUS_CLKFAIL = 0) ∧
    ((w166.core.get F.RSTO_STATUS_STRETCHING).testBit ↑3 = true) ∧
    (w166.core.vault.rsto.getLsbD ↑3 = false) ∧
    (∀ (m : Fin 48), BitVec.getLsbD (rstoMask w166.core 3) ↑m = true → (w166.core.rail m).code = RailCode.good) ∧
    (w166.core.rstoAt.get 3 + (w166.core.get (F.RSTO_CFG_STRETCH ↑3) * 1000000 - 10000) ≤ w166.at 400000000000) ∧
    (w166.core.get F.CASC_CFG_CLAIM = 1) ∧
    (cascMask w166.core ≠ 0#48) ∧
    (∀ (m : Fin 48), BitVec.getLsbD (cascMask w166.core) ↑m = true → (w166.core.rail m).code = RailCode.good) ∧
    (w166.core.vault.run = none) ∧
    (w166.core.vault.pend = none) ∧
    (w166.core.cascAt + w166.core.get F.CASC_CFG_OUTDLY * 100000 ≤ w166.at 400000000000) ∧
    (∀ (m : Fin 48), BitVec.getLsbD (cascMask w166.core) ↑m = true → (w166.core.rail m).stateAt + w166.core.get F.CASC_CFG_OUTDLY * 100000 ≤ w166.at 400000000000) ∧
    (w166.core.dev = DevState.run) ∧
    (w166.core.seqIn = !true) ∧
    (w166.core.vault.loaded = true) ∧
    (w166.core.get F.SAFE_STATUS_VAULTLOST = 0) ∧
    (w167.core.get (F.RSTO_CFG_CLAIM ↑3) = 1) ∧
    (w167.core.get (F.RSTO_CFG_MODE ↑3) = 0) ∧
    (w167.core.live = true) ∧
    (w167.core.mainAlive = false ∨ w167.core.get F.SAFE_STATUS_CLKFAIL = 1) ∧
    ((w168.core.rail 9).code = RailCode.falling ∨ (w168.core.rail 9).code = RailCode.faulted ∧ (w168.core.rail 9).out = RailOut.falling) ∧
    ((w168.core.rail 9).fallDone = false) ∧
    ((w168.core.rail 9).offAt + w168.core.get (F.RAIL_TIMING_FALLTO ↑9) * 1000000 ≤ w168.at 400000000000) ∧
    (w169.core.live = true) ∧
    ((w169.core.rail 9).pg ≠ true) ∧
    (∀ p ∈ w169.core.probing, p.path ≠ Path.windowPg 9) ∧
    (true ≠ w169.core.flag (F.RAIL_CFG_PGPOL ↑9)) := by
  refine ⟨?_, ?_, ?_, ?_, ?_, ?_, ?_, ?_, ?_, ?_, ?_, ?_, ?_, ?_, ?_, ?_, ?_, ?_, ?_, ?_, ?_, ?_, ?_, ?_, ?_, ?_, ?_, ?_, ?_, ?_, ?_, ?_, ?_, ?_, ?_⟩ <;> decide +kernel

/-! ### Witnesses: PowerSupply -/

def w170 : State := st runDev
def w171 : State := { st { Dev.reset with dev := .powerHold } with dram := [(3, 1)], iram := [(4, 5)], ledger := [(9, 9)] }
def w172 : State := { st (Dev.reset) with dram := [(3, 1)], iram := [(4, 5)], ledger := [(9, 9)] }
def w173 : State := { st { Dev.reset with dev := .boot } with dram := [(3, 1)], iram := [(4, 5)], ledger := [(9, 9)] }
def w174 : State := { st { Dev.reset with dev := .boot, pwr := { stuck := true } } with dram := [(3, 1)], iram := [(4, 5)], ledger := [(9, 9)] }
def w175 : State := st { runDev with pwr := { vsupLow := true } }
def w176 : State := st { (puts runDev [(F.CAP_STATUS_ARCH 5, 1)]) with arch := some ⟨32, false, 3, runDev.stamp⟩ }
def w177 : State := st { runDev with v18ok := false, recent := [⟨10, 0x200100, 24, [], [], (0, 0), some 1⟩] }

/-- Every hypothesis of PowerSupply is met. -/
theorem wit_PowerSupply :
    (w170.core.dev ≠ DevState.unpowered) ∧
    (w170.core.pwr.vsupLow = false) ∧
    (w170.core.arch = none) ∧
    (w170.core.v18ok = true) ∧
    (w170.core.recent = []) ∧
    (w171.core.dev ≠ DevState.unpowered) ∧
    (w171.core.dev = DevState.powerHold) ∧
    (w172.core.dev = DevState.unpowered) ∧
    (w173.core.dev = DevState.boot) ∧
    (w173.core.pwr.stuck = false) ∧
    (w174.core.dev = DevState.boot) ∧
    (w174.core.pwr.stuck = true) ∧
    (w175.core.pwr.vsupLow = true) ∧
    (w176.core.dev ≠ DevState.unpowered) ∧
    (w176.core.pwr.vsupLow = false) ∧
    (w176.core.arch = some { mask := 32#6, door := false, num := 3, stamp0 := runDev.stamp : Arch }) ∧
    (w177.core.v18ok = false) := by
  refine ⟨?_, ?_, ?_, ?_, ?_, ?_, ?_, ?_, ?_, ?_, ?_, ?_, ?_, ?_, ?_, ?_, ?_⟩ <;> decide +kernel

/-! ### Witnesses: PowerLoss -/

def w178 : State := st { (puts runDev [(F.PWR_HOLDV_V, 600000), (F.PWR_HOLDCFG_VFLOOR, 200)]) with dev := .holdUp, pwr := { orAt := some 5 } }

/-- Every hypothesis of PowerLoss is met. -/
theorem wit_PowerLoss :
    (w170.core.live = true) ∧
    (w170.core.mainAlive = true) ∧
    (w170.core.dev = DevState.run) ∧
    (w178.core.pwr.orAt = some 5) ∧
    (20005 ≤ w178.at 90000) ∧
    (w178.core.dev = DevState.holdUp) ∧
    (w178.core.mainAlive = true) ∧
    (w178.core.pwr.orDone = false) ∧
    (w178.core.get F.PWR_HOLDCFG_VFLOOR * 1000 < w178.core.get F.PWR_HOLDV_V) := by
  refine ⟨?_, ?_, ?_, ?_, ?_, ?_, ?_, ?_, ?_⟩ <;> decide +kernel

/-! ### Witnesses: PowerMonitor -/

def w179 : State := st { (puts runDev [(F.PWR_STATUS_CHG, 0)]) with pwr := { high := 10 } }
def w180 : State := st { (puts (puts runDev [(F.PWR_STATUS_CHG, 0)]) [(F.PWR_STATUS_VIN_HIGH, 1)]) with pwr := { low := 100 } }
def w181 : State := st { (rail9 runDev { waitVin := true }) with pwr := { lowAt := some 5, lowN := 1 } }
def w182 : State := st { runDev with dev := .holdUp, vault := { runDev.vault with mainDead := true } }

/-- Every hypothesis of PowerMonitor is met. -/
theorem wit_PowerMonitor :
    (w179.core.monUp = true) ∧
    (10 ≤ w179.core.pwr.high) ∧
    (w179.core.flag F.PWR_STATUS_VIN_HIGH = false) ∧
    (w180.core.monUp = true) ∧
    (100 ≤ w180.core.pwr.low) ∧
    (w180.core.flag F.PWR_STATUS_VIN_HIGH = true) ∧
    (w181.core.pwr.lowAt = some 5) ∧
    (w181.core.live = true) ∧
    (w181.core.mainAlive = true) ∧
    (5 + w181.core.pwr.lowN * 1000000000 ≤ w181.at 5000000000) ∧
    (∃ n, (w181.core.rail n).waitVin = true) ∧
    (w182.core.monUp = false) := by
  refine ⟨?_, ?_, ?_, ?_, ?_, ?_, ?_, ?_, ?_, ?_, ?_, ?_⟩ <;> decide +kernel

/-! ### Witnesses: Charger -/

def w183 : State := st { (puts runDev [(F.PWR_STATUS_CHG, 1)]) with pwr := { chgAt := 3, ovAt := some 4 } }
def w184 : State := st { (puts runDev [(F.PWR_STATUS_CHG, 4)]) with pwr := { chgAt := 3, ovAt := some 4 } }

/-- Every hypothesis of Charger is met. -/
theorem wit_Charger :
    (w183.core.live = true) ∧
    (w183.core.mainAlive = true) ∧
    (w183.core.get F.PWR_STATUS_CHG ≠ 4) ∧
    (w183.core.get F.PWR_STATUS_CHG ≠ 5) ∧
    (w183.core.get F.PWR_STATUS_CHG ≠ 0) ∧
    (w183.core.pwr.reached = false) ∧
    (w183.core.pwr.chgAt + w183.core.get F.PWR_CHG_TMAX * 1000000000 ≤ w183.at 90000000000) ∧
    (w183.core.pwr.ovAt = some 4) ∧
    (1000004 ≤ w183.at 90000000000) ∧
    (w184.core.live = true) ∧
    (w184.core.mainAlive = true) ∧
    (w184.core.get F.PWR_STATUS_CHG = 4 ∨ w184.core.get F.PWR_STATUS_CHG = 5) := by
  refine ⟨?_, ?_, ?_, ?_, ?_, ?_, ?_, ?_, ?_, ?_, ?_, ?_⟩ <;> decide +kernel

/-! ### Witnesses: SagGovernor -/

def w185 : State := st { (puts runDev [(F.PWR_SAG_EN, 1), (F.PWR_VIN_VALID, 1), (F.PWR_SAG_SAGV, 400), (F.PWR_SAG_DEPTH, 10), (F.PWR_STATUS_SAG, 1), (F.PWR_VIN_V, 300000)]) with pwr := { fastAt := some 5, rec1At := some 5, rec0At := some 5 } }
def w186 : State := st { (puts runDev [(F.PWR_SAG_EN, 1), (F.PWR_VIN_VALID, 1), (F.PWR_SAG_SAGV, 400), (F.PWR_SAG_DEPTH, 10), (F.PWR_STATUS_SAG, 0), (F.PWR_VIN_V, 360000)]) with pwr := { fastAt := none, rec1At := none, rec0At := none } }
def w187 : State := st { (puts runDev [(F.PWR_SAG_EN, 1), (F.PWR_VIN_VALID, 1), (F.PWR_SAG_SAGV, 400), (F.PWR_SAG_DEPTH, 10), (F.PWR_STATUS_SAG, 0), (F.PWR_VIN_V, 360000)]) with pwr := { fastAt := some 5, rec1At := some 5, rec0At := some 5 } }
def w188 : State := st { (puts runDev [(F.PWR_SAG_EN, 1), (F.PWR_VIN_VALID, 1), (F.PWR_SAG_SAGV, 400), (F.PWR_SAG_DEPTH, 10), (F.PWR_STATUS_SAG, 0), (F.PWR_VIN_V, 420000)]) with pwr := { fastAt := some 5, rec1At := some 5, rec0At := some 5 } }
def w189 : State := st { (puts runDev [(F.PWR_SAG_EN, 1), (F.PWR_VIN_VALID, 1), (F.PWR_SAG_SAGV, 400), (F.PWR_SAG_DEPTH, 10), (F.PWR_STATUS_SAG, 2), (F.PWR_VIN_V, 300000)]) with pwr := { fastAt := some 5, rec1At := some 5, rec0At := some 5 } }

/-- Every hypothesis of SagGovernor is met. -/
theorem wit_SagGovernor :
    (w185.core.sagActs = true) ∧
    (w185.core.sag < 2) ∧
    (w185.core.get F.PWR_VIN_V < w185.core.get F.PWR_SAG_SAGV * 1000 - w185.core.get F.PWR_SAG_DEPTH * 5000) ∧
    (w185.core.sag = 1) ∧
    (w185.core.pwr.rec0At = some 5) ∧
    (1000005 ≤ w185.at 90000000) ∧
    (w185.core.get F.SAFE_STATUS_MONLOST ≠ 1) ∧
    (w186.core.sagActs = true) ∧
    (w186.core.sag = 0) ∧
    (w186.core.get F.PWR_SAG_SAGV * 1000 - w186.core.get F.PWR_SAG_DEPTH * 5000 ≤ w186.core.get F.PWR_VIN_V) ∧
    (w186.core.get F.PWR_VIN_V < w186.core.get F.PWR_SAG_SAGV * 1000) ∧
    (¬∃ f, w186.core.pwr.fastAt = some f ∧ f + 50000 ≤ w186.at 90000000) ∧
    (w187.core.sagActs = true) ∧
    (w187.core.sag < 2) ∧
    (w187.core.get F.PWR_SAG_SAGV * 1000 - w187.core.get F.PWR_SAG_DEPTH * 5000 ≤ w187.core.get F.PWR_VIN_V) ∧
    (w187.core.get F.PWR_VIN_V < w187.core.get F.PWR_SAG_SAGV * 1000) ∧
    (∃ f, w187.core.pwr.fastAt = some f ∧ f + 50000 ≤ w187.at 90000000) ∧
    (w188.core.sagActs = true) ∧
    (w188.core.sag = 0) ∧
    (w188.core.get F.PWR_SAG_SAGV * 1000 ≤ w188.core.get F.PWR_VIN_V) ∧
    (∃ f, w188.core.pwr.fastAt = some f ∧ f + 50000 ≤ w188.at 90000000) ∧
    (w189.core.sagActs = true) ∧
    (w189.core.sag = 2) ∧
    (w189.core.pwr.rec1At = some 5) ∧
    (1000005 ≤ w189.at 90000000) := by
  refine ⟨?_, ?_, ?_, ?_, ?_, ?_, ?_, ?_, ?_, ?_, ?_, ?_, ?_, ?_, ?_, ?_, ?_, ?_, ?_, ?_, ?_, ?_, ?_, ?_, ?_⟩ <;> decide +kernel

/-! ### Witnesses: BootSupply -/

def w190 : State := st { (puts { Dev.reset with dev := .boot } [(F.SYS_STATE_BOOTSTEP, 1)]) with pwr := { waitAt := none, tries := 0 } }
def w191 : State := st (puts { Dev.reset with dev := .boot } [(F.SYS_STATE_BOOTSTEP, 3)])
def w192 : State := st { (puts { Dev.reset with dev := .boot } [(F.SYS_STATE_BOOTSTEP, 3)]) with pwr := { waitAt := none, tries := 0 } }
def w193 : State := st { (puts { Dev.reset with dev := .boot } [(F.SYS_STATE_BOOTSTEP, 3)]) with pwr := { waitAt := some 5, tries := 0 } }
def w194 : State := st { (puts { Dev.reset with dev := .boot } [(F.SYS_STATE_BOOTSTEP, 3)]) with pwr := { waitAt := some 5, tries := 3, stuck := true } }

/-- Every hypothesis of BootSupply is met. -/
theorem wit_BootSupply :
    (w190.core.dev = DevState.boot) ∧
    (w190.core.get F.SYS_STATE_BOOTSTEP = 1 ∨ w190.core.get F.SYS_STATE_BOOTSTEP = 2) ∧
    (w190.core.pwr.waitAt = none) ∧
    (w190.core.pwr.stepAt + 900000 < w190.at 600000000) ∧
    (w191.core.dev = DevState.boot) ∧
    (w191.core.get F.SYS_STATE_BOOTSTEP = 3) ∧
    (w191.core.mainAlive = true) ∧
    (w191.core.pwr.waitAt = none) ∧
    (w191.core.usecOn = false) ∧
    (w191.at 400000 ≤ w191.core.pwr.stepAt + 500000) ∧
    (w191.at 400000 < w191.core.pwr.stepAt + 500000) ∧
    (w192.core.dev = DevState.boot) ∧
    (w192.core.get F.SYS_STATE_BOOTSTEP = 3) ∧
    (w192.core.pwr.waitAt = none) ∧
    (w192.core.pwr.stepAt + 900000 ≤ w192.at 600000000) ∧
    (w193.core.dev = DevState.boot) ∧
    (w193.core.get F.SYS_STATE_BOOTSTEP = 3) ∧
    (w193.core.pwr.waitAt = some 5) ∧
    (w193.core.pwr.stuck = false) ∧
    (100000005 ≤ w193.at 600000000) ∧
    (w194.core.dev = DevState.boot) ∧
    (w194.core.pwr.stuck = true) := by
  refine ⟨?_, ?_, ?_, ?_, ?_, ?_, ?_, ?_, ?_, ?_, ?_, ?_, ?_, ?_, ?_, ?_, ?_, ?_, ?_, ?_, ?_, ?_⟩ <;> decide +kernel

/-! ### Witnesses: BootCalibrationSet -/

def w195 : State := { st (bootDev 4) with dram := [(3, 1)] }
def w196 : State := st { bootDev 4 with v18ok := false }

/-- Every hypothesis of BootCalibrationSet is met. -/
theorem wit_BootCalibrationSet :
    (w195.core.dev = DevState.boot) ∧
    (w195.core.get F.SYS_STATE_BOOTSTEP = 4) ∧
    (w195.core.mainAlive = true) ∧
    (w195.core.bootnoOk = false) ∧
    (w195.core.v18ok = true) ∧
    (w196.core.dev = DevState.boot) ∧
    (w196.core.get F.SYS_STATE_BOOTSTEP = 4) ∧
    (w196.core.mainAlive = true) ∧
    (w196.core.bootnoOk = false) ∧
    (w196.core.v18ok = false) := by
  refine ⟨?_, ?_, ?_, ?_, ?_, ?_, ?_, ?_, ?_, ?_⟩ <;> decide +kernel

/-! ### Witnesses: BootBank -/

def w197 : State := st (bootDev 5)
def w198 : State := { img (bootDev 5) with dram := [(9, 9)] }

/-- Every hypothesis of BootBank is met. -/
theorem wit_BootBank :
    (w197.core.dev = DevState.boot) ∧
    (w197.core.get F.SYS_STATE_BOOTSTEP = 5) ∧
    (w197.core.mainAlive = true) ∧
    (∀ b ∈ w197.candidates, (w197.advance 50).bankCode b ≠ none) ∧
    (w198.core.dev = DevState.boot) ∧
    (w198.core.get F.SYS_STATE_BOOTSTEP = 5) ∧
    (w198.core.mainAlive = true) ∧
    (w198.candidates = [] ++ [false]) ∧
    (∀ c ∈ [], (w198.advance 50).bankCode c ≠ none) ∧
    ((w198.advance 50).bankCode false = none) := by
  refine ⟨?_, ?_, ?_, ?_, ?_, ?_, ?_, ?_, ?_, ?_⟩ <;> decide +kernel

/-! ### Witnesses: BootEnd -/

def w199 : State := st (bootDev 7)
def w200 : State := img (bootDev 8)

/-- Every hypothesis of BootEnd is met. -/
theorem wit_BootEnd :
    (w199.core.dev = DevState.boot) ∧
    (w199.core.mainAlive = true) ∧
    (w199.core.get F.SYS_STATE_BOOTSTEP = 7) ∧
    (w200.core.dev = DevState.boot) ∧
    (w200.core.mainAlive = true) ∧
    (w200.core.get F.SYS_STATE_BOOTSTEP = 8) ∧
    (w200.core.bootProbing = false) := by
  refine ⟨?_, ?_, ?_, ?_, ?_, ?_, ?_⟩ <;> decide +kernel

/-! ### Witnesses: Reboot -/

def w201 : State := st { runDev with owners := Vector.replicate 256 (.program) }
def w202 : State := st { bootDev 3 with dev := .bootFail }

/-- Every hypothesis of Reboot is met. -/
theorem wit_Reboot :
    (w201.core.dev = DevState.run) ∧
    (w201.core.mainAlive = true) ∧
    (w201.core.owner 123#8 = (Writer.teller 3).owner) ∧
    (w201.core.tableFree = true) ∧
    (w202.core.dev = DevState.bootFail) := by
  refine ⟨?_, ?_, ?_, ?_, ?_⟩ <;> decide +kernel

/-! ### Witnesses: ThermalShutdown -/

def w203 : State := st { runDev with checks := { sd := ((Vector.replicate 4 0).set 1 8).set 2 8 } }
def w204 : State := { st { runDev with vault := { thermal := some 5 } } with dram := [(3, 1)] }

/-- Every hypothesis of ThermalShutdown is met. -/
theorem wit_ThermalShutdown :
    (w203.core.vaultUp = true) ∧
    (w203.core.vault.thermal = none) ∧
    (w203.core.checks.sd.get 1 = 8) ∧
    (∀ j < 1, w203.core.checks.sd.get j ≠ 8) ∧
    (w204.core.vault.thermal = some 5) ∧
    (w204.core.vault.loaded = false ∨ w204.core.tableRuns = false ∨ 50000005 ≤ w204.at 60000000) := by
  refine ⟨?_, ?_, ?_, ?_, ?_, ?_⟩ <;> decide +kernel

/-! ### Witnesses: WatchExit -/

def w205 : State := st (puts runDev [(F.SYS_MODE_EFF, 2), (F.SYS_MODE_WAKEXIT, 0), (F.SYS_MODE_WTELLER, 5)])
def w206 : State := tell { runDev with watchExit := true } { st := .suspended, held := .waiting, wait := some (.sync false) }

/-- Every hypothesis of WatchExit is met. -/
theorem wit_WatchExit :
    (w205.core.live = true) ∧
    (w205.core.mainAlive = true) ∧
    (w205.core.eff = Mode.watch) ∧
    (w206.core.live = true) ∧
    (w206.core.mainAlive = true) ∧
    (w206.core.watchExit = true) := by
  refine ⟨?_, ?_, ?_, ?_, ?_, ?_⟩ <;> decide +kernel

/-! ### Witnesses: Close -/

def w207 : State := st { runDev with shadowAt := 77, vault := { runDev.vault with shadow := true } }
def w208 : State := st runDev
def w209 : State := st { runDev with doors := runDev.doors.set 2 { queue := [(9, .post)], entries := [⟨1602, 0xFFFFFFFF, 0x10010001⟩] }, owners := ((((Vector.replicate 256 Owner.program).set 9 (.door 2)).set 11 (.door 2)).set 0x7B (.door 2)) }
def w210 : State := st { runDev with doors := runDev.doors.set 2 { queue := [(9, .post)], entries := [⟨1602, 0xFFFFFFFF, 0x10010001⟩, ⟨1730, 0xFFFFFFFF, 0x20020002⟩] }, owners := ((Vector.replicate 256 Owner.program).set 9 (.door 2)) }
def w211 : State := st (puts { runDev with doors := runDev.doors.set 2 { queue := [(9, .post)], entries := [⟨1602, 0xFFFFFFFF, 0x10010001⟩, ⟨5, 3, 2⟩] }, owners := ((((Vector.replicate 256 Owner.program).set 9 (.door 2)).set 11 (.door 2)).set 0x7B (.door 2)) } [(F.SYS_MODE_WTELLER, 0)])
def w212 : State := st (puts { runDev with doors := runDev.doors.set 2 { queue := [(9, .write ⟨5, 3, 2⟩)] }, owners := ((((Vector.replicate 256 Owner.program).set 9 (.door 2)).set 11 (.door 2)).set 0x7B (.door 2)) } [(F.SYS_MODE_WTELLER, 0)])
def w213 : State := st (puts { runDev with doors := runDev.doors.set 2 { queue := [(9, .post)], entries := [⟨5, 3, 2⟩] }, owners := ((((Vector.replicate 256 Owner.program).set 9 (.door 2)).set 11 (.door 2)).set 0x7B (.door 2)), tellers := runDev.tellers.set 3 { st := .running } } [(F.SYS_MODE_WTELLER, 3)])
def w214 : State := st (puts { runDev with doors := runDev.doors.set 2 { queue := [(9, .write ⟨5, 3, 2⟩)] }, owners := ((((Vector.replicate 256 Owner.program).set 9 (.door 2)).set 11 (.door 2)).set 0x7B (.door 2)), tellers := runDev.tellers.set 3 { st := .running } } [(F.SYS_MODE_WTELLER, 3)])
def w215 : State := st { runDev with tellers := runDev.tellers.set 3 { queue := [⟨7, .writes [⟨1602, 0xFFFFFFFF, 0x10010001⟩] false⟩] }, owners := (Vector.replicate 256 Owner.program) }
def w216 : State := st { runDev with tellers := runDev.tellers.set 3 { queue := [⟨7, .writes [⟨1602, 0xFFFFFFFF, 0x10010001⟩] false⟩, ⟨8, .writes [⟨1602, 0xFFFFFFFF, 0x20020002⟩] false⟩] }, owners := (Vector.replicate 256 Owner.program) }
def w217 : State := st { ((puts runDev [(F.TELLER_CFG_PRIO 2, 2), (F.TELLER_CFG_PRIO 3, 1)])) with tellers := (runDev.tellers.set 2 { queue := [⟨7, .writes [⟨1602, 0xFFFFFFFF, 0x10010001⟩] false⟩] }).set 3 { queue := [⟨8, .writes [⟨1602, 0xFFFFFFFF, 0x20020002⟩] false⟩] }, owners := (Vector.replicate 256 Owner.program) }
def w218 : State := st { runDev with tellers := runDev.tellers.set 3 { queue := [⟨7, .writes [⟨1602, 0xFFFFFFFF, 0x10010001⟩] false⟩] }, owners := ((((Vector.replicate 256 Owner.program).set 9 (.door 2)).set 11 (.door 2)).set 0x7B (.door 2)) }
def w219 : State := st { (puts runDev [(F.SYS_MODE_REQ, 1), (F.SYS_MODE_EFF, 0), (F.PWR_STATUS_SAG, 0), (F.THERM_STATUS_LEVEL, 0), (F.PURSE_HEATCFG_AUDIT, 500)]) with headMw := 0 }
def w220 : State := st { (puts runDev [(F.SYS_MODE_REQ, 1), (F.SYS_MODE_EFF, 0), (F.PWR_STATUS_SAG, 0), (F.THERM_STATUS_LEVEL, 0), (F.PURSE_HEATCFG_AUDIT, 500)]) with headMw := 100000 }
def w221 : State := st { (puts runDev [(F.SYS_MODE_REQ, 1), (F.SYS_MODE_EFF, 0), (F.PWR_STATUS_SAG, 1), (F.THERM_STATUS_LEVEL, 0), (F.PURSE_HEATCFG_AUDIT, 500)]) with headMw := 0 }

/-- Every hypothesis of Close is met. -/
theorem wit_Close :
    (w207.core.live = true) ∧
    (w207.core.mainAlive = true) ∧
    ((w207.core.closeAt + if w207.core.eff = Mode.watch then 51200 else 10240) ≤ w207.at 20000) ∧
    (w207.core.mgEnd = 0#2) ∧
    (w207.core.eff ≠ Mode.watch) ∧
    (w207.core.watchExit = false) ∧
    (∀ (k : Fin 8), (w207.core.teller k).queue = []) ∧
    (∀ (y : Fin 4), (w207.core.door y).queue = []) ∧
    (w207.core.get F.SYS_MODE_REQ = 0) ∧
    (w208.core.live = true) ∧
    (w208.core.mainAlive = true) ∧
    (w208.at 10239 < w208.core.closeAt + if w208.core.eff = Mode.watch then 51200 else 10240) ∧
    (w209.core.live = true) ∧
    (w209.core.mainAlive = true) ∧
    ((w209.core.closeAt + if w209.core.eff = Mode.watch then 51200 else 10240) ≤ w209.at 20000) ∧
    (∀ (k : Fin 8), (w209.core.teller k).queue = []) ∧
    (∀ (y : Fin 4), y ≠ 2 → (w209.core.door y).queue = []) ∧
    ((w209.core.door 2).queue = [(9, DoorItem.post)]) ∧
    (209 ≤ w209.at 20000) ∧
    ((w209.core.door 2).povf = false) ∧
    ((w209.core.door 2).entries = [{ reg := 1026 + 64 * ↑9, mask := 4294967295#32, val := 268500993#32 : RegWrite }]) ∧
    (w209.core.owner (BitVec.ofNat 8 ↑9) = Owner.door 2) ∧
    ((1 : ℕ) ≤ (1 : ℕ)) ∧
    ((1 : ℕ) ≤ (10000 : ℕ)) ∧
    ((1 : ℕ) ≤ (4 : ℕ)) ∧
    ((4 : ℕ) ≤ (1000 : ℕ)) ∧
    ((1 : ℕ) ≤ (16 : ℕ)) ∧
    (w210.core.live = true) ∧
    (w210.core.mainAlive = true) ∧
    ((w210.core.closeAt + if w210.core.eff = Mode.watch then 51200 else 10240) ≤ w210.at 20000) ∧
    (∀ (k : Fin 8), (w210.core.teller k).queue = []) ∧
    (∀ (y : Fin 4), y ≠ 2 → (w210.core.door y).queue = []) ∧
    ((w210.core.door 2).queue = [(9, DoorItem.post)]) ∧
    (209 ≤ w210.at 20000) ∧
    ((w210.core.door 2).povf = false) ∧
    ((w210.core.door 2).entries = [{ reg := 1026 + 64 * ↑9, mask := 4294967295#32, val := 268500993#32 : RegWrite }, { reg := 1026 + 64 * ↑11, mask := 4294967295#32, val := 537001986#32 : RegWrite }]) ∧
    (w210.core.owner (BitVec.ofNat 8 ↑9) = Owner.door 2) ∧
    (w210.core.owner (BitVec.ofNat 8 ↑11) ≠ Owner.door 2) ∧
    (w211.core.live = true) ∧
    (w211.core.mainAlive = true) ∧
    ((w211.core.closeAt + if w211.core.eff = Mode.watch then 51200 else 10240) ≤ w211.at 20000) ∧
    (w211.core.mgEnd = 0#2) ∧
    (w211.core.eff ≠ Mode.watch) ∧
    (w211.core.watchExit = false) ∧
    (∀ (k : Fin 8), (w211.core.teller k).queue = []) ∧
    (∀ (y : Fin 4), y ≠ 2 → (w211.core.door y).queue = []) ∧
    ((w211.core.door 2).queue = [(9, DoorItem.post)]) ∧
    (209 ≤ w211.at 20000) ∧
    ((w211.core.door 2).povf = false) ∧
    (w211.core.owner 123#8 = Owner.door 2) ∧
    (w211.core.get F.SYS_MODE_REQ ≠ 2) ∧
    ((w211.advance 20000).core.watchOk = false) ∧
    ((w211.core.door 2).entries = [{ reg := 1026 + 64 * ↑9, mask := 4294967295#32, val := 268500993#32 : RegWrite }, { reg := 5, mask := 3#32, val := 2#32 : RegWrite }]) ∧
    (w211.core.owner (BitVec.ofNat 8 ↑9) = Owner.door 2) ∧
    (w212.core.live = true) ∧
    (w212.core.mainAlive = true) ∧
    ((w212.core.closeAt + if w212.core.eff = Mode.watch then 51200 else 10240) ≤ w212.at 20000) ∧
    (w212.core.mgEnd = 0#2) ∧
    (w212.core.eff ≠ Mode.watch) ∧
    (w212.core.watchExit = false) ∧
    (∀ (k : Fin 8), (w212.core.teller k).queue = []) ∧
    (∀ (y : Fin 4), y ≠ 2 → (w212.core.door y).queue = []) ∧
    ((w212.core.door 2).queue = [(9, DoorItem.write { reg := 5, mask := 3#32, val := 2#32 : RegWrite })]) ∧
    (209 ≤ w212.at 20000) ∧
    ((w212.core.door 2).povf = false) ∧
    (w212.core.owner 123#8 = Owner.door 2) ∧
    ((w212.advance 20000).core.watchOk = false) ∧
    (w213.core.live = true) ∧
    (w213.core.mainAlive = true) ∧
    ((w213.core.closeAt + if w213.core.eff = Mode.watch then 51200 else 10240) ≤ w213.at 20000) ∧
    (w213.core.mgEnd = 0#2) ∧
    (w213.core.eff ≠ Mode.watch) ∧
    (w213.core.watchExit = false) ∧
    (∀ (k : Fin 8), (w213.core.teller k).queue = []) ∧
    (∀ (y : Fin 4), y ≠ 2 → (w213.core.door y).queue = []) ∧
    ((w213.core.door 2).queue = [(9, DoorItem.post)]) ∧
    (209 ≤ w213.at 20000) ∧
    ((w213.core.door 2).povf = false) ∧
    (w213.core.owner 123#8 = Owner.door 2) ∧
    (w213.core.get F.SYS_MODE_REQ ≠ 2) ∧
    ((w213.advance 20000).core.watchOk = true) ∧
    ((w213.core.door 2).entries = [{ reg := 5, mask := 3#32, val := 2#32 : RegWrite }]) ∧
    (w214.core.live = true) ∧
    (w214.core.mainAlive = true) ∧
    ((w214.core.closeAt + if w214.core.eff = Mode.watch then 51200 else 10240) ≤ w214.at 20000) ∧
    (w214.core.mgEnd = 0#2) ∧
    (w214.core.eff ≠ Mode.watch) ∧
    (w214.core.watchExit = false) ∧
    (∀ (k : Fin 8), (w214.core.teller k).queue = []) ∧
    (∀ (y : Fin 4), y ≠ 2 → (w214.core.door y).queue = []) ∧
    ((w214.core.door 2).queue = [(9, DoorItem.write { reg := 5, mask := 3#32, val := 2#32 : RegWrite })]) ∧
    (209 ≤ w214.at 20000) ∧
    ((w214.core.door 2).povf = false) ∧
    (w214.core.owner 123#8 = Owner.door 2) ∧
    ((w214.advance 20000).core.watchOk = true) ∧
    (w215.core.live = true) ∧
    (w215.core.mainAlive = true) ∧
    ((w215.core.closeAt + if w215.core.eff = Mode.watch then 51200 else 10240) ≤ w215.at 20000) ∧
    (∀ (y : Fin 4), (w215.core.door y).queue = []) ∧
    ((w215.core.teller 3).queue = List.map (fun q => { pc := q.1, body := TReqBody.writes [{ reg := 1026 + 64 * ↑9, mask := 4294967295#32, val := q.2 : RegWrite }] false : TReq }) [(7#16, 268500993#32)]) ∧
    (∀ (l : Fin 8), l ≠ 3 → (w215.core.teller l).queue = []) ∧
    (w215.core.owner (BitVec.ofNat 8 ↑9) = Owner.program) ∧
    (w216.core.live = true) ∧
    (w216.core.mainAlive = true) ∧
    ((w216.core.closeAt + if w216.core.eff = Mode.watch then 51200 else 10240) ≤ w216.at 20000) ∧
    (∀ (y : Fin 4), (w216.core.door y).queue = []) ∧
    ((w216.core.teller 3).queue = List.map (fun q => { pc := q.1, body := TReqBody.writes [{ reg := 1026 + 64 * ↑9, mask := 4294967295#32, val := q.2 : RegWrite }] false : TReq }) [(7#16, 268500993#32), (8#16, 537001986#32)]) ∧
    (∀ (l : Fin 8), l ≠ 3 → (w216.core.teller l).queue = []) ∧
    (w216.core.owner (BitVec.ofNat 8 ↑9) = Owner.program) ∧
    ((1 : ℕ) ≤ (2 : ℕ)) ∧
    ((2 : ℕ) ≤ (10000 : ℕ)) ∧
    ((1 : ℕ) ≤ (8 : ℕ)) ∧
    ((8 : ℕ) ≤ (1000 : ℕ)) ∧
    ((1 : ℕ) ≤ (32 : ℕ)) ∧
    (w217.core.live = true) ∧
    (w217.core.mainAlive = true) ∧
    ((w217.core.closeAt + if w217.core.eff = Mode.watch then 51200 else 10240) ≤ w217.at 20000) ∧
    (∀ (y : Fin 4), (w217.core.door y).queue = []) ∧
    ((2 : Fin (8 : ℕ)) ≠ (3 : Fin (8 : ℕ))) ∧
    ((w217.core.teller 2).queue = List.map (fun q => { pc := q.1, body := TReqBody.writes [{ reg := 1026 + 64 * ↑9, mask := 4294967295#32, val := q.2 : RegWrite }] false : TReq }) [(7#16, 268500993#32)]) ∧
    ((w217.core.teller 3).queue = List.map (fun q => { pc := q.1, body := TReqBody.writes [{ reg := 1026 + 64 * ↑9, mask := 4294967295#32, val := q.2 : RegWrite }] false : TReq }) [(8#16, 537001986#32)]) ∧
    (∀ (l : Fin 8), l ≠ 2 → l ≠ 3 → (w217.core.teller l).queue = []) ∧
    (w217.core.tellerRank 2 < w217.core.tellerRank 3) ∧
    (w217.core.owner (BitVec.ofNat 8 ↑9) = Owner.program) ∧
    (w218.core.live = true) ∧
    (w218.core.mainAlive = true) ∧
    ((w218.core.closeAt + if w218.core.eff = Mode.watch then 51200 else 10240) ≤ w218.at 20000) ∧
    (∀ (y : Fin 4), (w218.core.door y).queue = []) ∧
    ((w218.core.teller 3).queue = List.map (fun q => { pc := q.1, body := TReqBody.writes [{ reg := 1026 + 64 * ↑9, mask := 4294967295#32, val := q.2 : RegWrite }] false : TReq }) [(7#16, 268500993#32)]) ∧
    (∀ (l : Fin 8), l ≠ 3 → (w218.core.teller l).queue = []) ∧
    (w218.core.owner (BitVec.ofNat 8 ↑9) ≠ Owner.program) ∧
    (w219.core.live = true) ∧
    (w219.core.mainAlive = true) ∧
    ((w219.core.closeAt + if w219.core.eff = Mode.watch then 51200 else 10240) ≤ w219.at 20000) ∧
    (w219.core.mgEnd = 0#2) ∧
    (w219.core.eff ≠ Mode.watch) ∧
    (w219.core.watchExit = false) ∧
    (∀ (k : Fin 8), (w219.core.teller k).queue = []) ∧
    (∀ (y : Fin 4), (w219.core.door y).queue = []) ∧
    (w219.core.get F.SYS_MODE_REQ = 1) ∧
    (w219.core.sag = 0) ∧
    (w219.core.level < 3) ∧
    (w219.core.eff = Mode.guard) ∧
    ((w219.advance 20000).core.heatNow (w219.core.get F.PURSE_HEATCFG_AUDIT) = false) ∧
    (w220.core.live = true) ∧
    (w220.core.mainAlive = true) ∧
    ((w220.core.closeAt + if w220.core.eff = Mode.watch then 51200 else 10240) ≤ w220.at 20000) ∧
    (w220.core.mgEnd = 0#2) ∧
    (w220.core.eff ≠ Mode.watch) ∧
    (w220.core.watchExit = false) ∧
    (∀ (k : Fin 8), (w220.core.teller k).queue = []) ∧
    (∀ (y : Fin 4), (w220.core.door y).queue = []) ∧
    (w220.core.get F.SYS_MODE_REQ = 1) ∧
    (w220.core.sag = 0) ∧
    (w220.core.level < 3) ∧
    (w220.core.eff = Mode.audit ∨ (w220.advance 20000).core.heatNow (w220.core.get F.PURSE_HEATCFG_AUDIT) = true) ∧
    (w221.core.live = true) ∧
    (w221.core.mainAlive = true) ∧
    ((w221.core.closeAt + if w221.core.eff = Mode.watch then 51200 else 10240) ≤ w221.at 20000) ∧
    (w221.core.mgEnd = 0#2) ∧
    (w221.core.eff ≠ Mode.watch) ∧
    (w221.core.watchExit = false) ∧
    (∀ (k : Fin 8), (w221.core.teller k).queue = []) ∧
    (∀ (y : Fin 4), (w221.core.door y).queue = []) ∧
    (w221.core.get F.SYS_MODE_REQ = 1) ∧
    (1 ≤ w221.core.sag ∨ 3 ≤ w221.core.level) := by
  refine ⟨?_, ?_, ?_, ?_, ?_, ?_, ?_, ?_, ?_, ?_, ?_, ?_, ?_, ?_, ?_, ?_, ?_, ?_, ?_, ?_, ?_, ?_, ?_, ?_, ?_, ?_, ?_, ?_, ?_, ?_, ?_, ?_, ?_, ?_, ?_, ?_, ?_, ?_, ?_, ?_, ?_, ?_, ?_, ?_, ?_, ?_, ?_, ?_, ?_, ?_, ?_, ?_, ?_, ?_, ?_, ?_, ?_, ?_, ?_, ?_, ?_, ?_, ?_, ?_, ?_, ?_, ?_, ?_, ?_, ?_, ?_, ?_, ?_, ?_, ?_, ?_, ?_, ?_, ?_, ?_, ?_, ?_, ?_, ?_, ?_, ?_, ?_, ?_, ?_, ?_, ?_, ?_, ?_, ?_, ?_, ?_, ?_, ?_, ?_, ?_, ?_, ?_, ?_, ?_, ?_, ?_, ?_, ?_, ?_, ?_, ?_, ?_, ?_, ?_, ?_, ?_, ?_, ?_, ?_, ?_, ?_, ?_, ?_, ?_, ?_, ?_, ?_, ?_, ?_, ?_, ?_, ?_, ?_, ?_, ?_, ?_, ?_, ?_, ?_, ?_, ?_, ?_, ?_, ?_, ?_, ?_, ?_, ?_, ?_, ?_, ?_, ?_, ?_, ?_, ?_, ?_, ?_, ?_, ?_, ?_, ?_, ?_, ?_, ?_, ?_, ?_⟩ <;> decide +kernel

/-! ### Witnesses: TimeAngles -/

def w222 : State := st { (puts runDev [(F.AG_EN 4, 1), (F.AG_TARGET 4, 100), (F.AG_DIR 4, 1), (F.TALLY_CFG_SRC, 2), (F.TALLY_POS_STATE, 2), (F.TALLY_PERIOD_T, 1000), (F.AG_ONCE 4, 0), (F.AG_FIRED_FIRED, 0)]) with tellers := runDev.tellers.set 3 { st := .waiting, wait := some (.wang 4 false none) } }
def w223 : State := st { (rail9 (puts runDev [(F.SH_CTL_EN 4, 1), (F.SH_WIN_START 4, 100), (F.SH_WIN_END 4, 300), (F.SH_CTL_MASK 4, 1), (F.M_LO_RAILS 1, 512), (F.TALLY_CFG_SRC, 1), (F.TALLY_POS_STATE, 2), (F.SH_ACTIVE_ACTIVE, 16), (F.SH_CTL_MAXT 4, 10)]) { published := true, blankAt := none }) with angle := 50, shutters := runDev.shutters.set 4 { since := 3 } }
def w224 : State := { st { runDev with bootnoOk := true } with ledger := [(0x208101, 7)] }
def w225 : State := { st { runDev with bootno := 0, wrapCopy := true, folio := some (runDev.freeze 1 2 true 3 4) } with ledger := [(0x101, 7)] }
def w226 : State := st { (puts runDev [(F.AG_EN 4, 1), (F.AG_TARGET 4, 100), (F.AG_DIR 4, 1), (F.TALLY_CFG_SRC, 2), (F.TALLY_POS_STATE, 2), (F.TALLY_PERIOD_T, 1000), (F.CAP_STATUS_STATE 1, 1)]) with cvs := Vector.replicate 6 { op := .scan, began := 1, s := 400, n := 128 } }
def w227 : State := st { (rail9 (puts runDev [(F.SH_CTL_EN 4, 1), (F.SH_WIN_START 4, 100), (F.SH_WIN_END 4, 300), (F.SH_CTL_MASK 4, 1), (F.M_LO_RAILS 1, 512), (F.TALLY_CFG_SRC, 1), (F.TALLY_POS_STATE, 2), (F.SH_ACTIVE_ACTIVE, 0), (F.SH_CTL_MAXT 4, 10)]) { published := true, blankAt := none }) with angle := 200, shutters := runDev.shutters.set 4 { since := 3 } }
def w228 : State := st { (puts runDev [(F.AG_EN 4, 1), (F.AG_TARGET 4, 100), (F.AG_DIR 4, 1), (F.AG_EN 5, 1), (F.AG_DIR 5, 1), (F.AG_TARGET 5, 3), (F.TALLY_CFG_SRC, 1), (F.TALLY_POS_STATE, 2), (F.TALLY_CPR_CPR, 100), (F.AG_ONCE 4, 0), (F.AG_FIRED_FIRED, 0)]) with tellers := runDev.tellers.set 3 { st := .waiting, wait := some (.wang 4 false none) }, tal := { gateDue := [4] } }

/-- Every hypothesis of TimeAngles is met. -/
theorem wit_TimeAngles :
    (w222.core.live = true) ∧
    (w222.core.mainAlive = true) ∧
    (w222.core.eff ≠ Mode.watch) ∧
    (w222.core.tal.gateDue = []) ∧
    (w222.core.get (F.AG_EN ↑4) = 1) ∧
    ((w222.core.get (F.AG_DIR ↑4)).testBit 0 = true) ∧
    (w222.core.get F.TALLY_CFG_SRC = 2 ∧ w222.core.aligned = true ∧ w222.core.get (F.AG_TARGET ↑4) % 65536 ≠ w222.core.tal.gateA ∧ (w222.core.get (F.AG_TARGET ↑4) % 65536 + 65536 - w222.core.tal.gateA) % 65536 ≤ ((w222.advance 4000).core.ang.toNat + 65536 - w222.core.tal.gateA) % 65536 ∨ w222.core.get (F.AG_FB ↑4) = 1 ∧ w222.core.synthOn = true ∧ (w222.core.tal.gateS + 65536 ≤ (w222.advance 4000).core.sturn ∨ w222.core.get (F.AG_TARGET ↑4) % 65536 ≠ w222.core.tal.gateS % 65536 ∧ (w222.core.get (F.AG_TARGET ↑4) % 65536 + 65536 - w222.core.tal.gateS % 65536) % 65536 ≤ (w222.advance 4000).core.sturn - w222.core.tal.gateS)) ∧
    (w222.core.tal.gateA < 65536) ∧
    (w222.core.capTakes (cvOf 9) = false) ∧
    ((w222.advance 4000).core.inShutter 4 = false) ∧
    (w222.core.blanks 4 = false) ∧
    ((w223.advance 50000).core.inShutter 4 = false) ∧
    (w223.core.blanks 4 = true) ∧
    ((w223.core.shutter 4).since + w223.core.get (F.SH_CTL_MAXT ↑4) * 1000 ≤ w223.at 50000) ∧
    (w224.core.bootnoOk = true) ∧
    (w224.core.ledgerOn = true) ∧
    (w224.core.folioWaits = false) ∧
    (w224.core.wrapCopy = false) ∧
    (w224.newerCopy = some (1, 0)) ∧
    (281474975710655 ≤ BitVec.toNat (w224.advance 281474976000000000).core.usec) ∧
    (BitVec.toNat (w224.advance 281474976000000000).core.usec + 1000 ≤ 281474976710655) ∧
    (w225.core.usecOn = true) ∧
    (w225.core.wrapCopy = true) ∧
    (w225.core.usec0 + 281474976710656000 ≤ w225.at 281474976710656005) ∧
    (w226.core.live = true) ∧
    (w226.core.mainAlive = true) ∧
    (w226.core.eff ≠ Mode.watch) ∧
    (w226.core.tal.gateDue = []) ∧
    (w226.core.get (F.AG_EN ↑4) = 1) ∧
    ((w226.core.get (F.AG_DIR ↑4)).testBit 0 = true) ∧
    (w226.core.get F.TALLY_CFG_SRC = 2 ∧ w226.core.aligned = true ∧ w226.core.get (F.AG_TARGET ↑4) % 65536 ≠ w226.core.tal.gateA ∧ (w226.core.get (F.AG_TARGET ↑4) % 65536 + 65536 - w226.core.tal.gateA) % 65536 ≤ ((w226.advance 4000).core.ang.toNat + 65536 - w226.core.tal.gateA) % 65536 ∨ w226.core.get (F.AG_FB ↑4) = 1 ∧ w226.core.synthOn = true ∧ (w226.core.tal.gateS + 65536 ≤ (w226.advance 4000).core.sturn ∨ w226.core.get (F.AG_TARGET ↑4) % 65536 ≠ w226.core.tal.gateS % 65536 ∧ (w226.core.get (F.AG_TARGET ↑4) % 65536 + 65536 - w226.core.tal.gateS % 65536) % 65536 ≤ (w226.advance 4000).core.sturn - w226.core.tal.gateS)) ∧
    (w226.core.tal.gateA < 65536) ∧
    (w226.core.capTakes (cvOf 9) = true) ∧
    ((w226.advance 4000).core.cvBusy (cvOf 9) { src := TrigSrc.gate 4, ch := chOf 9, burst := true, stamp := (w226.advance 4000).core.stamp, arrive := (w226.advance 4000).core.arrival (cvOf 9) : Trig } = false) ∧
    (w227.core.live = true) ∧
    (w227.core.eff ≠ Mode.watch) ∧
    (w227.core.get (F.SH_CTL_EN ↑4) = 1) ∧
    (w227.core.blanks 4 = false) ∧
    ((w227.core.shutter 4).spent = false) ∧
    ((w227.advance 50000).core.inShutter 4 = true) ∧
    (w228.core.live = true) ∧
    (w228.core.mainAlive = true) ∧
    (w228.core.eff ≠ Mode.watch) ∧
    (w228.core.tal.gateDue = [4]) ∧
    (w228.core.get F.TALLY_CFG_SRC = 1) ∧
    (∀ (q : Fin 16), w228.core.get (F.AG_FB ↑q) = 0) ∧
    (w228.core.get (F.AG_EN ↑4) = 1) := by
  refine ⟨?_, ?_, ?_, ?_, ?_, ?_, ?_, ?_, ?_, ?_, ?_, ?_, ?_, ?_, ?_, ?_, ?_, ?_, ?_, ?_, ?_, ?_, ?_, ?_, ?_, ?_, ?_, ?_, ?_, ?_, ?_, ?_, ?_, ?_, ?_, ?_, ?_, ?_, ?_, ?_, ?_, ?_, ?_, ?_, ?_, ?_, ?_⟩ <;> decide +kernel

/-! ### Witnesses: TallyPositions -/

def w229 : State := st { (puts runDev [(F.TALLY_CFG_SRC, 2), (F.TALLY_CFG_SYNCTOL, 10), (F.TALLY_CFG_FLYN, 2), (F.TALLY_CFG_FILT, 3), (F.TALLY_POS_STATE, 2), (F.TALLY_CFG_EDGE, 0), (F.TALLY_PERIOD_T, 1000)]) with rev := 3, tal := { edgeAt := some 1000, period := some 1000, alike := 3, angleAt := 1000, qWait := 2, iWait := 0, sWait := 3, sAt := some 5 } }
def w230 : State := st { (puts runDev [(F.TALLY_CFG_SRC, 1), (F.TALLY_CPR_CPR, 100), (F.TALLY_CFG_IDXTOL, 5), (F.TALLY_CFG_QERRMAX, 3), (F.TALLY_CFG_FILT, 3), (F.AG_EN 4, 1), (F.AG_TARGET 4, 655), (F.AG_DIR 4, 1), (F.TALLY_POS_STATE, 1), (F.TALLY_CFG_DIRINV, 0), (F.TALLY_REV_REV, 3)]) with rev := 3, tal := { quadAt := some 4, p := 0, first := true, travel := 0, counts := 20, lastBad := false, illegal := [], indexAt := none } }
def w231 : State := st { (puts runDev [(F.TALLY_CFG_SRC, 1), (F.TALLY_CPR_CPR, 100), (F.TALLY_CFG_IDXTOL, 5), (F.TALLY_CFG_QERRMAX, 3), (F.TALLY_CFG_FILT, 3), (F.AG_EN 4, 1), (F.AG_TARGET 4, 655), (F.AG_DIR 4, 1), (F.TALLY_POS_STATE, 1), (F.TALLY_CFG_DIRINV, 0), (F.TALLY_REV_REV, 3)]) with rev := 3, tal := { quadAt := some 4990, p := 0, first := true, travel := 0, counts := 20, lastBad := true, illegal := [], indexAt := some 4 } }
def w232 : State := st { (puts runDev [(F.TALLY_CFG_SRC, 1), (F.TALLY_CPR_CPR, 100), (F.TALLY_CFG_IDXTOL, 5), (F.TALLY_CFG_QERRMAX, 3), (F.TALLY_CFG_FILT, 3), (F.AG_EN 4, 1), (F.AG_TARGET 4, 655), (F.AG_DIR 4, 1), (F.TALLY_POS_STATE, 2), (F.TALLY_CFG_DIRINV, 0), (F.TALLY_REV_REV, 3)]) with rev := 3, tal := { quadAt := some 4, p := 50, first := false, travel := 120, counts := 20, lastBad := false, illegal := [], indexAt := none } }
def w233 : State := st { (puts runDev [(F.TALLY_CFG_SRC, 1), (F.TALLY_CPR_CPR, 100), (F.TALLY_CFG_IDXTOL, 5), (F.TALLY_CFG_QERRMAX, 3), (F.TALLY_CFG_FILT, 3), (F.AG_EN 4, 1), (F.AG_TARGET 4, 655), (F.AG_DIR 4, 1), (F.TALLY_POS_STATE, 4), (F.TALLY_CFG_DIRINV, 0), (F.TALLY_REV_REV, 3)]) with rev := 3, tal := { quadAt := some 4, p := 0, first := true, travel := 0, counts := 20, lastBad := false, illegal := [], indexAt := none } }
def w234 : State := st { (puts runDev [(F.TALLY_CFG_SRC, 2), (F.TALLY_CFG_SYNCTOL, 10), (F.TALLY_CFG_FLYN, 2), (F.TALLY_CFG_FILT, 3), (F.TALLY_POS_STATE, 3), (F.TALLY_CFG_EDGE, 0), (F.TALLY_PERIOD_T, 1000)]) with rev := 3, tal := { edgeAt := some 1000, period := none, alike := 0, angleAt := 1000, qWait := 2, iWait := 0, sWait := 3, sAt := some 5 } }

/-- Every hypothesis of TallyPositions is met. -/
theorem wit_TallyPositions :
    (w229.core.live = true) ∧
    (w229.core.mainAlive = true) ∧
    (w229.core.get F.TALLY_CFG_SRC = 2) ∧
    (w229.core.get F.TALLY_CFG_EDGE = 0 ∧ true = true ∨ w229.core.get F.TALLY_CFG_EDGE = 1 ∧ true = false ∨ 2 ≤ w229.core.get F.TALLY_CFG_EDGE) ∧
    ((w229.core.get F.TALLY_CFG_FILT + 1) * 40 ≤ 160) ∧
    (0 < w229.core.get F.TALLY_PERIOD_T * 8) ∧
    (w229.core.get F.TALLY_POS_STATE = 1 ∨ w229.core.get F.TALLY_POS_STATE = 2 ∨ w229.core.get F.TALLY_POS_STATE = 3) ∧
    (w229.core.tal.angleAt + w229.core.get F.TALLY_PERIOD_T * 8 ≤ w229.at 1000000000) ∧
    (w229.core.get F.TALLY_POS_STATE = 2) ∧
    (w229.core.tal.edgeAt = some 1000) ∧
    (1000 + w229.core.get F.TALLY_PERIOD_T * 8 * (100 + w229.core.get F.TALLY_CFG_SYNCTOL) / 100 ≤ w229.at 1000000000) ∧
    (w229.core.tal.qWait ≠ 0) ∧
    (∀ (l : ℕ), w229.core.tal.qAt = some l → l + 1000000000 ≤ w229.at 1000000000) ∧
    (w230.core.live = true) ∧
    (w230.core.mainAlive = true) ∧
    (w230.core.get F.TALLY_CFG_SRC = 1) ∧
    ((w230.core.get F.TALLY_CFG_FILT + 1) * 40 ≤ 160) ∧
    (w230.core.get F.TALLY_POS_STATE ≠ 4) ∧
    (QStep.forward ≠ QStep.illegal) ∧
    (∀ (x : ℕ), w230.core.tal.quadAt = some x → (x + if w230.core.eff = Mode.watch then 500 else 100) ≤ w230.at 5000) ∧
    (w230.core.get F.TALLY_POS_STATE ≠ (2 : ℕ) ∨ (w230.core.tal.travel + if ((QStep.forward == QStep.backward) != w230.core.flag F.TALLY_CFG_DIRINV) = true then (-1 : ℤ) else (1 : ℤ)).natAbs ≤ w230.core.cpr + w230.core.get F.TALLY_CFG_IDXTOL) ∧
    (w231.core.live = true) ∧
    (w231.core.mainAlive = true) ∧
    (w231.core.get F.TALLY_CFG_SRC = 1) ∧
    ((w231.core.get F.TALLY_CFG_FILT + 1) * 40 ≤ 160) ∧
    (¬∀ (x : ℕ), w231.core.tal.quadAt = some x → (x + if w231.core.eff = Mode.watch then 500 else 100) ≤ w231.at 5000) ∧
    (w232.core.live = true) ∧
    (w232.core.mainAlive = true) ∧
    (w232.core.get F.TALLY_CFG_SRC = 1) ∧
    ((w232.core.get F.TALLY_CFG_FILT + 1) * 40 ≤ 160) ∧
    (w232.core.get F.TALLY_POS_STATE = 2) ∧
    (∀ (x : ℕ), w232.core.tal.quadAt = some x → (x + if w232.core.eff = Mode.watch then 500 else 100) ≤ w232.at 5000) ∧
    (w232.core.cpr + w232.core.get F.TALLY_CFG_IDXTOL < (w232.core.tal.travel + if ((QStep.forward == QStep.backward) != w232.core.flag F.TALLY_CFG_DIRINV) = true then (-1 : ℤ) else (1 : ℤ)).natAbs) ∧
    (w233.core.live = true) ∧
    (w233.core.mainAlive = true) ∧
    (w233.core.get F.TALLY_CFG_SRC = 1) ∧
    ((w233.core.get F.TALLY_CFG_FILT + 1) * 40 ≤ 160) ∧
    (w233.core.get F.TALLY_POS_STATE = 4) ∧
    (∀ (x : ℕ), w233.core.tal.quadAt = some x → (x + if w233.core.eff = Mode.watch then 500 else 100) ≤ w233.at 5000) ∧
    (w234.core.live = true) ∧
    (w234.core.mainAlive = true) ∧
    (w234.core.get F.TALLY_CFG_SRC = 2) ∧
    (0 < w234.core.get F.TALLY_PERIOD_T * 8) ∧
    (w234.core.get F.TALLY_POS_STATE = 3) ∧
    (w234.core.tal.edgeAt = some 1000) ∧
    (1000 + w234.core.get F.TALLY_PERIOD_T * 8 * (1 + w234.core.get F.TALLY_CFG_FLYN) ≤ w234.at 1000000000) := by
  refine ⟨?_, ?_, ?_, ?_, ?_, ?_, ?_, ?_, ?_, ?_, ?_, ?_, ?_, ?_, ?_, ?_, ?_, ?_, ?_, ?_, ?_, ?_, ?_, ?_, ?_, ?_, ?_, ?_, ?_, ?_, ?_, ?_, ?_, ?_, ?_, ?_, ?_, ?_, ?_, ?_, ?_, ?_, ?_, ?_, ?_, ?_⟩ <;> decide +kernel

/-! ### Witnesses: TellerCommands -/

def w235 : State := tell door2Dev { st := .running, stall := some (.queue ⟨7, .lock⟩), queue := [⟨7, .lock⟩], pc := 9, entry := 4 }
def w236 : State := tell { (puts progDev [(F.SYS_MODE_EFF, 2), (F.SYS_MODE_WTELLER, 3)]) with preqs := [⟨.hold, .teller 3, 1, 4, 0, true⟩, ⟨.hold, .teller 2, 1, 4, 0, true⟩], heatRes := [⟨.teller 3 7, 50, 0, true⟩, ⟨.arch, 50, 0, true⟩], mgEnd := 1 } { st := .suspended, exc := true, pc := 9, entry := 4, runAt := 3, wdogNs := 8 }
def w237 : State := tell { (puts progDev [(F.SYS_MODE_EFF, 2), (F.SYS_MODE_WTELLER, 3)]) with preqs := [⟨.hold, .teller 3, 1, 4, 0, true⟩, ⟨.hold, .teller 2, 1, 4, 0, true⟩], heatRes := [⟨.teller 3 7, 50, 0, true⟩, ⟨.arch, 50, 0, true⟩], mgEnd := 1 } { st := .halted, exc := true, pc := 9, entry := 4, runAt := 3, wdogNs := 8 }
def w238 : State := tell { (puts progDev [(F.SYS_MODE_EFF, 2), (F.SYS_MODE_WTELLER, 5)]) with preqs := [⟨.hold, .teller 3, 1, 4, 0, true⟩, ⟨.hold, .teller 2, 1, 4, 0, true⟩], heatRes := [⟨.teller 3 7, 50, 0, true⟩, ⟨.arch, 50, 0, true⟩], mgEnd := 1 } { st := .halted, exc := true, pc := 9, entry := 4, runAt := 3, wdogNs := 8 }
def w239 : State := tell door2Dev { st := .halted, stall := some (.queue ⟨7, .lock⟩), queue := [⟨7, .lock⟩], pc := 9, entry := 4 }
def w240 : State := tell { (puts progDev [(F.SYS_MODE_EFF, 0), (F.SYS_MODE_WTELLER, 0)]) with preqs := [⟨.hold, .teller 3, 1, 4, 0, true⟩, ⟨.hold, .teller 2, 1, 4, 0, true⟩], heatRes := [⟨.teller 3 7, 50, 0, true⟩, ⟨.arch, 50, 0, true⟩], mgEnd := 1 } { st := .halted, exc := true, pc := 9, entry := 4, runAt := 3, wdogNs := 8 }
def w241 : State := tell progDev { st := .running, stall := some (.queue ⟨7, .lock⟩), pc := 9, entry := 4 }

/-- Every hypothesis of TellerCommands is met. -/
theorem wit_TellerCommands :
    (w235.core.live = true) ∧
    (w235.core.mainAlive = true) ∧
    (w235.core.owner (BitVec.ofNat 8 (56 + ↑3)) = (Writer.door 2).owner) ∧
    ((w235.core.teller 3).st ≠ TRun.halted) ∧
    ((w235.core.teller 3).stall = some (Stall.queue { pc := 7#16, body := TReqBody.lock : TReq })) ∧
    (w236.core.live = true) ∧
    (w236.core.mainAlive = true) ∧
    (w236.core.owner (BitVec.ofNat 8 (56 + ↑3)) = (Writer.teller 3).owner) ∧
    ((w236.core.teller 3).st ≠ TRun.halted) ∧
    ((w236.core.teller 3).stall = none) ∧
    (w237.core.live = true) ∧
    (w237.core.mainAlive = true) ∧
    (w237.core.owner (BitVec.ofNat 8 (56 + ↑3)) = (Writer.teller 3).owner) ∧
    ((w237.core.teller 3).st = TRun.halted) ∧
    (¬(w237.core.eff = Mode.watch ∧ w237.core.get F.SYS_MODE_WTELLER ≠ ↑3)) ∧
    (w238.core.live = true) ∧
    (w238.core.mainAlive = true) ∧
    (w238.core.owner (BitVec.ofNat 8 (56 + ↑3)) = (Writer.teller 3).owner) ∧
    ((w238.core.teller 3).st = TRun.halted) ∧
    (w238.core.eff = Mode.watch) ∧
    (w238.core.get F.SYS_MODE_WTELLER ≠ ↑3) ∧
    ((w236.core.teller 3).queue = []) ∧
    (Writer.teller 3 ≠ Writer.teller 3 ∨ (w236.core.teller 3).stall = none) ∧
    (w239.core.live = true) ∧
    (w239.core.mainAlive = true) ∧
    (w239.core.owner (BitVec.ofNat 8 (56 + ↑3)) = (Writer.door 2).owner) ∧
    ((w239.core.teller 3).queue = [{ pc := 7#16, body := TReqBody.lock : TReq }]) ∧
    (Writer.door 2 ≠ Writer.teller 3 ∨ (w239.core.teller 3).stall = none) ∧
    (w240.core.live = true) ∧
    (w240.core.mainAlive = true) ∧
    (w240.core.owner (BitVec.ofNat 8 (56 + ↑3)) = (Writer.teller 3).owner) ∧
    ((w240.core.teller 3).st = TRun.halted) ∧
    (w240.core.eff ≠ Mode.watch) ∧
    ((w236.core.teller 3).st ≠ TRun.halted ∨ w236.core.eff = Mode.watch) ∧
    (w241.core.live = true) ∧
    (w241.core.mainAlive = true) ∧
    (w241.core.owner (BitVec.ofNat 8 (56 + ↑3)) = (Writer.teller 3).owner) ∧
    ((w241.core.teller 3).queue = []) ∧
    ((w241.core.teller 3).stall = some (Stall.queue { pc := 7#16, body := TReqBody.lock : TReq })) := by
  refine ⟨?_, ?_, ?_, ?_, ?_, ?_, ?_, ?_, ?_, ?_, ?_, ?_, ?_, ?_, ?_, ?_, ?_, ?_, ?_, ?_, ?_, ?_, ?_, ?_, ?_, ?_, ?_, ?_, ?_, ?_, ?_, ?_, ?_, ?_, ?_, ?_, ?_, ?_, ?_⟩ <;> decide +kernel

/-! ### Witnesses: RailCommands -/

def w242 : State := st { ((puts door2Dev []).setRail 9 { code := .unused, out := .off, stateAt := 3 }) with inrushUj := 100, preqs := [⟨.heat, .rail 9, 1, 4, 0, true⟩, ⟨.hold, .teller 2, 1, 4, 0, true⟩], heatRes := [⟨.rail 9, 50, 0, true⟩] }
def w243 : State := st { ((puts door2Dev [(F.RAIL_CFG_USED 9, 1), (F.RAIL_CFG_CLAIM 9, 1)]).setRail 9 { code := .rising, out := .on, stateAt := 3 }) with inrushUj := 100, preqs := [⟨.heat, .rail 9, 1, 4, 0, true⟩, ⟨.hold, .teller 2, 1, 4, 0, true⟩], heatRes := [⟨.rail 9, 50, 0, true⟩] }
def w244 : State := st ((puts door2Dev [(F.RAIL_CFG_USED 9, 1), (F.RAIL_CFG_CLAIM 9, 1), (F.SAFE_STATUS_CLKFAIL, 1)]).setRail 9 { code := .faulted, out := .off })
def w245 : State := st { ((puts door2Dev [(F.RAIL_CFG_USED 9, 1), (F.RAIL_CFG_CLAIM 9, 1)]).setRail 9 { code := .off, out := .off, stateAt := 3 }) with inrushUj := 100, preqs := [⟨.heat, .rail 9, 1, 4, 0, true⟩, ⟨.hold, .teller 2, 1, 4, 0, true⟩], heatRes := [⟨.rail 9, 50, 0, true⟩] }
def w246 : State := st { ((puts door2Dev [(F.RAIL_CFG_USED 9, 1), (F.RAIL_CFG_CLAIM 9, 1)]).setRail 9 { code := .armed, out := .off, inrush := .granted, inrushAmt := 5, stateAt := 3 }) with inrushUj := 100, preqs := [⟨.heat, .rail 9, 1, 4, 0, true⟩, ⟨.hold, .teller 2, 1, 4, 0, true⟩], heatRes := [⟨.rail 9, 50, 0, true⟩] }
def w247 : State := st { ((puts door2Dev [(F.RAIL_CFG_USED 9, 1), (F.RAIL_CFG_CLAIM 9, 1)]).setRail 9 { code := .falling, out := .off, stateAt := 3 }) with inrushUj := 100, preqs := [⟨.heat, .rail 9, 1, 4, 0, true⟩, ⟨.hold, .teller 2, 1, 4, 0, true⟩], heatRes := [⟨.rail 9, 50, 0, true⟩] }
def w248 : State := st { ((puts door2Dev [(F.RAIL_CFG_USED 9, 1), (F.RAIL_CFG_CLAIM 9, 1)]).setRail 9 { code := .faulted, out := .off, stateAt := 3 }) with inrushUj := 100, preqs := [⟨.heat, .rail 9, 1, 4, 0, true⟩, ⟨.hold, .teller 2, 1, 4, 0, true⟩], heatRes := [⟨.rail 9, 50, 0, true⟩] }
def w249 : State := st ((puts door2Dev [(F.RAIL_CFG_USED 9, 1), (F.RAIL_CFG_CLAIM 9, 1), (F.RAIL_VOFF_VOFF 9, 50)]).setRail 9 { code := .faulted, out := .on, result := none, offAt := 7, fault := 2 })
def w250 : State := st ((puts door2Dev [(F.RAIL_CFG_USED 9, 1), (F.RAIL_CFG_CLAIM 9, 1), (F.RAIL_VOFF_VOFF 9, 50)]).setRail 9 { code := .faulted, out := .off, result := some 90000, offAt := 7, fault := 2 })
def w251 : State := st ((puts door2Dev [(F.RAIL_CFG_USED 9, 1), (F.RAIL_CFG_CLAIM 9, 1), (F.PWR_VIN_V, 500000), (F.PWR_START_VSTART, 300)]).setRail 9 { code := .off })
def w252 : State := st { (((puts door2Dev [(F.RAIL_CFG_USED 9, 1), (F.RAIL_CFG_CLAIM 9, 1), (F.PWR_VIN_V, 300000), (F.PWR_START_VSTART, 400), (F.RAIL_BUDGET_INRUSH 9, 0), (F.RAIL_BUDGET_HEAT 9, 0)])).setRail 9 { code := .off }) with pwr := { lowAt := some 5, lowN := 1 } }

/-- Every hypothesis of RailCommands is met. -/
theorem wit_RailCommands :
    (w242.core.live = true) ∧
    (w242.core.mainAlive = true) ∧
    (w242.core.owner (BitVec.ofNat 8 ↑9) = (Writer.door 2).owner) ∧
    (railIn w242.core.vaultRails 9 = false) ∧
    (∃ x, Writer.door 2 = Writer.door x ∧ w242.core.get (F.RAIL_CFG_USED ↑9) ≠ 1) ∧
    ((w242.core.rail 9).code = RailCode.unused ∨ (w242.core.rail 9).code = RailCode.off) ∧
    (w243.core.live = true) ∧
    (w243.core.mainAlive = true) ∧
    (w243.core.owner (BitVec.ofNat 8 ↑9) = (Writer.door 2).owner) ∧
    (railIn w243.core.vaultRails 9 = false) ∧
    (∃ x, Writer.door 2 = Writer.door x ∧ (w243.core.get (F.RAIL_CFG_USED ↑9) = 1 ∧ w243.core.get (F.RAIL_CFG_CLAIM ↑9) = 1 ∧ (↑9 < 8 → w243.core.get (F.SC_MAP_COUNT ↑9) ≠ 0 ∧ w243.core.stageHot ↑9 = false) ∧ (w243.core.rail 9).lostOv = false ∧ w243.core.get F.SAFE_STATUS_VAULTLOST ≠ 1 ∧ w243.core.vault.run = none ∧ w243.core.vault.pend = none ∧ w243.core.fltLow = false ∧ w243.core.calOpen = none) ∧ ((w243.core.rail 9).code = RailCode.armed ∨ (w243.core.rail 9).code = RailCode.rising ∨ (w243.core.rail 9).code = RailCode.qualifying ∨ (w243.core.rail 9).code = RailCode.good)) ∧
    (w243.core.get F.SAFE_STATUS_CLKFAIL ≠ 1) ∧
    ((w243.core.rail 9).code = RailCode.rising ∨ (w243.core.rail 9).code = RailCode.qualifying ∨ (w243.core.rail 9).code = RailCode.good) ∧
    ((w243.core.rail 9).out = RailOut.on) ∧
    (w244.core.live = true) ∧
    (w244.core.mainAlive = true) ∧
    (w244.core.owner (BitVec.ofNat 8 ↑9) = (Writer.door 2).owner) ∧
    (railIn w244.core.vaultRails 9 = false) ∧
    (∃ x, Writer.door 2 = Writer.door x ∧ (w244.core.get (F.RAIL_CFG_USED ↑9) = 1 ∧ w244.core.get (F.RAIL_CFG_CLAIM ↑9) = 1 ∧ (↑9 < 8 → w244.core.get (F.SC_MAP_COUNT ↑9) ≠ 0 ∧ w244.core.stageHot ↑9 = false) ∧ (w244.core.rail 9).lostOv = false ∧ w244.core.get F.SAFE_STATUS_VAULTLOST ≠ 1 ∧ w244.core.vault.run = none ∧ w244.core.vault.pend = none ∧ w244.core.fltLow = false ∧ w244.core.calOpen = none) ∧ (w244.core.rail 9).code = RailCode.faulted) ∧
    (w244.core.get F.SAFE_STATUS_CLKFAIL = 1) ∧
    (w245.core.live = true) ∧
    (w245.core.mainAlive = true) ∧
    (w245.core.owner (BitVec.ofNat 8 ↑9) = (Writer.door 2).owner) ∧
    (railIn w245.core.vaultRails 9 = false) ∧
    (w245.core.get (F.RAIL_CFG_USED ↑9) = 1) ∧
    (w245.core.get (F.RAIL_CFG_CLAIM ↑9) = 1) ∧
    (↑9 < 8 → w245.core.get (F.SC_MAP_COUNT ↑9) ≠ 0 ∧ w245.core.stageHot ↑9 = false) ∧
    ((w245.core.rail 9).lostOv = false) ∧
    (w245.core.get F.SAFE_STATUS_VAULTLOST ≠ 1) ∧
    (w245.core.vault.run = none) ∧
    (w245.core.vault.pend = none) ∧
    (w245.core.fltLow = false) ∧
    (w245.core.calOpen = none) ∧
    ((w245.core.rail 9).code = RailCode.off) ∧
    (w245.core.vinOk = false) ∧
    (w245.core.gateOk 9 = true) ∧
    (w245.core.get (F.RAIL_BUDGET_INRUSH ↑9) = 0) ∧
    (w245.core.get (F.RAIL_BUDGET_HEAT ↑9) = 0) ∧
    (w245.core.pwr.lowAt = none) ∧
    (w246.core.live = true) ∧
    (w246.core.mainAlive = true) ∧
    (w246.core.owner (BitVec.ofNat 8 ↑9) = (Writer.door 2).owner) ∧
    (railIn w246.core.vaultRails 9 = false) ∧
    (w246.core.get F.SAFE_STATUS_CLKFAIL ≠ 1) ∧
    ((w246.core.rail 9).code = RailCode.armed) ∧
    (w247.core.live = true) ∧
    (w247.core.mainAlive = true) ∧
    (w247.core.owner (BitVec.ofNat 8 ↑9) = (Writer.door 2).owner) ∧
    (railIn w247.core.vaultRails 9 = false) ∧
    (∃ x, Writer.door 2 = Writer.door x ∧ (w247.core.get (F.RAIL_CFG_USED ↑9) = 1 ∧ w247.core.get (F.RAIL_CFG_CLAIM ↑9) = 1 ∧ (↑9 < 8 → w247.core.get (F.SC_MAP_COUNT ↑9) ≠ 0 ∧ w247.core.stageHot ↑9 = false) ∧ (w247.core.rail 9).lostOv = false ∧ w247.core.get F.SAFE_STATUS_VAULTLOST ≠ 1 ∧ w247.core.vault.run = none ∧ w247.core.vault.pend = none ∧ w247.core.fltLow = false ∧ w247.core.calOpen = none) ∧ (w247.core.rail 9).code = RailCode.falling) ∧
    (w248.core.live = true) ∧
    (w248.core.mainAlive = true) ∧
    (w248.core.owner (BitVec.ofNat 8 ↑9) = (Writer.door 2).owner) ∧
    (railIn w248.core.vaultRails 9 = false) ∧
    (w248.core.get F.SAFE_STATUS_CLKFAIL ≠ 1) ∧
    ((w248.core.rail 9).code = RailCode.faulted) ∧
    ((w248.core.rail 9).out ≠ RailOut.on) ∧
    (w248.core.belowVoff 9 = true) ∧
    (w249.core.live = true) ∧
    (w249.core.mainAlive = true) ∧
    (w249.core.owner (BitVec.ofNat 8 ↑9) = (Writer.door 2).owner) ∧
    (railIn w249.core.vaultRails 9 = false) ∧
    (w249.core.get F.SAFE_STATUS_CLKFAIL ≠ 1) ∧
    ((w249.core.rail 9).code = RailCode.faulted) ∧
    ((w249.core.rail 9).out = RailOut.on) ∧
    (w250.core.live = true) ∧
    (w250.core.mainAlive = true) ∧
    (w250.core.owner (BitVec.ofNat 8 ↑9) = (Writer.door 2).owner) ∧
    (railIn w250.core.vaultRails 9 = false) ∧
    (w250.core.get F.SAFE_STATUS_CLKFAIL ≠ 1) ∧
    ((w250.core.rail 9).code = RailCode.faulted) ∧
    ((w250.core.rail 9).out ≠ RailOut.on) ∧
    (w250.core.belowVoff 9 = false) ∧
    (w251.core.live = true) ∧
    (w251.core.mainAlive = true) ∧
    (w251.core.owner (BitVec.ofNat 8 ↑9) = (Writer.door 2).owner) ∧
    (railIn w251.core.vaultRails 9 = false) ∧
    (w251.core.get (F.RAIL_CFG_USED ↑9) = 1) ∧
    (w251.core.get (F.RAIL_CFG_CLAIM ↑9) = 1) ∧
    (↑9 < 8 → w251.core.get (F.SC_MAP_COUNT ↑9) ≠ 0 ∧ w251.core.stageHot ↑9 = false) ∧
    ((w251.core.rail 9).lostOv = false) ∧
    (w251.core.get F.SAFE_STATUS_VAULTLOST ≠ 1) ∧
    (w251.core.vault.run = none) ∧
    (w251.core.vault.pend = none) ∧
    (w251.core.fltLow = false) ∧
    (w251.core.calOpen = none) ∧
    ((w251.core.rail 9).code = RailCode.off) ∧
    (¬(w251.core.vinOk = false ∧ w251.core.gateOk 9 = true ∧ w251.core.get (F.RAIL_BUDGET_INRUSH ↑9) = 0 ∧ w251.core.get (F.RAIL_BUDGET_HEAT ↑9) = 0)) ∧
    (w252.core.live = true) ∧
    (w252.core.mainAlive = true) ∧
    (w252.core.owner (BitVec.ofNat 8 ↑9) = (Writer.door 2).owner) ∧
    (railIn w252.core.vaultRails 9 = false) ∧
    (w252.core.get (F.RAIL_CFG_USED ↑9) = 1) ∧
    (w252.core.get (F.RAIL_CFG_CLAIM ↑9) = 1) ∧
    (↑9 < 8 → w252.core.get (F.SC_MAP_COUNT ↑9) ≠ 0 ∧ w252.core.stageHot ↑9 = false) ∧
    ((w252.core.rail 9).lostOv = false) ∧
    (w252.core.get F.SAFE_STATUS_VAULTLOST ≠ 1) ∧
    (w252.core.vault.run = none) ∧
    (w252.core.vault.pend = none) ∧
    (w252.core.fltLow = false) ∧
    (w252.core.calOpen = none) ∧
    ((w252.core.rail 9).code = RailCode.off) ∧
    (w252.core.vinOk = false) ∧
    (w252.core.gateOk 9 = true) ∧
    (w252.core.get (F.RAIL_BUDGET_INRUSH ↑9) = 0) ∧
    (w252.core.get (F.RAIL_BUDGET_HEAT ↑9) = 0) ∧
    (w252.core.pwr.lowAt ≠ none) := by
  refine ⟨?_, ?_, ?_, ?_, ?_, ?_, ?_, ?_, ?_, ?_, ?_, ?_, ?_, ?_, ?_, ?_, ?_, ?_, ?_, ?_, ?_, ?_, ?_, ?_, ?_, ?_, ?_, ?_, ?_, ?_, ?_, ?_, ?_, ?_, ?_, ?_, ?_, ?_, ?_, ?_, ?_, ?_, ?_, ?_, ?_, ?_, ?_, ?_, ?_, ?_, ?_, ?_, ?_, ?_, ?_, ?_, ?_, ?_, ?_, ?_, ?_, ?_, ?_, ?_, ?_, ?_, ?_, ?_, ?_, ?_, ?_, ?_, ?_, ?_, ?_, ?_, ?_, ?_, ?_, ?_, ?_, ?_, ?_, ?_, ?_, ?_, ?_, ?_, ?_, ?_, ?_, ?_, ?_, ?_, ?_, ?_, ?_, ?_, ?_, ?_, ?_, ?_, ?_, ?_, ?_, ?_, ?_⟩ <;> decide +kernel

/-! ### Witnesses: OwnerCommands -/

def w253 : State := st door2Dev
def w254 : State := st { door2Dev with vault := { loaded := true, run := some ⟨.normal, 0, 0, none, 0⟩, drive := some .dangerous } }
def w255 : State := st { (puts door2Dev [(F.SAFE_STATUS_CLKFAIL, 1)]) with vault := { loaded := true, drive := some .dangerous, lineLow := true } }

/-- Every hypothesis of OwnerCommands is met. -/
theorem wit_OwnerCommands :
    (w253.core.live = true) ∧
    (w253.core.mainAlive = true) ∧
    (w253.core.owner 123#8 = (Writer.door 2).owner) ∧
    (w253.core.tableFree = true) ∧
    (w253.core.get F.SAFE_STATUS_CLKFAIL = 0) ∧
    (w253.core.vault.run = none) ∧
    (w253.core.vault.pend = none) ∧
    ((48 : ℕ) < (129 : ℕ)) ∧
    (¬((70 : ℕ) ≤ (48 : ℕ) ∧ (48 : ℕ) < (80 : ℕ))) ∧
    (Owner.ofCode (3 : ℕ) = some (Owner.door (2 : Fin (4 : ℕ)))) ∧
    (w253.core.owner 48#8 = (Writer.door 2).owner ∨ w253.core.owner 48#8 = Owner.none ∧ Owner.door 2 = (Writer.door 2).owner) ∧
    (∃ x, Writer.door 1 = Writer.door x ∧ ¬w253.core.owner 123#8 = (Writer.door 1).owner) ∧
    (∃ x, Writer.door 1 = Writer.door x ∧ w253.core.owner 48#8 ≠ (Writer.door 1).owner ∧ (w253.core.owner 48#8 ≠ Owner.none ∨ Owner.door 2 ≠ (Writer.door 1).owner)) ∧
    (w254.core.live = true) ∧
    (w254.core.mainAlive = true) ∧
    (∃ x, Writer.door 2 = Writer.door x ∧ w254.core.owner 123#8 = (Writer.door 2).owner ∧ w254.core.vault.run ≠ none) ∧
    (w255.core.live = true) ∧
    (w255.core.mainAlive = true) ∧
    (w255.core.get F.SAFE_STATUS_CLKFAIL = 1) ∧
    (w255.core.owner 123#8 = (Writer.door 2).owner) ∧
    (w255.core.vault.run = none) ∧
    (w255.core.vault.pend = none) := by
  refine ⟨?_, ?_, ?_, ?_, ?_, ?_, ?_, ?_, ?_, ?_, ?_, ?_, ?_, ?_, ?_, ?_, ?_, ?_, ?_, ?_, ?_, ?_⟩ <;> decide +kernel

/-! ### Witnesses: ConverterRequests -/

def w256 : State := st { (puts door2Dev [(F.CAP_STATUS_STATE 5, 0), (F.CV_OWCTL_OWSET 5, 3), (F.CV_OWCTL_OWTHR 5, 4), (F.CV_INJRES_WORD 5, 4294967295)]) with cvs := Vector.replicate 6 { op := .scan, began := 1 } }
def w257 : State := st { (puts door2Dev [(F.CAP_STATUS_STATE 5, 2), (F.CV_OWCTL_OWSET 5, 3), (F.CV_OWCTL_OWTHR 5, 4), (F.CV_INJRES_WORD 5, 4294967295)]) with cvs := Vector.replicate 6 { op := .scan, began := 1 } }
def w258 : State := st { (puts door2Dev [(F.SYS_MODE_EFF, 2)]) with cvs := Vector.replicate 6 { op := .scan, began := 1 } }

/-- Every hypothesis of ConverterRequests is met. -/
theorem wit_ConverterRequests :
    (w256.core.live = true) ∧
    (w256.core.mainAlive = true) ∧
    (w256.core.owner (BitVec.ofNat 8 (64 + ↑5)) = (Writer.door 2).owner) ∧
    (w256.core.eff ≠ Mode.watch) ∧
    ((7 : ℕ) ≤ (11 : ℕ) ∨ (7 : ℕ) = (12 : ℕ) ∧ (4 : ℕ) ≤ ↑(5 : Fin (6 : ℕ))) ∧
    ((w256.advance 50).core.cvBusy 5 { src := TrigSrc.door 2, ch := 7, burst := false, stamp := (w256.advance 50).core.stamp, arrive := (w256.advance 50).core.arrival 5 : Trig } = false) ∧
    (∃ d, Writer.door 2 = Writer.door d ∧ w256.core.eff ≠ Mode.watch ∧ 7 < 8 ∧ w256.core.get (F.CAP_STATUS_STATE ↑5) ≠ 1 ∧ w256.core.get (F.CAP_STATUS_STATE ↑5) ≠ 2) ∧
    ((w256.core.cv 5).op = CvOp.scan) ∧
    ((w256.core.cv 5).calPend = false) ∧
    ((w256.core.cv 5).arriving = none) ∧
    ((w256.core.cv 5).pend = none) ∧
    ((w256.core.cv 5).wire = none) ∧
    (w256.core.get (F.CV_OWCTL_CH ↑5) < 8) ∧
    (1 ≤ w256.core.get (F.CV_OWCTL_OWSET ↑5)) ∧
    (w256.core.get (F.CV_OWCTL_OWSET ↑5) ≤ 255) ∧
    (1 ≤ w256.core.get (F.CV_OWCTL_OWTHR ↑5)) ∧
    (w256.core.get (F.CV_OWCTL_OWTHR ↑5) ≤ 255) ∧
    (w256.core.get (F.CAP_STATUS_STATE ↑5) = 0 ∨ w256.core.get (F.CAP_STATUS_STATE ↑5) = 3) ∧
    ((w256.core.cap 5).back = none) ∧
    (w256.core.get (F.CAP_STATUS_STATE ↑5) ≠ 2) ∧
    (w257.core.live = true) ∧
    (w257.core.mainAlive = true) ∧
    (w257.core.owner (BitVec.ofNat 8 (64 + ↑5)) = (Writer.door 2).owner) ∧
    (w257.core.eff ≠ Mode.watch) ∧
    ((7 : ℕ) < (8 : ℕ)) ∧
    (w257.core.get (F.CAP_STATUS_STATE ↑5) = 1 ∨ w257.core.get (F.CAP_STATUS_STATE ↑5) = 2) ∧
    ((w257.advance 50).core.cvBusy 5 { src := TrigSrc.door 2, ch := 7, burst := true, stamp := (w257.advance 50).core.stamp, arrive := (w257.advance 50).core.arrival 5 : Trig } = false) ∧
    (w257.core.get (F.CAP_STATUS_STATE ↑5) = 2) ∧
    (w258.core.live = true) ∧
    (w258.core.mainAlive = true) ∧
    (w258.core.owner (BitVec.ofNat 8 (64 + ↑5)) = (Writer.door 2).owner) ∧
    (∃ d, Writer.door 2 = Writer.door d ∧ w258.core.eff = Mode.watch) := by
  refine ⟨?_, ?_, ?_, ?_, ?_, ?_, ?_, ?_, ?_, ?_, ?_, ?_, ?_, ?_, ?_, ?_, ?_, ?_, ?_, ?_, ?_, ?_, ?_, ?_, ?_, ?_, ?_, ?_, ?_, ?_, ?_, ?_⟩ <;> decide +kernel

/-! ### Witnesses: BlockWrites -/

def w259 : State := st { (puts door2Dev [(F.PH_STATUS_EXCL 4, 1), (F.SC_MAP_COUNT 3, 2), (F.SC_MAP_FIRST 3, 4), (F.SC_STATUS_N1 3, 1), (F.PURSE_HEAT_HEADROOM, 60000), (F.CAP_STATUS_STATE 5, 1), (F.PWR_VIN_V, 600000), (F.PWR_HOLDV_V, 300000)]).setRail 3 { code := .off } with headMw := 60000 }
def w260 : State := st { door2Dev with arch := some ⟨1, false, 3, progDev.stamp⟩, afill := (5, 6) }
def w261 : State := st { (puts door2Dev [(F.PH_STATUS_EXCL 4, 1), (F.SC_MAP_COUNT 3, 2), (F.SC_MAP_FIRST 3, 4), (F.SC_STATUS_N1 3, 1), (F.PURSE_HEAT_HEADROOM, 60000), (F.CAP_STATUS_STATE 5, 1), (F.PWR_VIN_V, 600000), (F.PWR_HOLDV_V, 300000)]).setRail 3 { code := .good } with headMw := 60000 }

/-- Every hypothesis of BlockWrites is met. -/
theorem wit_BlockWrites :
    (w259.core.live = true) ∧
    (w259.core.mainAlive = true) ∧
    (w259.core.owner (BitVec.ofNat 8 (48 + ↑3)) = (Writer.door 2).owner) ∧
    ((w259.core.rail 3).code = RailCode.off ∨ (w259.core.rail 3).code = RailCode.unused) ∧
    (BitVec.ofNat (6 : ℕ) (32 : ℕ) ≠ BitVec.ofNat (6 : ℕ) (0 : ℕ)) ∧
    (∀ (v : Fin 6), (32#6).getLsbD ↑v = true → w259.core.owner (BitVec.ofNat 8 (64 + ↑v)) = (Writer.door 2).owner) ∧
    (w259.core.eff ≠ Mode.watch) ∧
    ((w259.advance 50).core.archRefusal 32#6 = none) ∧
    (w259.core.owner 123#8 = (Writer.door 2).owner) ∧
    (w259.core.arch = none) ∧
    (w259.core.owner 124#8 = (Writer.door 2).owner) ∧
    ((5 : ℕ) ≤ (50 : ℕ)) ∧
    ((50 : ℕ) ≤ (200 : ℕ)) ∧
    ((100 : ℕ) ≤ (480 : ℕ)) ∧
    ((480 : ℕ) ≤ (750 : ℕ)) ∧
    ((1 : ℕ) ≤ (5 : ℕ)) ∧
    (w259.core.owner (BitVec.ofNat 8 ↑9) = (Writer.door 2).owner) ∧
    (∀ (ov : Bool), w259.core.get (latchFld 9 ov) < 2) ∧
    (∀ (ov : Bool), (w259.core.rail 9).shows ov = true → w259.core.get (latchFld 9 ov) = 1) ∧
    (w260.core.live = true) ∧
    (w260.core.mainAlive = true) ∧
    (∀ (v : Fin 6), (32#6).getLsbD ↑v = true → w260.core.owner (BitVec.ofNat 8 (64 + ↑v)) = (Writer.door 2).owner) ∧
    (w260.core.eff ≠ Mode.watch) ∧
    (∃ x, Writer.door 2 = Writer.door x ∧ (w260.advance 50).core.archRefusal 32#6 = some Reason.busy) ∧
    (∃ x, Writer.door 2 = Writer.door x ∧ w260.core.owner 123#8 = (Writer.door 2).owner ∧ w260.core.arch ≠ none) ∧
    (w261.core.live = true) ∧
    (w261.core.mainAlive = true) ∧
    (∃ x, Writer.door 2 = Writer.door x ∧ w261.core.owner (BitVec.ofNat 8 (48 + ↑3)) = (Writer.door 2).owner ∧ ¬((w261.core.rail 3).code = RailCode.off ∨ (w261.core.rail 3).code = RailCode.unused)) := by
  refine ⟨?_, ?_, ?_, ?_, ?_, ?_, ?_, ?_, ?_, ?_, ?_, ?_, ?_, ?_, ?_, ?_, ?_, ?_, ?_, ?_, ?_, ?_, ?_, ?_, ?_, ?_, ?_, ?_⟩ <;> decide +kernel

/-! ### Witnesses: RegisterWrite -/

def w262 : State := st progDev
def w263 : State := st (puts door2Dev [(F.SYS_LOCK_LOCKED, 1), (F.RAIL_REACT_RISE 9, 1), (F.RAIL_REACT_UV 9, 1), (F.RAIL_REACT_PG 9, 1), (F.RAIL_EVENT_CHATTER 9, 1), (F.RAIL_EVENT_OV 9, 1)])

/-- Every hypothesis of RegisterWrite is met. -/
theorem wit_RegisterWrite :
    (w262.core.live = true) ∧
    (w262.core.mainAlive = true) ∧
    (w262.core.owner (BitVec.ofNat 8 ↑9) = (Writer.teller 3).owner) ∧
    ((1 : ℕ) ≤ (100 : ℕ)) ∧
    ((100 : ℕ) ≤ (10000 : ℕ)) ∧
    ((1 : ℕ) ≤ (976 : ℕ)) ∧
    ((976 : ℕ) ≤ (1000 : ℕ)) ∧
    ((1 : ℕ) ≤ (1 : ℕ)) ∧
    (w262.core.owner (BitVec.ofNat 8 ↑9) ≠ Owner.door 2) ∧
    (w262.core.get F.SYS_LOCK_LOCKED = 0 ∨ ∀ i < 5, w262.core.get { reg := (BitVec.ofNat 16 (1030 + 64 * ↑9)).toNat, lo := 2 * i, w := 2 : Fld } = 32768100 / 2 ^ (2 * i) % 4) ∧
    (∀ i < 9, w262.core.get { reg := (BitVec.ofNat 16 (1032 + 64 * ↑9)).toNat, lo := i, w := 1 : Fld } < 2) ∧
    (∀ f ∈ fieldsOf (65535 : ℕ), f.acc = Access.ro) ∧
    (BitVec.ofNat (16 : ℕ) (65535 : ℕ) ≠ BitVec.ofNat (16 : ℕ) (192 : ℕ)) ∧
    (w263.core.live = true) ∧
    (w263.core.mainAlive = true) ∧
    (w263.core.owner (BitVec.ofNat 8 ↑9) = Owner.door 2) ∧
    (¬((1 : ℕ) ≤ (511 : ℕ) ∧ (511 : ℕ) ≤ (10000 : ℕ) ∧ (1 : ℕ) ≤ (0 : ℕ) ∧ (0 : ℕ) ≤ (1000 : ℕ) ∧ (1 : ℕ) ≤ (0 : ℕ))) ∧
    (w263.core.owner (BitVec.ofNat 8 ↑9) = (Writer.door 2).owner) ∧
    (∃ y, Writer.door 2 = Writer.door y ∧ w263.core.get F.SYS_LOCK_LOCKED = 1 ∧ ∃ i < 5, w263.core.get { reg := (BitVec.ofNat 16 (1030 + 64 * ↑9)).toNat, lo := 2 * i, w := 2 : Fld } ≠ 511 / 2 ^ (2 * i) % 4) := by
  refine ⟨?_, ?_, ?_, ?_, ?_, ?_, ?_, ?_, ?_, ?_, ?_, ?_, ?_, ?_, ?_, ?_, ?_, ?_, ?_⟩ <;> decide +kernel

/-! ### Witnesses: DoorBlock -/

def w264 : State := st { (puts { Dev.reset with dev := .bootFail } [(F.DOOR_PMASK_MASK 2, 255), (F.DOOR_PVAL_VALUE 2, 254), (F.DOOR_PRES_READY 2, 1)]) with doors := runDev.doors.set 2 { queue := [(3, .post)], entries := [⟨1, 2, 3⟩] } }
def w265 : State := st { (puts runDev [(F.DOOR_PMASK_MASK 2, 255), (F.DOOR_PVAL_VALUE 2, 254), (F.DOOR_PRES_READY 2, 1)]) with doors := runDev.doors.set 2 {  } }
def w266 : State := st { (puts runDev [(F.DOOR_PMASK_MASK 2, 255), (F.DOOR_PVAL_VALUE 2, 254), (F.DOOR_PRES_READY 2, 1)]) with doors := runDev.doors.set 2 { sreq := some 5 } }
def w267 : State := st { (puts runDev [(F.DOOR_PMASK_MASK 2, 255), (F.DOOR_PVAL_VALUE 2, 254), (F.DOOR_PRES_READY 2, 1)]) with doors := runDev.doors.set 2 { entries := List.replicate 256 ⟨1, 2, 3⟩ } }

/-- Every hypothesis of DoorBlock is met. -/
theorem wit_DoorBlock :
    (w264.core.dev = DevState.bootFail) ∧
    (w264.core.live = true ∧ w264.core.mainAlive = true ∧ w264.core.eff ≠ Mode.watch ∧ w264.core.watchExit = false ∨ w264.core.dev = DevState.bootFail) ∧
    (∃ q ∈ (w264.core.door 2).queue, q.2 = DoorItem.post) ∧
    (w265.core.live = true) ∧
    (w265.core.mainAlive = true) ∧
    (w265.core.eff ≠ Mode.watch) ∧
    (w265.core.watchExit = false) ∧
    ((w265.core.door 2).sreq = none) ∧
    (w265.core.live = true ∧ w265.core.mainAlive = true ∧ w265.core.eff ≠ Mode.watch ∧ w265.core.watchExit = false ∨ w265.core.dev = DevState.bootFail) ∧
    (¬∃ q ∈ (w265.core.door 2).queue, q.2 = DoorItem.post) ∧
    ((w265.core.door 2).entries.length < 256) ∧
    (w266.core.live = true) ∧
    (w266.core.mainAlive = true) ∧
    (w266.core.eff ≠ Mode.watch) ∧
    (w266.core.watchExit = false) ∧
    ((w266.core.door 2).sreq ≠ none) ∧
    (w267.core.live = true ∧ w267.core.mainAlive = true ∧ w267.core.eff ≠ Mode.watch ∧ w267.core.watchExit = false ∨ w267.core.dev = DevState.bootFail) ∧
    (¬∃ q ∈ (w267.core.door 2).queue, q.2 = DoorItem.post) ∧
    (256 ≤ (w267.core.door 2).entries.length) := by
  refine ⟨?_, ?_, ?_, ?_, ?_, ?_, ?_, ?_, ?_, ?_, ?_, ?_, ?_, ?_, ?_, ?_, ?_, ?_, ?_⟩ <;> decide +kernel

/-! ### Witnesses: DoorFrames -/

def w268 : State := st { (puts runDev [(F.SYS_MODE_EFF, 0), (F.SYS_MODE_DOORWAKE, 15)]) with ports := runDev.ports.set 0 { res := 0x5A, why := 1, ok := 65535, bad := 65535, short := 4, other := 5 } }
def w269 : State := st { (puts runDev [(F.SYS_MODE_EFF, 2), (F.SYS_MODE_DOORWAKE, 15)]) with ports := runDev.ports.set 0 { res := 0x5A, why := 1, ok := 65535, bad := 65535, short := 4, other := 5 } }
def w270 : State := st { runDev with ports := runDev.ports.set 0 { wwin := some (frame0, 0x3E10000, [5]), waits := [] } }
def w271 : State := st { canDev with ports := runDev.ports.set 3 { wwin := some (frame0, 0x3E10000, [5]), waits := List.replicate 4 (frame0, .pstat, []) } }

/-- Every hypothesis of DoorFrames is met. -/
theorem wit_DoorFrames :
    (w268.core.doorsUp = true) ∧
    (0 = 2 → w268.core.muted = false) ∧
    (frame2.agrees = true) ∧
    (frame2.holds = true) ∧
    (frame2.width = BitVec.ofNat (2 : ℕ) (0 : ℕ) ∨ ↑(0 : Fin (4 : ℕ)) < (2 : ℕ) ∧ frame2.width ≠ BitVec.ofNat (2 : ℕ) (3 : ℕ)) ∧
    (0 = 2 → ∀ (i : BitVec 11), frame2.dest = some i → i.toNat = 88 + w268.core.get F.DPROT_STRAP_S) ∧
    ((w268.core.port 0).wwin = none) ∧
    (∀ (o : BitVec (6 : ℕ)), frame2.op = some o → (1 : ℕ) ≤ o.toNat ∧ o.toNat ≤ (5 : ℕ)) ∧
    (frame2.check = Check.good) ∧
    (w268.core.live = true) ∧
    (w268.core.eff ≠ Mode.watch) ∧
    (w268.core.watchExit = false) ∧
    ((1 : ℕ) ≤ (1 : ℕ)) ∧
    ((1 : ℕ) ≤ if ↑(0 : Fin (4 : ℕ)) < (2 : ℕ) then (64 : ℕ) else (14 : ℕ)) ∧
    ((1025 : ℕ) ≤ (65536 : ℕ)) ∧
    ((0 : Fin (4 : ℕ)) ≠ (2 : Fin (4 : ℕ))) ∧
    ((1 : ℕ) ≤ [BitVec.ofNat (32 : ℕ) (5 : ℕ), BitVec.ofNat (32 : ℕ) (6 : ℕ)].length) ∧
    ([BitVec.ofNat (32 : ℕ) (5 : ℕ), BitVec.ofNat (32 : ℕ) (6 : ℕ)].length ≤ if ↑(0 : Fin (4 : ℕ)) < (2 : ℕ) then (64 : ℕ) else (14 : ℕ)) ∧
    ((1024 : ℕ) + [BitVec.ofNat (32 : ℕ) (5 : ℕ), BitVec.ofNat (32 : ℕ) (6 : ℕ)].length ≤ (65536 : ℕ)) ∧
    (∀ i < [BitVec.ofNat (32 : ℕ) (5 : ℕ), BitVec.ofNat (32 : ℕ) (6 : ℕ)].length, ¬((7936 : ℕ) ≤ (1024 : ℕ) + i ∧ (1024 : ℕ) + i < (8192 : ℕ))) ∧
    ((List.filter (fun q => q.2 != DoorItem.post) (w268.core.door 0).queue).length + [5#32, 6#32].length ≤ 32) ∧
    ((List.filter (fun q => q.2 != DoorItem.post) (w268.core.door 0).queue).length ≤ 32) ∧
    (¬((1 : ℕ) ≤ (9 : ℕ) ∧ (9 : ℕ) ≤ (5 : ℕ))) ∧
    (w269.core.doorsUp = true) ∧
    (0 = 2 → w269.core.muted = false) ∧
    (0 = 2 → ∀ (i : BitVec 11), frame2.dest = some i → i.toNat = 88 + w269.core.get F.DPROT_STRAP_S) ∧
    ((w269.core.port 0).wwin = none) ∧
    (w269.core.live = true) ∧
    (w269.core.eff = Mode.watch) ∧
    ((1 : ℕ) ≤ (2 : ℕ)) ∧
    ((2 : ℕ) ≤ if ↑(0 : Fin (4 : ℕ)) < (2 : ℕ) then (64 : ℕ) else (14 : ℕ)) ∧
    ((65536 : ℕ) < (65537 : ℕ)) ∧
    (w270.core.doorsUp = true) ∧
    (0 = 2 → w270.core.muted = false) ∧
    (0 = 2 → ∀ (i : BitVec 11), frame2.dest = some i → i.toNat = 88 + w270.core.get F.DPROT_STRAP_S) ∧
    ((w270.core.port 0).wwin ≠ none) ∧
    (0 ≠ 3 ∨ (w270.core.port 0).waits.length < 4) ∧
    (w271.core.doorsUp = true) ∧
    (3 = 2 → w271.core.muted = false) ∧
    (frame0.agrees = true) ∧
    (frame0.holds = true) ∧
    (frame0.width = BitVec.ofNat (2 : ℕ) (0 : ℕ) ∨ ↑(3 : Fin (4 : ℕ)) < (2 : ℕ) ∧ frame0.width ≠ BitVec.ofNat (2 : ℕ) (3 : ℕ)) ∧
    (3 = 2 → ∀ (i : BitVec 11), frame0.dest = some i → i.toNat = 88 + w271.core.get F.DPROT_STRAP_S) ∧
    ((∀ (i : BitVec 11), frame0.dest = some i → i.toNat = w271.core.get F.DPROT_CAN_BASE * 32 + 4 * w271.core.get F.DPROT_STRAP_S) ∧ w271.core.canOn = true ∧ w271.core.can.tec ≤ 255 ∧ ∀ q ∈ w271.core.can.last, q.2 + 1000000000 < w271.at 2000000000) ∧
    (frame0.check = Check.good) ∧
    ((w271.core.port 3).wwin ≠ none) ∧
    ((3 : Fin (4 : ℕ)) = (3 : Fin (4 : ℕ))) ∧
    (4 ≤ (w271.core.port 3).waits.length) := by
  refine ⟨?_, ?_, ?_, ?_, ?_, ?_, ?_, ?_, ?_, ?_, ?_, ?_, ?_, ?_, ?_, ?_, ?_, ?_, ?_, ?_, ?_, ?_, ?_, ?_, ?_, ?_, ?_, ?_, ?_, ?_, ?_, ?_, ?_, ?_, ?_, ?_, ?_, ?_, ?_, ?_, ?_, ?_, ?_, ?_, ?_, ?_, ?_, ?_⟩ <;> decide +kernel

/-! ### Witnesses: DoorWindow -/

def w272 : State := st { runDev with owners := Vector.replicate 256 (.door 0), calKey := runDev.calKey.set 0 (some 5) }
def w273 : State := { st runDev with ledger := imageA, iram := [(0, 7), (2, 8), (65535, 9)] }
def w274 : State := st { runDev with ports := runDev.ports.set 0 { wwin := some (frame2, 0x100004, [5]) } }
def w275 : State := st { runDev with iramBad := [3] }
def w276 : State := st { runDev with calOpen := some (0, 9) }
def w277 : State := st { (puts runDev [(F.LEDG_STATUS_JREADY, 1)]) with jq := [(0, rec0)], ports := runDev.ports.set 0 { wwin := some (frame2, 0x3E10000, [5]) } }
def w278 : State := { st { runDev with ports := runDev.ports.set 0 { wwin := some (frame2, 0x200010, [5, 0xFFFFFFFF]) }, calOpen := some (0, 9) } with ledger := [(0x200010, 1), (0x200010+3, 1), (0x200010+9, 1)] }

/-- Every hypothesis of DoorWindow is met. -/
theorem wit_DoorWindow :
    (w272.core.doorsUp = true) ∧
    ((w272.core.port 0).wwin = none) ∧
    (0 = 2 → w272.core.muted = false) ∧
    (frame2.check = Check.good) ∧
    (frame2.agrees = true) ∧
    (frame2.holds = true) ∧
    (frame2.width = BitVec.ofNat (2 : ℕ) (0 : ℕ) ∨ ↑(0 : Fin (4 : ℕ)) < (2 : ℕ) ∧ frame2.width ≠ BitVec.ofNat (2 : ℕ) (3 : ℕ)) ∧
    (∀ (o : BitVec (6 : ℕ)), frame2.op = some o → (1 : ℕ) ≤ o.toNat ∧ o.toNat ≤ (5 : ℕ)) ∧
    (0 = 2 → ∀ (i : BitVec 11), frame2.dest = some i → i.toNat = 88 + w272.core.get F.DPROT_STRAP_S) ∧
    (w272.core.live = true) ∧
    (w272.core.eff ≠ Mode.watch) ∧
    (w272.core.watchExit = false) ∧
    ((1 : ℕ) ≤ (1 : ℕ)) ∧
    ((1 : ℕ) ≤ if ↑(0 : Fin (4 : ℕ)) < (2 : ℕ) then (64 : ℕ) else (13 : ℕ)) ∧
    (∀ w ∈ w272.core.ledgBad, w < 0 ∨ 4 ≤ w) ∧
    ((4 : ℕ) ≤ (2097152 : ℕ)) ∧
    (w272.core.dev = DevState.run) ∧
    (w272.core.owner 128#8 = Owner.door 0) ∧
    (w272.core.owner 123#8 = Owner.door 0) ∧
    (w272.core.vault.run = none) ∧
    (w272.core.vault.pend = none) ∧
    (∀ (n : Fin 48), (w272.core.rail n).code = RailCode.off ∨ (w272.core.rail n).code = RailCode.unused) ∧
    (w272.core.calOpen = none) ∧
    (BitVec.ofNat (32 : ℕ) (7 : ℕ) ≠ BitVec.ofNat (32 : ℕ) (1513931685 : ℕ)) ∧
    (w272.core.calKey.get 0 = some 5) ∧
    (w272.at 50 ≤ 100000005) ∧
    (7#32 ≠ ~~~if 2129904 ∈ w272.core.ledgBad then Config.badWord 2129904 (BitVec.ofNat 32 (w272.ledgerNat 2129904 4)) else BitVec.ofNat 32 (w272.ledgerNat 2129904 4)) ∧
    (w273.core.doorsUp = true) ∧
    ((w273.core.port 0).wwin = none) ∧
    (0 = 2 → w273.core.muted = false) ∧
    (0 = 2 → ∀ (i : BitVec 11), frame2.dest = some i → i.toNat = 88 + w273.core.get F.DPROT_STRAP_S) ∧
    (w273.core.live = true) ∧
    (w273.core.eff ≠ Mode.watch) ∧
    (w273.core.watchExit = false) ∧
    ((1 : ℕ) ≤ (3 : ℕ)) ∧
    ((3 : ℕ) ≤ if ↑(0 : Fin (4 : ℕ)) < (2 : ℕ) then (64 : ℕ) else (13 : ℕ)) ∧
    (∀ w ∈ w273.core.ledgBad, w < 68157440 ∨ 68157452 ≤ w) ∧
    ((68157440 : ℕ) ≤ (68157440 : ℕ)) ∧
    ((68157452 : ℕ) ≤ (68419584 : ℕ)) ∧
    (w273.core.iramBad = []) ∧
    (Ecc.uncorrectable ∉ []) ∧
    ((1 : ℕ) ≤ (2 : ℕ)) ∧
    ((2 : ℕ) ≤ if ↑(0 : Fin (4 : ℕ)) < (2 : ℕ) then (64 : ℕ) else (13 : ℕ)) ∧
    (∀ w ∈ w273.core.ledgBad, w < 68419584 ∨ 68419592 ≤ w) ∧
    ((68419584 : ℕ) ≤ (68419584 : ℕ)) ∧
    ((68419592 : ℕ) ≤ (68485120 : ℕ)) ∧
    (F.SAFE_RAMECC_CORR = F.LEDG_ECC_CORR ∧ (68419592 : ℕ) ≤ (2097152 : ℕ) ∨ F.SAFE_RAMECC_CORR = F.SAFE_RAMECC_CORR ∧ (68419584 : ℕ) ≤ (68419584 : ℕ) ∧ (68419592 : ℕ) ≤ (68485120 : ℕ)) ∧
    ((w274.core.port 0).wwin = some (frame2, 1048580, [5#32])) ∧
    (w274.core.doorsUp = true) ∧
    (w274.core.arrayFree = true) ∧
    ((w274.advance 50).core.healthDue = false) ∧
    (w274.core.arch = none) ∧
    ((w274.core.port 0).waits = []) ∧
    (∀ w ∈ w274.core.ledgBad, w + 8 ≤ 1048580 ∨ 1048580 + 4 * [5#32].length ≤ w) ∧
    ((1048580 : ℕ) + (4 : ℕ) * [BitVec.ofNat (32 : ℕ) (5 : ℕ)].length ≤ (2097152 : ℕ) ∨ (2129920 : ℕ) ≤ (1048580 : ℕ)) ∧
    ((4 : ℕ) ≠ (0 : ℕ)) ∧
    ((1048576 : ℕ) < (2097152 : ℕ)) ∧
    (1048576 ∉ w274.core.ledgBad) ∧
    ((1 : ℕ) ≤ [BitVec.ofNat (32 : ℕ) (5 : ℕ)].length) ∧
    ((1 : ℕ) ≤ [BitVec.ofNat (32 : ℕ) (5 : ℕ), BitVec.ofNat (32 : ℕ) (4294967295 : ℕ)].length) ∧
    ([BitVec.ofNat (32 : ℕ) (5 : ℕ), BitVec.ofNat (32 : ℕ) (4294967295 : ℕ)].length ≤ if ↑(0 : Fin (4 : ℕ)) < (2 : ℕ) then (64 : ℕ) else (13 : ℕ)) ∧
    ((65077248 : ℕ) + (507904 : ℕ) * ↑(0 : Fin (4 : ℕ)) ≤ (65077248 : ℕ)) ∧
    ((65077248 : ℕ) + (4 : ℕ) * [BitVec.ofNat (32 : ℕ) (5 : ℕ), BitVec.ofNat (32 : ℕ) (4294967295 : ℕ)].length ≤ (65585152 : ℕ) + (507904 : ℕ) * ↑(0 : Fin (4 : ℕ))) ∧
    ((2162688 : ℕ) ≤ (2162688 : ℕ)) ∧
    ((2162688 : ℕ) < (65077248 : ℕ)) ∧
    (w275.core.doorsUp = true) ∧
    ((w275.core.port 0).wwin = none) ∧
    (0 = 2 → w275.core.muted = false) ∧
    (0 = 2 → ∀ (i : BitVec 11), frame2.dest = some i → i.toNat = 88 + w275.core.get F.DPROT_STRAP_S) ∧
    (w275.core.live = true) ∧
    (w275.core.eff ≠ Mode.watch) ∧
    (w275.core.watchExit = false) ∧
    (∀ w ∈ w275.core.ledgBad, w < 68157448 ∨ 68157456 ≤ w) ∧
    ((68157440 : ℕ) ≤ (68157452 : ℕ)) ∧
    ((68157452 : ℕ) < (68419584 : ℕ)) ∧
    (3 ∈ w275.core.iramBad) ∧
    (w276.core.doorsUp = true) ∧
    ((w276.core.port 0).wwin = none) ∧
    (0 = 2 → w276.core.muted = false) ∧
    (0 = 2 → ∀ (i : BitVec 11), frame2.dest = some i → i.toNat = 88 + w276.core.get F.DPROT_STRAP_S) ∧
    (w276.core.live = true) ∧
    (w276.core.eff ≠ Mode.watch) ∧
    (w276.core.watchExit = false) ∧
    ((1 : ℕ) ≤ [BitVec.ofNat (32 : ℕ) (5 : ℕ), BitVec.ofNat (32 : ℕ) (6 : ℕ)].length) ∧
    ([BitVec.ofNat (32 : ℕ) (5 : ℕ), BitVec.ofNat (32 : ℕ) (6 : ℕ)].length ≤ if ↑(0 : Fin (4 : ℕ)) < (2 : ℕ) then (64 : ℕ) else (13 : ℕ)) ∧
    (w276.core.calOpen = some (0, 9) ∧ 2097152 ≤ 2097168 ∧ 2097168 + 4 * [5#32, 6#32].length ≤ 2129912) ∧
    ((w277.core.port 0).wwin = some (frame2, 65077248, [5#32])) ∧
    (w277.core.doorsUp = true) ∧
    (¬(w277.core.arrayFree = true ∧ (w277.advance 50).core.healthDue = false ∧ w277.core.arch = none)) ∧
    ((w278.core.port 0).wwin = some (frame2, 2097168, [5#32, 4294967295#32])) ∧
    (w278.core.doorsUp = true) ∧
    (w278.core.arrayFree = true) ∧
    ((w278.advance 50).core.healthDue = false) ∧
    (w278.core.arch = none) ∧
    ((w278.core.port 0).waits = []) ∧
    (∀ w ∈ w278.core.ledgBad, w + 8 ≤ 2097168 ∨ 2097168 + 4 * [5#32, 4294967295#32].length ≤ w) ∧
    ((2097152 : ℕ) ≤ (2097168 : ℕ)) ∧
    ((2097168 : ℕ) + (4 : ℕ) * [BitVec.ofNat (32 : ℕ) (5 : ℕ), BitVec.ofNat (32 : ℕ) (4294967295 : ℕ)].length ≤ (2129920 : ℕ)) ∧
    (2097160 ∉ w278.core.ledgBad) ∧
    (w276.core.calOpen = some (0, 9)) ∧
    (10000000009 ≤ w276.at 20000000000) := by
  refine ⟨?_, ?_, ?_, ?_, ?_, ?_, ?_, ?_, ?_, ?_, ?_, ?_, ?_, ?_, ?_, ?_, ?_, ?_, ?_, ?_, ?_, ?_, ?_, ?_, ?_, ?_, ?_, ?_, ?_, ?_, ?_, ?_, ?_, ?_, ?_, ?_, ?_, ?_, ?_, ?_, ?_, ?_, ?_, ?_, ?_, ?_, ?_, ?_, ?_, ?_, ?_, ?_, ?_, ?_, ?_, ?_, ?_, ?_, ?_, ?_, ?_, ?_, ?_, ?_, ?_, ?_, ?_, ?_, ?_, ?_, ?_, ?_, ?_, ?_, ?_, ?_, ?_, ?_, ?_, ?_, ?_, ?_, ?_, ?_, ?_, ?_, ?_, ?_, ?_, ?_, ?_, ?_, ?_, ?_, ?_, ?_, ?_, ?_, ?_, ?_, ?_⟩ <;> decide +kernel

/-! ### Witnesses: DoorBuses -/

def w279 : State := st { (puts runDev [(F.DPROT_CAN_EN, 1), (F.DPROT_SMB_TOEN, 1), (F.DPROT_SMB_ARAEN, 1), (F.DOOR_ACAUSE_CAUSE 2, 6), (F.DOOR_AEN_EN 2, 4), (F.DPROT_STRAP_S, 5), (F.DOOR_ACAUSE_CAUSE 3, 341)]) with can := { }, evq := [(4, ⟨1,2,3,4⟩), (5, ⟨1,2,3,4⟩)], evOvf := true, ports := Vector.replicate 4 { short := 65535, other := 3 } }
def w280 : State := st { (puts runDev [(F.DPROT_CAN_EN, 1), (F.DPROT_SMB_TOEN, 1), (F.DPROT_SMB_ARAEN, 1), (F.DOOR_ACAUSE_CAUSE 2, 6), (F.DOOR_AEN_EN 2, 4), (F.DPROT_STRAP_S, 5), (F.DOOR_ACAUSE_CAUSE 3, 341)]) with can := { out := [[1, 2], [3]] }, evq := [(4, ⟨1,2,3,4⟩), (5, ⟨1,2,3,4⟩)], pwr := { runDev.pwr with vsupLow := true } }
def w281 : State := st { (puts runDev [(F.DPROT_CAN_EN, 1), (F.DPROT_SMB_TOEN, 1), (F.DPROT_SMB_ARAEN, 1), (F.DOOR_ACAUSE_CAUSE 2, 6), (F.DOOR_AEN_EN 2, 4), (F.DPROT_STRAP_S, 5), (F.DOOR_ACAUSE_CAUSE 3, 341)]) with can := { state := 2, integ := false, tec := 250, rec_ := 130 }, evq := [(4, ⟨1,2,3,4⟩), (5, ⟨1,2,3,4⟩)], evOvf := true, ports := Vector.replicate 4 { short := 65535, other := 3 } }
def w282 : State := st { (puts runDev [(F.DPROT_CAN_EN, 1), (F.DPROT_SMB_TOEN, 1), (F.DPROT_SMB_ARAEN, 1), (F.DOOR_ACAUSE_CAUSE 2, 6), (F.DOOR_AEN_EN 2, 4), (F.DPROT_STRAP_S, 5), (F.DOOR_ACAUSE_CAUSE 3, 341)]) with can := { out := [[1, 2], [3]], tec := 256, rec_ := 120 }, evq := [(4, ⟨1,2,3,4⟩), (5, ⟨1,2,3,4⟩)], evOvf := true, ports := Vector.replicate 4 { short := 65535, other := 3 } }
def w283 : State := st (Dev.reset)

/-- Every hypothesis of DoorBuses is met. -/
theorem wit_DoorBuses :
    (w279.core.doorsUp = true) ∧
    (w279.core.muted = false) ∧
    (w279.core.get F.DPROT_SMB_TOEN = 1) ∧
    (w279.core.get (F.DOOR_ACAUSE_CAUSE 2) &&& w279.core.get (F.DOOR_AEN_EN 2) ≠ 0) ∧
    (w279.core.smbRel = false) ∧
    (w279.core.get F.DPROT_SMB_ARAEN = 1) ∧
    (w279.core.canOn = true) ∧
    (w279.core.evq = [(4, { boot := 1#32, usec := 2#48, rev := 3#32, angle := 4#16 : Stamp }), (5, { boot := 1#32, usec := 2#48, rev := 3#32, angle := 4#16 : Stamp })]) ∧
    (w279.core.can.out = []) ∧
    (w279.core.dev = DevState.boot ∨ w279.core.dev = DevState.bootFail ∨ w279.core.dev = DevState.run ∨ w279.core.dev = DevState.holdUp) ∧
    (w280.core.doorsUp = true) ∧
    (w280.core.muted = true) ∧
    (w280.core.canOn = true) ∧
    (w281.core.doorsUp = true) ∧
    (w281.core.get F.DPROT_CAN_EN = 1) ∧
    (w281.core.can.state = 2) ∧
    (w281.core.can.integ = false) ∧
    (w282.core.canOn = true) ∧
    (w282.core.muted = false) ∧
    (w282.core.can.out = [[1#8, 2#8], [3#8]]) ∧
    (¬(w283.core.dev = DevState.boot ∨ w283.core.dev = DevState.bootFail ∨ w283.core.dev = DevState.run ∨ w283.core.dev = DevState.holdUp)) := by
  refine ⟨?_, ?_, ?_, ?_, ?_, ?_, ?_, ?_, ?_, ?_, ?_, ?_, ?_, ?_, ?_, ?_, ?_, ?_, ?_, ?_, ?_⟩ <;> decide +kernel

/-! ### Witnesses: Purses -/

def w284 : State := st { ((puts runDev [(F.RAIL_BUDGET_PTO 9, 1), (F.PURSE_INCFG_CAP, 600)]).setRail 9 { code := .armed, reqAt := some 5, inrush := .waiting, inrushAmt := 7 }) with heatRes := [⟨.rail 9, 50, 0, true⟩, ⟨.arch, 50, 0, true⟩], preqs := [⟨.hold, .teller 2, 1, 4, 0, true⟩, ⟨.inrush, .rail 9, 10, 1, 0, false⟩] }
def w285 : State := st ((puts runDev [(F.RAIL_BUDGET_PTO 9, 1), (F.RAIL_BUDGET_INRUSH 9, 7), (F.PURSE_INCFG_CAP, 600)]).setRail 9 { code := .armed, reqAt := some 5 })
def w286 : State := st { (puts runDev [(F.PURSE_INCFG_CAP, 600), (F.PURSE_INCFG_RATE, 50), (F.PURSE_HEAT_HEADROOM, 1000)]) with inrushUj := 599990 }
def w287 : State := st { (puts runDev [(F.PURSE_INCFG_CAP, 600), (F.PURSE_INCFG_RATE, 50), (F.PURSE_HEAT_HEADROOM, 1000)]) with inrushUj := 599990, schedAt := some 49 }
def w288 : State := tell { (puts runDev [(F.PURSE_INCFG_CAP, 600), (F.PURSE_INCFG_RATE, 50), (F.PURSE_HEAT_HEADROOM, 1000)]) with dev := .run, holdE := 200000000, preqs := [⟨.hold, .teller 3, 10, 4, 0, true⟩] } { st := .waiting, wait := some (.spend none), pc := 7 }
def w289 : State := tell { (puts runDev [(F.PURSE_INCFG_CAP, 600), (F.PURSE_INCFG_RATE, 50), (F.PURSE_HEAT_HEADROOM, 1000)]) with dev := .holdUp, holdE := 200000000, preqs := [⟨.hold, .teller 3, 10, 4, 0, true⟩] } { st := .waiting, wait := some (.spend none), pc := 7 }
def w290 : State := tell { (puts (puts runDev [(F.PURSE_INCFG_CAP, 600), (F.PURSE_INCFG_RATE, 50), (F.PURSE_HEAT_HEADROOM, 1000)]) [(F.THERM_STATUS_LEVEL, 0)]) with heatRes := [], headMw := 1000, preqs := [⟨.heat, .teller 3, 10, 4, 0, true⟩] } { st := .waiting, wait := some (.reserve 4 none), pc := 7 }
def w291 : State := tell { (puts (puts runDev [(F.PURSE_INCFG_CAP, 600), (F.PURSE_INCFG_RATE, 50), (F.PURSE_HEAT_HEADROOM, 1000)]) [(F.THERM_STATUS_LEVEL, 2)]) with heatRes := [], headMw := 1000, preqs := [⟨.heat, .teller 3, 10, 4, 0, true⟩] } { st := .waiting, wait := some (.reserve 4 none), pc := 7 }
def w292 : State := st { (rail9 (puts (puts runDev [(F.PURSE_INCFG_CAP, 600), (F.PURSE_INCFG_RATE, 50), (F.PURSE_HEAT_HEADROOM, 1000)]) [(F.RAIL_BUDGET_INRUSH 9, 10), (F.RAIL_BUDGET_HEAT 9, 10)]) { code := .armed }) with inrushUj := 100000 }
def w293 : State := st { (puts runDev [(F.PURSE_INCFG_CAP, 600), (F.PURSE_INCFG_RATE, 50), (F.PURSE_HEAT_HEADROOM, 1000)]) with inrushUj := 100000, preqs := [⟨.inrush, .rail 9, 300, 1, 0, false⟩, ⟨.inrush, .rail 10, 10, 2, 0, false⟩] }
def w294 : State := st { (rail9 (puts (puts runDev [(F.PURSE_INCFG_CAP, 600), (F.PURSE_INCFG_RATE, 50), (F.PURSE_HEAT_HEADROOM, 1000)]) [(F.RAIL_BUDGET_INRUSH 9, 10), (F.RAIL_BUDGET_HEAT 9, 10)]) { code := .armed }) with inrushUj := 5 }
def w295 : State := st { (puts runDev [(F.PWR_HOLDV_V, 600000), (F.PWR_HOLDCFG_VFLOOR, 200), (F.PWR_HOLDCFG_CAP, 300), (F.SAFE_STATUS_MONLOST, 0)]) with dev := .holdUp, holdE := 9000000000, holdO := 0, holdShort := false, heatRes := [⟨.rail 3, 50, 0, true⟩, ⟨.arch, 50, 90000000000, true⟩] }
def w296 : State := st { (puts runDev [(F.PWR_HOLDV_V, 600000), (F.PWR_HOLDCFG_VFLOOR, 200), (F.PWR_HOLDCFG_CAP, 300), (F.SAFE_STATUS_MONLOST, 1)]) with dev := .holdUp, holdE := 9000000000, holdO := 5000000, holdShort := false, heatRes := [⟨.rail 3, 50, 0, true⟩, ⟨.arch, 50, 90000000000, true⟩] }

/-- Every hypothesis of Purses is met. -/
theorem wit_Purses :
    (w284.core.live = true) ∧
    (w284.core.mainAlive = true) ∧
    ((w284.core.rail 9).code = RailCode.armed) ∧
    ((w284.core.rail 9).reqAt = some 5) ∧
    (w284.core.grantsOk 9 = false) ∧
    ({ budget := Budget.inrush, who := PWho.rail 9, amt := 10, rank := 1, usec := 0, isNew := false : PReq } ∈ w284.core.preqs) ∧
    (∀ p ∈ w284.core.preqs, p.who = PWho.rail 9 ↔ p = { budget := Budget.inrush, who := PWho.rail 9, amt := 10, rank := 1, usec := 0, isNew := false : PReq }) ∧
    (5 + w284.core.get (F.RAIL_BUDGET_PTO ↑9) * 10000000 ≤ w284.at 90000000000) ∧
    ((w284.advance 90000000000).core.newPeriod (some w284.core.holdAt) 1000000 = true) ∧
    (w284.core.dev ≠ DevState.holdUp) ∧
    (w285.at 500 < 5 + w285.core.get (F.RAIL_BUDGET_PTO ↑9) * 10000000) ∧
    ((w285.core.rail 9).reqAt = some 5) ∧
    ((w285.advance 500).core.newPeriod (some w285.core.holdAt) 1000000 = false) ∧
    (w286.core.live = true) ∧
    (w286.core.mainAlive = true) ∧
    (w286.core.pwr.lowAt = none) ∧
    (w286.core.thCause = none) ∧
    ((w286.advance 50).core.newPeriod w286.core.schedAt 1000 = true) ∧
    (∀ (m : Fin 48), (w286.core.rail m).waitVin = false) ∧
    (∀ (m : Fin 48), (w286.core.rail m).code ≠ RailCode.armed) ∧
    (w286.core.preqs = []) ∧
    ((w287.advance 50).core.newPeriod w287.core.schedAt 1000 = false) ∧
    (w288.core.live = true) ∧
    (w288.core.mainAlive = true) ∧
    (w288.core.pwr.lowAt = none) ∧
    (w288.core.thCause = none) ∧
    ((w288.advance 50).core.newPeriod w288.core.schedAt 1000 = true) ∧
    (∀ (m : Fin 48), (w288.core.rail m).waitVin = false) ∧
    (∀ (m : Fin 48), (w288.core.rail m).code ≠ RailCode.armed) ∧
    ((w288.core.teller 3).st = TRun.waiting) ∧
    ((w288.core.teller 3).step = false) ∧
    ((w288.core.teller 3).wait = some (Wait.spend none)) ∧
    (w288.core.preqs = [{ budget := Budget.hold, who := PWho.teller 3, amt := 10, rank := 4, usec := 0, isNew := true : PReq }]) ∧
    (w288.core.dev ≠ DevState.holdUp ∨ w288.core.holdE / 1000000 - 20 < 10) ∧
    (w289.core.live = true) ∧
    (w289.core.mainAlive = true) ∧
    (w289.core.pwr.lowAt = none) ∧
    (w289.core.thCause = none) ∧
    ((w289.advance 50).core.newPeriod w289.core.schedAt 1000 = true) ∧
    (∀ (m : Fin 48), (w289.core.rail m).waitVin = false) ∧
    (∀ (m : Fin 48), (w289.core.rail m).code ≠ RailCode.armed) ∧
    ((w289.core.teller 3).st = TRun.waiting) ∧
    ((w289.core.teller 3).step = false) ∧
    ((w289.core.teller 3).wait = some (Wait.spend none)) ∧
    (w289.core.preqs = [{ budget := Budget.hold, who := PWho.teller 3, amt := 10, rank := 4, usec := 0, isNew := true : PReq }]) ∧
    (w289.core.dev = DevState.holdUp) ∧
    (w289.core.get F.SAFE_STATUS_MONLOST ≠ 1) ∧
    (10 ≤ w289.core.holdE / 1000000 - 20 - (w289.core.holdO + 999999) / 1000000) ∧
    (w290.core.live = true) ∧
    (w290.core.mainAlive = true) ∧
    (w290.core.pwr.lowAt = none) ∧
    (w290.core.thCause = none) ∧
    ((w290.advance 50).core.newPeriod w290.core.schedAt 1000 = true) ∧
    (∀ (m : Fin 48), (w290.core.rail m).waitVin = false) ∧
    (∀ (m : Fin 48), (w290.core.rail m).code ≠ RailCode.armed) ∧
    ((w290.core.teller 3).st = TRun.waiting) ∧
    ((w290.core.teller 3).step = false) ∧
    ((w290.core.teller 3).wait = some (Wait.reserve 4 none)) ∧
    (w290.core.preqs = [{ budget := Budget.heat, who := PWho.teller 3, amt := 10, rank := 4, usec := 0, isNew := true : PReq }]) ∧
    (w290.core.get F.THERM_STATUS_LEVEL = 0) ∧
    ((List.filter HRes.ofTeller w290.core.heatRes).length < 255) ∧
    (10 + (List.map (fun x => x.amt) (List.filter (fun x => x.young) (List.map (fun h => { who := h.who, amt := h.amt, since := h.since, young := !decide (h.since + w290.core.get F.THERM_CFG_SETTLE * 1000000000 ≤ w290.at 50) : HRes }) w290.core.heatRes))).sum ≤ w290.core.headMw) ∧
    ((1 : ℕ) ≤ (1 : ℕ)) ∧
    ((1 : ℕ) ≤ (255 : ℕ)) ∧
    (¬∃ x ∈ w290.core.heatRes, ∃ m, x.who = HWho.teller m 1) ∧
    (∀ (j : ℕ), 1 ≤ j → j < 1 → ∃ x ∈ w290.core.heatRes, ∃ m, x.who = HWho.teller m j) ∧
    (w291.core.live = true) ∧
    (w291.core.mainAlive = true) ∧
    (w291.core.pwr.lowAt = none) ∧
    (w291.core.thCause = none) ∧
    ((w291.advance 50).core.newPeriod w291.core.schedAt 1000 = true) ∧
    (∀ (m : Fin 48), (w291.core.rail m).waitVin = false) ∧
    (∀ (m : Fin 48), (w291.core.rail m).code ≠ RailCode.armed) ∧
    ((w291.core.teller 3).st = TRun.waiting) ∧
    ((w291.core.teller 3).step = false) ∧
    ((w291.core.teller 3).wait = some (Wait.reserve 4 none)) ∧
    (w291.core.preqs = [{ budget := Budget.heat, who := PWho.teller 3, amt := 10, rank := 4, usec := 0, isNew := true : PReq }]) ∧
    (1 ≤ w291.core.get F.THERM_STATUS_LEVEL) ∧
    (w292.core.live = true) ∧
    (w292.core.mainAlive = true) ∧
    (w292.core.pwr.lowAt = none) ∧
    (w292.core.thCause = none) ∧
    ((w292.advance 50).core.newPeriod w292.core.schedAt 1000 = true) ∧
    (∀ (m : Fin 48), (w292.core.rail m).waitVin = false) ∧
    (∀ (m : Fin 48), m ≠ 9 → (w292.core.rail m).code ≠ RailCode.armed) ∧
    ((w292.core.rail 9).code = RailCode.armed) ∧
    ((w292.core.rail 9).inrush = Grant.none) ∧
    ((w292.core.rail 9).heat = Grant.none) ∧
    (w292.core.gateOk 9 = true) ∧
    (w292.core.get (F.RAIL_BUDGET_INRUSH ↑9) = 10) ∧
    ((1 : ℕ) ≤ (10 : ℕ)) ∧
    (10 ≤ w292.core.get F.PURSE_INCFG_CAP) ∧
    (w292.core.get (F.RAIL_BUDGET_HEAT ↑9) ≠ 0) ∧
    (w292.core.preqs = []) ∧
    (10000 ≤ min (w292.core.get F.PURSE_INCFG_CAP * 1000) (w292.core.inrushUj + w292.core.get F.PURSE_INCFG_RATE)) ∧
    (w293.core.live = true) ∧
    (w293.core.mainAlive = true) ∧
    (w293.core.pwr.lowAt = none) ∧
    (w293.core.thCause = none) ∧
    ((w293.advance 50).core.newPeriod w293.core.schedAt 1000 = true) ∧
    (∀ (m : Fin 48), (w293.core.rail m).waitVin = false) ∧
    (∀ (m : Fin 48), (w293.core.rail m).code ≠ RailCode.armed) ∧
    (w293.core.preqs = [{ budget := Budget.inrush, who := PWho.rail 9, amt := 300, rank := 1, usec := 0, isNew := false : PReq }, { budget := Budget.inrush, who := PWho.rail 10, amt := 10, rank := 2, usec := 0, isNew := false : PReq }]) ∧
    ({ budget := Budget.inrush, who := PWho.rail (9 : Fin (48 : ℕ)), amt := (300 : ℕ), rank := (1 : ℕ), usec := (0 : ℕ), isNew := false : PReq }.before { budget := Budget.inrush, who := PWho.rail (10 : Fin (48 : ℕ)), amt := (10 : ℕ), rank := (2 : ℕ), usec := (0 : ℕ), isNew := false : PReq } = true) ∧
    (min (w293.core.get F.PURSE_INCFG_CAP * 1000) (w293.core.inrushUj + w293.core.get F.PURSE_INCFG_RATE) < 300000) ∧
    (w294.core.live = true) ∧
    (w294.core.mainAlive = true) ∧
    (w294.core.pwr.lowAt = none) ∧
    (w294.core.thCause = none) ∧
    ((w294.advance 50).core.newPeriod w294.core.schedAt 1000 = true) ∧
    (∀ (m : Fin 48), (w294.core.rail m).waitVin = false) ∧
    (∀ (m : Fin 48), m ≠ 9 → (w294.core.rail m).code ≠ RailCode.armed) ∧
    ((w294.core.rail 9).code = RailCode.armed) ∧
    ((w294.core.rail 9).inrush = Grant.none) ∧
    ((w294.core.rail 9).heat = Grant.none) ∧
    (w294.core.gateOk 9 = true) ∧
    (w294.core.get (F.RAIL_BUDGET_INRUSH ↑9) = 10) ∧
    (10 ≤ w294.core.get F.PURSE_INCFG_CAP) ∧
    (w294.core.get (F.RAIL_BUDGET_HEAT ↑9) ≠ 0) ∧
    (w294.core.preqs = []) ∧
    (min (w294.core.get F.PURSE_INCFG_CAP * 1000) (w294.core.inrushUj + w294.core.get F.PURSE_INCFG_RATE) < 10000) ∧
    (w295.core.live = true) ∧
    (w295.core.mainAlive = true) ∧
    ((w295.advance 90000000000).core.newPeriod (some w295.core.holdAt) 1000000 = true) ∧
    (w295.core.dev = DevState.holdUp) ∧
    (¬(w295.core.get F.SAFE_STATUS_MONLOST = 1 ∨ w295.core.get F.PWR_HOLDCFG_CAP * (w295.core.get F.PWR_HOLDV_V * w295.core.get F.PWR_HOLDV_V - w295.core.get F.PWR_HOLDCFG_VFLOOR * 1000 * (w295.core.get F.PWR_HOLDCFG_VFLOOR * 1000)) / 20000 / 1000000 ≤ 20 + (w295.core.holdO - (w295.core.holdE - w295.core.get F.PWR_HOLDCFG_CAP * (w295.core.get F.PWR_HOLDV_V * w295.core.get F.PWR_HOLDV_V - w295.core.get F.PWR_HOLDCFG_VFLOOR * 1000 * (w295.core.get F.PWR_HOLDCFG_VFLOOR * 1000)) / 20000 - w295.core.get F.PURSE_HOLDCFG_BASE * (w295.at 90000000000 - w295.core.holdAt) / 1000) + 999999) / 1000000) ∨ w295.core.holdO - (w295.core.holdE - w295.core.get F.PWR_HOLDCFG_CAP * (w295.core.get F.PWR_HOLDV_V * w295.core.get F.PWR_HOLDV_V - w295.core.get F.PWR_HOLDCFG_VFLOOR * 1000 * (w295.core.get F.PWR_HOLDCFG_VFLOOR * 1000)) / 20000 - w295.core.get F.PURSE_HOLDCFG_BASE * (w295.at 90000000000 - w295.core.holdAt) / 1000) = 0 ∨ w295.core.holdShort = true) ∧
    (w296.core.live = true) ∧
    (w296.core.mainAlive = true) ∧
    ((w296.advance 90000000000).core.newPeriod (some w296.core.holdAt) 1000000 = true) ∧
    (w296.core.dev = DevState.holdUp) ∧
    (w296.core.get F.SAFE_STATUS_MONLOST = 1 ∨ w296.core.get F.PWR_HOLDCFG_CAP * (w296.core.get F.PWR_HOLDV_V * w296.core.get F.PWR_HOLDV_V - w296.core.get F.PWR_HOLDCFG_VFLOOR * 1000 * (w296.core.get F.PWR_HOLDCFG_VFLOOR * 1000)) / 20000 / 1000000 ≤ 20 + (w296.core.holdO - (w296.core.holdE - w296.core.get F.PWR_HOLDCFG_CAP * (w296.core.get F.PWR_HOLDV_V * w296.core.get F.PWR_HOLDV_V - w296.core.get F.PWR_HOLDCFG_VFLOOR * 1000 * (w296.core.get F.PWR_HOLDCFG_VFLOOR * 1000)) / 20000 - w296.core.get F.PURSE_HOLDCFG_BASE * (w296.at 90000000000 - w296.core.holdAt) / 1000) + 999999) / 1000000) ∧
    (w296.core.holdO - (w296.core.holdE - w296.core.get F.PWR_HOLDCFG_CAP * (w296.core.get F.PWR_HOLDV_V * w296.core.get F.PWR_HOLDV_V - w296.core.get F.PWR_HOLDCFG_VFLOOR * 1000 * (w296.core.get F.PWR_HOLDCFG_VFLOOR * 1000)) / 20000 - w296.core.get F.PURSE_HOLDCFG_BASE * (w296.at 90000000000 - w296.core.holdAt) / 1000) ≠ 0) ∧
    (w296.core.holdShort = false) ∧
    (w285.core.live = true) ∧
    (w285.core.mainAlive = true) ∧
    ((w285.core.rail 9).code = RailCode.armed) ∧
    (w285.core.grantsOk 9 = false) ∧
    (∀ p ∈ w285.core.preqs, p.who ≠ PWho.rail 9) ∧
    (5 + w285.core.get (F.RAIL_BUDGET_PTO ↑9) * 10000000 ≤ w285.at 900000000) := by
  refine ⟨?_, ?_, ?_, ?_, ?_, ?_, ?_, ?_, ?_, ?_, ?_, ?_, ?_, ?_, ?_, ?_, ?_, ?_, ?_, ?_, ?_, ?_, ?_, ?_, ?_, ?_, ?_, ?_, ?_, ?_, ?_, ?_, ?_, ?_, ?_, ?_, ?_, ?_, ?_, ?_, ?_, ?_, ?_, ?_, ?_, ?_, ?_, ?_, ?_, ?_, ?_, ?_, ?_, ?_, ?_, ?_, ?_, ?_, ?_, ?_, ?_, ?_, ?_, ?_, ?_, ?_, ?_, ?_, ?_, ?_, ?_, ?_, ?_, ?_, ?_, ?_, ?_, ?_, ?_, ?_, ?_, ?_, ?_, ?_, ?_, ?_, ?_, ?_, ?_, ?_, ?_, ?_, ?_, ?_, ?_, ?_, ?_, ?_, ?_, ?_, ?_, ?_, ?_, ?_, ?_, ?_, ?_, ?_, ?_, ?_, ?_, ?_, ?_, ?_, ?_, ?_, ?_, ?_, ?_, ?_, ?_, ?_, ?_, ?_, ?_, ?_, ?_, ?_, ?_, ?_, ?_, ?_, ?_, ?_, ?_, ?_, ?_, ?_, ?_⟩ <;> decide +kernel

/-! ### Witnesses: Thermal -/

def w297 : State := st { runDev with checks := { readAt := some 49 } }
def w298 : State := st (puts (bootDev 3) [])
def w299 : State := st (puts runDev [])
def w300 : State := st { (puts runDev [(F.THERM_STATUS_LEVEL, 0)]) with thUp := List.replicate 21 8, thDown := List.replicate 21 8, thFloors := [], thTrip := (List.replicate 21 false).set 0 false }
def w301 : State := st { (puts runDev [(F.THERM_STATUS_LEVEL, 0)]) with thUp := List.replicate 21 8, thDown := List.replicate 21 8, thFloors := [], thTrip := (List.replicate 21 false).set 0 true }
def w302 : State := st { (puts runDev [(F.THERM_STATUS_LEVEL, 0)]) with thCause := some (9, 1), thFloors := [], thTrip := (List.replicate 21 false).set 9 true }
def w303 : State := st { (puts door2Dev [(F.THERM_SUBST_TS, 1), (F.THERM_SUBST_TSNS, 1), (F.THERM_STATUS_LEVEL, 4)]) with thFloors := [(0, 3), (8, 4), (1, 2)], thTrip := (List.replicate 21 false).set 1 true }
def w304 : State := st { (puts runDev [(F.THERM_SENSOR_T 0, 600), (F.THERM_SENSOR_T 1, 65500)]) with checks := { grad := 8 } }

/-- Every hypothesis of Thermal is met. -/
theorem wit_Thermal :
    ((w297.advance 50).core.newPeriod w297.core.checks.readAt 1000000 = false) ∧
    ((w298.advance 50).core.newPeriod w298.core.checks.readAt 1000000 = true) ∧
    (w298.core.dev = DevState.boot ∨ w298.core.dev = DevState.bootFail) ∧
    ((w299.advance 50).core.newPeriod w299.core.checks.readAt 1000000 = true) ∧
    (w299.core.live = true) ∧
    (∀ i < (4 : ℕ), ([((250 : ℤ), false), ((251 : ℤ), false), ((252 : ℤ), false), ((900 : ℤ), false)].getD i ((0 : ℤ), true)).2 = false ∧ (-550 : ℤ) ≤ ([((250 : ℤ), false), ((251 : ℤ), false), ((252 : ℤ), false), ((900 : ℤ), false)].getD i ((0 : ℤ), true)).1 ∧ ([((250 : ℤ), false), ((251 : ℤ), false), ((252 : ℤ), false), ((900 : ℤ), false)].getD i ((0 : ℤ), true)).1 ≤ (2000 : ℤ)) ∧
    (∀ i < (4 : ℕ), (w299.core.get F.THERM_CFG_NTCEN).testBit i = true → ([((250 : ℤ), false), ((251 : ℤ), false), ((252 : ℤ), false), ((900 : ℤ), false)].getD i ((0 : ℤ), true)).2 = false ∧ (-550 : ℤ) ≤ ([((250 : ℤ), false), ((251 : ℤ), false), ((252 : ℤ), false), ((900 : ℤ), false)].getD i ((0 : ℤ), true)).1 ∧ ([((250 : ℤ), false), ((251 : ℤ), false), ((252 : ℤ), false), ((900 : ℤ), false)].getD i ((0 : ℤ), true)).1 ≤ (2000 : ℤ)) ∧
    (∀ (p : Fin (24 : ℕ)), (w299.core.ctlOf p ≠ none ∧ ∀ q ∈ w299.core.probing, q.path ≠ Path.tsns p) → (1000 : ℤ) ≤ (↑(adc24.getD (↑p : ℕ) (0 : ℕ)) : ℤ) ∧ (↑(adc24.getD (↑p : ℕ) (0 : ℕ)) : ℤ) ≤ (25000 : ℤ) ∧ (-550 : ℤ) ≤ ((20 : ℤ) * ((↑(adc24.getD (↑p : ℕ) (0 : ℕ)) : ℤ) - (10 : ℤ) * (↑(w299.core.get (F.PH_TCFG_TZERO (↑p : ℕ))) : ℤ)) + (↑(w299.core.get (F.PH_TCFG_TGAIN (↑p : ℕ))) : ℤ)) / ((2 : ℤ) * (↑(w299.core.get (F.PH_TCFG_TGAIN (↑p : ℕ))) : ℤ)) ∧ ((20 : ℤ) * ((↑(adc24.getD (↑p : ℕ) (0 : ℕ)) : ℤ) - (10 : ℤ) * (↑(w299.core.get (F.PH_TCFG_TZERO (↑p : ℕ))) : ℤ)) + (↑(w299.core.get (F.PH_TCFG_TGAIN (↑p : ℕ))) : ℤ)) / ((2 : ℤ) * (↑(w299.core.get (F.PH_TCFG_TGAIN (↑p : ℕ))) : ℤ)) ≤ (2000 : ℤ)) ∧
    ((0 : ℕ) < (4 : ℕ)) ∧
    (¬(([((250 : ℤ), true), ((251 : ℤ), false), ((252 : ℤ), false), ((900 : ℤ), false)].getD (0 : ℕ) ((0 : ℤ), true)).2 = false ∧ (-550 : ℤ) ≤ ([((250 : ℤ), true), ((251 : ℤ), false), ((252 : ℤ), false), ((900 : ℤ), false)].getD (0 : ℕ) ((0 : ℤ), true)).1 ∧ ([((250 : ℤ), true), ((251 : ℤ), false), ((252 : ℤ), false), ((900 : ℤ), false)].getD (0 : ℕ) ((0 : ℤ), true)).1 ≤ (2000 : ℤ))) ∧
    (w299.core.substituted 0 = false) ∧
    (w299.core.get F.THERM_SUBST_TS < 16) ∧
    (w299.core.get F.THERM_SUBST_NTC < 16) ∧
    (∀ f ∈ w299.core.thFloors, f.2 ≤ 7) ∧
    (w300.core.live = true) ∧
    (w300.core.thUp.getD (↑0 * 7 + ↑0) 0 = 8) ∧
    (w300.core.thTrip.getD (↑0 * 7 + ↑0) false = false) ∧
    (∀ i < 21, (w300.core.thTrip.set (↑0 * 7 + ↑0) true).getD i false = true → i % 7 + 1 ≤ 1) ∧
    (1 = 0 ∨ ∃ i < 21, (w300.core.thTrip.set (↑0 * 7 + ↑0) true).getD i false = true ∧ i % 7 + 1 = 1) ∧
    ((0 : ℕ) ≤ (7 : ℕ)) ∧
    (∀ f ∈ w300.core.thFloors, f.2 ≤ 0) ∧
    (0 = 0 ∨ ∃ f ∈ w300.core.thFloors, f.2 = 0) ∧
    (w301.core.live = true) ∧
    (w301.core.thDown.getD (↑0 * 7 + ↑0) 0 = 8) ∧
    (w301.core.thTrip.getD (↑0 * 7 + ↑0) false = true) ∧
    (∀ i < 21, (w301.core.thTrip.set (↑0 * 7 + ↑0) false).getD i false = true → i % 7 + 1 ≤ 0) ∧
    (0 = 0 ∨ ∃ i < 21, (w301.core.thTrip.set (↑0 * 7 + ↑0) false).getD i false = true ∧ i % 7 + 1 = 0) ∧
    (∀ f ∈ w301.core.thFloors, f.2 ≤ 0) ∧
    (0 = 0 ∨ ∃ f ∈ w301.core.thFloors, f.2 = 0) ∧
    (w302.core.live = true) ∧
    (w302.core.mainAlive = true) ∧
    ((w302.advance 50).core.newPeriod w302.core.schedAt 1000 = true) ∧
    (w302.core.thCause = some (9, 1)) ∧
    (∀ i < 21, w302.core.thTrip.getD i false = true → i % 7 + 1 ≤ 3) ∧
    (3 = 0 ∨ ∃ i < 21, w302.core.thTrip.getD i false = true ∧ i % 7 + 1 = 3) ∧
    (∀ f ∈ w302.core.thFloors, f.2 ≤ 0) ∧
    (0 = 0 ∨ ∃ f ∈ w302.core.thFloors, f.2 = 0) ∧
    (w302.core.preqs = []) ∧
    (w302.core.pwr.lowAt = none) ∧
    (∀ (n : Fin 48), (w302.core.rail n).waitVin = false ∧ (w302.core.rail n).code ≠ RailCode.armed) ∧
    (w303.core.live = true) ∧
    (w303.core.mainAlive = true) ∧
    (w303.core.owner 122#8 = (Writer.door 2).owner) ∧
    (w303.core.get F.THERM_SUBST_TS < 16) ∧
    (w303.core.get F.THERM_SUBST_NTC < 16) ∧
    (w304.core.live = true) ∧
    (w304.core.checks.grad = 8) ∧
    (w304.core.substituted 0 = false) ∧
    ((1 : ℕ) < (4 : ℕ)) ∧
    (w304.core.substituted 1 = false) ∧
    (∀ i < 4, w304.core.substituted i = false → i ≠ (0 : ℕ) → signed (16 : ℕ) (w304.core.get (F.THERM_SENSOR_T i)) < signed (16 : ℕ) (w304.core.get (F.THERM_SENSOR_T (0 : ℕ)))) ∧
    (∀ i < 4, w304.core.substituted i = false → signed (16 : ℕ) (w304.core.get (F.THERM_SENSOR_T (1 : ℕ))) ≤ signed (16 : ℕ) (w304.core.get (F.THERM_SENSOR_T i))) := by
  refine ⟨?_, ?_, ?_, ?_, ?_, ?_, ?_, ?_, ?_, ?_, ?_, ?_, ?_, ?_, ?_, ?_, ?_, ?_, ?_, ?_, ?_, ?_, ?_, ?_, ?_, ?_, ?_, ?_, ?_, ?_, ?_, ?_, ?_, ?_, ?_, ?_, ?_, ?_, ?_, ?_, ?_, ?_, ?_, ?_, ?_, ?_, ?_, ?_, ?_, ?_, ?_, ?_⟩ <;> decide +kernel

/-! ### Witnesses: TableRuns -/

def w305 : State := st { (puts runDev [(F.RAIL_CFG_USED 9, 1), (F.RAIL_CFG_USED 10, 1), (F.RSTO_CFG_CLAIM 1, 1), (F.RSTO_STATUS_STRETCHING, 2)]) with vault := { loaded := true, entries := [0, 1, 2, 1], run := some ⟨.normal, 3, 0, some 5, 0⟩, steps := [⟨1536, .off, 0, false, 3, 9⟩] } }
def w306 : State := st { runDev with vault := { loaded := true, entries := [0, 1, 2, 1], pend := some ⟨.normal, 0x301, 9, true⟩, run := some ⟨.normal, 3, 0, none, 0⟩, drive := some .bootFail } }
def w307 : State := st { (puts runDev [(F.SHUT_CFG_FLTVIN, 0), (F.MD_CODE_TARGET 3, 5), (F.SC_MRGN_OFS 2, 4)]) with vault := { loaded := true, entries := [0, 1, 2, 1], pend := some ⟨.normal, 0x301, 9, false⟩ }, rails := (runDev.rails.set 9 { code := .armed, inrush := .granted, inrushAmt := 3 }).set 10 { code := .good, out := .on }, preqs := [⟨.hold, .teller 2, 1, 4, 0, true⟩, ⟨.inrush, .rail 9, 10, 1, 0, false⟩] }
def w308 : State := st { (puts runDev [(F.RAIL_CFG_USED 9, 1), (F.RAIL_CFG_USED 10, 1), (F.RSTO_CFG_CLAIM 1, 1), (F.RSTO_STATUS_STRETCHING, 2)]) with vault := { loaded := true, entries := [0, 1, 2, 1], run := some ⟨.normal, 3, 0, none, 0⟩, steps := [⟨1536, .off, 0, true, 0, 9⟩] }, rails := (runDev.rails.set 9 { code := .armed, inrush := .granted, inrushAmt := 3 }).set 10 { code := .good, out := .on } }
def w309 : State := st { (puts runDev [(F.RAIL_CFG_USED 9, 1), (F.RAIL_CFG_USED 10, 1), (F.RSTO_CFG_CLAIM 1, 1), (F.RSTO_STATUS_STRETCHING, 2)]) with vault := { loaded := true, entries := [0, 1, 2, 1], run := some ⟨.normal, 3, 0, none, 0⟩, steps := [⟨0, .rsto, 7, true, 0, 0⟩], rsto := 8 } }
def w310 : State := st { (puts runDev [(F.MD_CODE_VAULT 3, 1)]) with vault := { loaded := true, entries := [0, 1, 2, 1], run := some ⟨.normal, 3, 0, none, 0⟩, steps := [⟨0, .finish, 0, true, 0, 0⟩] }, dev := .run }
def w311 : State := st { (puts runDev [(F.MD_CODE_VAULT 3, 1)]) with vault := { loaded := true, entries := [0, 1, 2, 1], run := some ⟨.normal, 3, 0, none, 0⟩, steps := [⟨0, .finish, 0, true, 0, 0⟩] }, dev := .holdUp }
def w312 : State := st { (puts (puts runDev [(F.RAIL_CFG_USED 9, 1), (F.RAIL_CFG_USED 10, 1), (F.RSTO_CFG_CLAIM 1, 1), (F.RSTO_STATUS_STRETCHING, 2)]) [(F.SAFE_STATUS_CLKFAIL, 1)]) with vault := { loaded := true, entries := [0, 1, 2, 1], run := some ⟨.normal, 3, 0, some 5, 0⟩, steps := [⟨1536, .off, 0, true, 0, 9⟩] }, rails := runDev.rails.map (fun r => { r with code := .falling, result := some 100 }) }
def w313 : State := st { (puts (puts runDev [(F.RAIL_CFG_USED 9, 1), (F.RAIL_CFG_USED 10, 1), (F.RSTO_CFG_CLAIM 1, 1), (F.RSTO_STATUS_STRETCHING, 2)]) [(F.SAFE_STATUS_CLKFAIL, 0)]) with vault := { loaded := true, entries := [0, 1, 2, 1], run := some ⟨.normal, 3, 0, some 5, 0⟩, steps := [⟨1536, .off, 0, true, 0, 9⟩] }, rails := runDev.rails.map (fun r => { r with code := .falling, result := some 900000 }) }
def w314 : State := st { runDev with vault := { loaded := true, entries := [0, 1, 2, 1], lineLow := true, lineSeen := true } }
def w315 : State := st { (puts runDev [(F.MD_CODE_VAULT 3, 1)]) with vault := { loaded := true, entries := [0, 1, 2, 1], run := some ⟨.normal, 3, 0, none, 0⟩, reboot := true, steps := [⟨0, .finish, 0, true, 0, 0⟩] }, jq := [(0, rec0)] }

/-- Every hypothesis of TableRuns is met. -/
theorem wit_TableRuns :
    (w305.core.vault.run = some { entry := Entry.normal, d := 3, step := 0, acted := some 5, stuck := 0 : TRunning }) ∧
    (w305.core.vault.pend = none) ∧
    ((w305.core.vault.stepOf 0).voff = false ∧ 5 + (w305.core.vault.stepOf 0).time * 1000 ≤ w305.at 50000 ∨ (w305.core.vault.stepOf 0).voff = true ∧ ¬(w305.core.mainAlive = false ∨ w305.core.get F.SAFE_STATUS_CLKFAIL = 1) ∧ ∀ (n : Fin 48), BitVec.getLsbD (w305.core.vault.stepOf 0).mask ↑n = true → w305.core.get (F.RAIL_CFG_USED ↑n) = 1 → (w305.core.rail n).result.getD 0 < w305.core.get (F.RAIL_VOFF_VOFF ↑n) ∨ (w305.core.rail n).code = RailCode.off ∨ (w305.core.rail n).code = RailCode.unused) ∧
    (w305.at 50000 < 5 + (w305.core.vault.stepOf 0).limit * 980000) ∧
    (w305.core.vault.loaded = true) ∧
    (w305.core.vault.fallback = false) ∧
    (w305.core.dev ≠ DevState.unpowered) ∧
    (w305.core.dev ≠ DevState.powerHold) ∧
    (w305.core.vault.drive = none) ∧
    (w305.core.vault.lineSeen = false) ∧
    (w306.core.vault.pend = some { entry := Entry.normal, cause := 769, d := 9, jump := true : TPending }) ∧
    (w306.core.vault.run ≠ none) ∧
    (w306.core.vault.drive.isSome = true) ∧
    (w306.core.vault.lineSeen = false) ∧
    (w307.core.vault.pend = some { entry := Entry.normal, cause := 769, d := 9, jump := false : TPending }) ∧
    (w307.core.vault.run = none) ∧
    (w308.core.vault.run = some { entry := Entry.normal, d := 3, step := 0, acted := none, stuck := 0 : TRunning }) ∧
    (w308.core.vault.pend = none) ∧
    ((w308.core.vault.stepOf 0).act = StepAct.off ∨ (w308.core.vault.stepOf 0).act = StepAct.foff) ∧
    (w309.core.vault.run = some { entry := Entry.normal, d := 3, step := 0, acted := none, stuck := 0 : TRunning }) ∧
    (w309.core.vault.pend = none) ∧
    ((w309.core.vault.stepOf 0).act = StepAct.rsto) ∧
    (w310.core.vault.run = some { entry := Entry.normal, d := 3, step := 0, acted := none, stuck := 0 : TRunning }) ∧
    (w310.core.vault.pend = none) ∧
    ((w310.core.vault.stepOf 0).act = StepAct.finish) ∧
    (w310.core.dev = DevState.run) ∧
    (w310.core.vault.thermal = none) ∧
    (w310.core.vault.reboot = false) ∧
    (w311.core.vault.run = some { entry := Entry.normal, d := 3, step := 0, acted := none, stuck := 0 : TRunning }) ∧
    (w311.core.vault.pend = none) ∧
    ((w311.core.vault.stepOf 0).act = StepAct.finish) ∧
    (w311.core.dev = DevState.holdUp) ∧
    (w311.core.vault.thermal = none) ∧
    (w312.core.vault.run = some { entry := Entry.normal, d := 3, step := 0, acted := some 5, stuck := 0 : TRunning }) ∧
    (w312.core.vault.pend = none) ∧
    ((w312.core.vault.stepOf 0).voff = true) ∧
    (5 + (w312.core.vault.stepOf 0).limit * 1000000 ≤ w312.at 90000000) ∧
    (∀ (n : Fin 48), (0#48).getLsbD ↑n = true ↔ BitVec.getLsbD (w312.core.vault.stepOf 0).mask ↑n = true ∧ w312.core.get (F.RAIL_CFG_USED ↑n) = 1 ∧ ¬((w312.core.rail n).result.getD 0 < w312.core.get (F.RAIL_VOFF_VOFF ↑n) ∨ (w312.core.rail n).code = RailCode.off ∨ (w312.core.rail n).code = RailCode.unused)) ∧
    (w312.core.mainAlive = false ∨ w312.core.get F.SAFE_STATUS_CLKFAIL = 1) ∧
    (w313.core.vault.run = some { entry := Entry.normal, d := 3, step := 0, acted := some 5, stuck := 0 : TRunning }) ∧
    (w313.core.vault.pend = none) ∧
    ((w313.core.vault.stepOf 0).voff = true) ∧
    (5 + (w313.core.vault.stepOf 0).limit * 1000000 ≤ w313.at 90000000) ∧
    (∀ (n : Fin 48), (1536#48).getLsbD ↑n = true ↔ BitVec.getLsbD (w313.core.vault.stepOf 0).mask ↑n = true ∧ w313.core.get (F.RAIL_CFG_USED ↑n) = 1 ∧ ¬((w313.core.rail n).result.getD 0 < w313.core.get (F.RAIL_VOFF_VOFF ↑n) ∨ (w313.core.rail n).code = RailCode.off ∨ (w313.core.rail n).code = RailCode.unused)) ∧
    (¬(w313.core.mainAlive = false ∨ w313.core.get F.SAFE_STATUS_CLKFAIL = 1)) ∧
    (BitVec.ofNat (48 : ℕ) (1536 : ℕ) ≠ BitVec.ofNat (48 : ℕ) (0 : ℕ)) ∧
    (w314.core.dev ≠ DevState.unpowered) ∧
    (w314.core.dev ≠ DevState.powerHold) ∧
    (w314.core.vault.drive = none) ∧
    (w314.core.vault.lineSeen = true) ∧
    ((w305.core.vault.stepOf 0).voff = false) ∧
    (w305.at 300 < 5 + (w305.core.vault.stepOf 0).time * 980) ∧
    (w315.core.vault.run = some { entry := Entry.normal, d := 3, step := 0, acted := none, stuck := 0 : TRunning }) ∧
    (w315.core.vault.pend = none) ∧
    ((w315.core.vault.stepOf 0).act = StepAct.finish) ∧
    (w315.core.dev = DevState.run) ∧
    (w315.core.vault.thermal = none) ∧
    (w315.core.vault.reboot = true) := by
  refine ⟨?_, ?_, ?_, ?_, ?_, ?_, ?_, ?_, ?_, ?_, ?_, ?_, ?_, ?_, ?_, ?_, ?_, ?_, ?_, ?_, ?_, ?_, ?_, ?_, ?_, ?_, ?_, ?_, ?_, ?_, ?_, ?_, ?_, ?_, ?_, ?_, ?_, ?_, ?_, ?_, ?_, ?_, ?_, ?_, ?_, ?_, ?_, ?_, ?_, ?_, ?_, ?_, ?_, ?_, ?_, ?_, ?_, ?_⟩ <;> decide +kernel

/-! ### Witnesses: ConverterResults -/

def w316 : State := st { (((puts runDev [(F.CV_STATUS_INVALID 1, 0), (F.RAIL_OVTH_OVTH 11, 1048575), (F.RAIL_VOFF_VOFF 11, 1000), (F.RAIL_MEAS_SEQ 11, 255), (F.RAIL_CFG_RANGE 11, 1)])).setRail 11 { rangeAt := some 20, code := .falling, out := .falling }) with cvs := runDev.cvs.set 1 { began := 10, n := 4, s := 3, op := .scan, slot := 3, must := 5 } }
def w317 : State := st { (((puts runDev [(F.CV_STATUS_INVALID 1, 0), (F.RAIL_OVTH_OVTH 11, 1048575), (F.RAIL_VOFF_VOFF 11, 1000), (F.RAIL_MEAS_SEQ 11, 255), (F.RAIL_CFG_RANGE 11, 1)])).setRail 11 { rangeAt := some 20, code := .falling, out := .falling }) with cvs := runDev.cvs.set 1 { began := 10, n := 4, s := 3, op := .scan, slot := 4, flights := [⟨.scan 3, 10, 10, 10+112, 3, 4, 16, true⟩] } }
def w318 : State := st { (puts runDev [(F.CV_INJRES_WORD 1, 4294967295), (F.CV_DIAGRES 1 1, 267386880)]) with  cvs := runDev.cvs.set 1 { began := 10, n := 4, s := 3, op := .scan, flights := [⟨.dwell ⟨.door 2, 9, false, ⟨1, 2, 3, 4⟩, 5⟩, 10, 10, 10+112, 3, 4, 16, true⟩, ⟨.scan 2, 9, 9, 9+112, 3, 4, 16, true⟩] } }
def w319 : State := st { (puts runDev [(F.CV_INJRES_WORD 1, 4294967295), (F.CV_DIAGRES 1 1, 267386880)]) with  cvs := runDev.cvs.set 1 { began := 10, n := 4, s := 3, op := .scan, flights := [⟨.own (.plaus 9), 10, 10, 10+112, 3, 4, 16, true⟩, ⟨.scan 2, 9, 9, 9+112, 3, 4, 16, true⟩] } }
def w320 : State := st { (puts runDev [(F.CV_INJRES_WORD 1, 4294967295), (F.CV_DIAGRES 1 1, 267386880)]) with tellers := runDev.tellers.set 3 { st := .waiting, wait := some (.inj 4 1 5), pc := 7 }, cvs := runDev.cvs.set 1 { began := 10, n := 4, s := 3, op := .scan, flights := [⟨.dwell ⟨.teller 3 7, 9, false, ⟨1, 2, 3, 4⟩, 5⟩, 10, 10, 10+112, 3, 4, 16, true⟩, ⟨.scan 2, 9, 9, 9+112, 3, 4, 16, true⟩] } }
def w321 : State := st { (runDev.setRail 11 { code := .good, out := .on }) with cvs := runDev.cvs.set 1 { began := 10, n := 4, s := 3, op := .scan, slot := 4, wire := some ⟨3, 2, false, 0, 0, 0, 0, false⟩, flights := [⟨.scan 3, 10, 10, 10+112, 3, 4, 16, true⟩] } }

/-- Every hypothesis of ConverterResults is met. -/
theorem wit_ConverterResults :
    (w316.core.live = true) ∧
    (w316.core.mainAlive = true) ∧
    ((w316.core.cv 1).flights = []) ∧
    ((w316.core.cv 1).op = CvOp.scan) ∧
    ((w316.core.cv 1).slot = 3) ∧
    ([1, 2, 3, 4].length = (w316.core.cv 1).n) ∧
    ((w316.core.cv 1).began + ((w316.core.cv 1).s + (w316.core.cv 1).n) * (w316.core.cv 1).clk + 9 * (w316.core.cv 1).clk ≤ w316.at 1000) ∧
    (w316.core.capState 1 ≠ 1) ∧
    (w316.core.capState 1 ≠ 2) ∧
    ((w316.core.cv 1).wire = none) ∧
    (∀ (w : ℕ × ℕ), (w316.core.cv 1).wireOut = some w → w.2 ≤ (w316.core.cv 1).began) ∧
    (∀ (t : ℕ), (w316.core.rail 11).blankAt = some t → (w316.core.cv 1).began + ((w316.core.cv 1).s + (w316.core.cv 1).n) * (w316.core.cv 1).clk ≤ t) ∧
    (∀ w ∈ (w316.core.rail 11).blankWas, (w316.core.cv 1).began + ((w316.core.cv 1).s + (w316.core.cv 1).n) * (w316.core.cv 1).clk ≤ w.1 ∨ w.2 ≤ (w316.core.cv 1).began) ∧
    (w316.core.ovUnderTest (11 : Fin (48 : ℕ)) = false ∧ w316.core.get (F.RAIL_WSTATUS_BADOV ((8 : ℕ) * (↑(1 : Fin (6 : ℕ)) : ℕ) + (↑(3 : Fin (8 : ℕ)) : ℕ))) ≠ (1 : ℕ) ∨ (if (↑(spanOf (w316.core.get (F.RAIL_CFG_RANGE ((8 : ℕ) * (↑(1 : Fin (6 : ℕ)) : ℕ) + (↑(3 : Fin (8 : ℕ)) : ℕ))))) : ℤ) < ((2 : ℤ) * List.foldl (fun x1 x2 => x1 + x2) (0 : ℤ) (List.map (fun w => w316.core.corrected (1 : Fin (6 : ℕ)) (↑(3 : Fin (8 : ℕ)) : ℕ) w) [(1 : ℕ), (2 : ℕ), (3 : ℕ), (4 : ℕ)]) * (↑(spanOf (w316.core.get (F.RAIL_CFG_RANGE ((8 : ℕ) * (↑(1 : Fin (6 : ℕ)) : ℕ) + (↑(3 : Fin (8 : ℕ)) : ℕ))))) : ℤ) + (↑([(1 : ℕ), (2 : ℕ), (3 : ℕ), (4 : ℕ)].length * (1073741824 : ℕ)) : ℤ)) / ((2 : ℤ) * (↑([(1 : ℕ), (2 : ℕ), (3 : ℕ), (4 : ℕ)].length * (1073741824 : ℕ)) : ℤ)) then spanOf (w316.core.get (F.RAIL_CFG_RANGE ((8 : ℕ) * (↑(1 : Fin (6 : ℕ)) : ℕ) + (↑(3 : Fin (8 : ℕ)) : ℕ)))) else (max (0 : ℤ) (((2 : ℤ) * List.foldl (fun x1 x2 => x1 + x2) (0 : ℤ) (List.map (fun w => w316.core.corrected (1 : Fin (6 : ℕ)) (↑(3 : Fin (8 : ℕ)) : ℕ) w) [(1 : ℕ), (2 : ℕ), (3 : ℕ), (4 : ℕ)]) * (↑(spanOf (w316.core.get (F.RAIL_CFG_RANGE ((8 : ℕ) * (↑(1 : Fin (6 : ℕ)) : ℕ) + (↑(3 : Fin (8 : ℕ)) : ℕ))))) : ℤ) + (↑([(1 : ℕ), (2 : ℕ), (3 : ℕ), (4 : ℕ)].length * (1073741824 : ℕ)) : ℤ)) / ((2 : ℤ) * (↑([(1 : ℕ), (2 : ℕ), (3 : ℕ), (4 : ℕ)].length * (1073741824 : ℕ)) : ℤ)))).toNat) ≤ w316.core.get (F.RAIL_OVTH_OVTH ((8 : ℕ) * (↑(1 : Fin (6 : ℕ)) : ℕ) + (↑(3 : Fin (8 : ℕ)) : ℕ)))) ∧
    (w317.core.live = true) ∧
    (w317.core.mainAlive = true) ∧
    ((w317.core.cv 1).flights = [{ kind := FlightKind.scan 3, began := 10, first := 10, last := 122, s := 3, n := 4, clk := 16, told := true : Flight }]) ∧
    ([(1 : ℕ), (2 : ℕ), (3 : ℕ), (4 : ℕ)].length = (4 : ℕ)) ∧
    (266 ≤ w317.at 1000) ∧
    (true = true ∨ w317.core.capState 1 ≠ 1 ∧ w317.core.capState 1 ≠ 2) ∧
    ((w317.core.cv 1).wire = none) ∧
    (∀ (w : ℕ × ℕ), (w317.core.cv 1).wireOut = some w → w.2 ≤ 10) ∧
    (∀ (t : ℕ), (w317.core.rail 11).blankAt = some t → 122 ≤ t) ∧
    (∀ w ∈ (w317.core.rail 11).blankWas, 122 ≤ w.1 ∨ w.2 ≤ 10) ∧
    (w317.core.ovUnderTest (11 : Fin (48 : ℕ)) = false ∧ w317.core.get (F.RAIL_WSTATUS_BADOV ((8 : ℕ) * (↑(1 : Fin (6 : ℕ)) : ℕ) + (↑(3 : Fin (8 : ℕ)) : ℕ))) ≠ (1 : ℕ) ∨ (if (↑(spanOf (w317.core.get (F.RAIL_CFG_RANGE ((8 : ℕ) * (↑(1 : Fin (6 : ℕ)) : ℕ) + (↑(3 : Fin (8 : ℕ)) : ℕ))))) : ℤ) < ((2 : ℤ) * List.foldl (fun x1 x2 => x1 + x2) (0 : ℤ) (List.map (fun w => w317.core.corrected (1 : Fin (6 : ℕ)) (↑(3 : Fin (8 : ℕ)) : ℕ) w) [(1 : ℕ), (2 : ℕ), (3 : ℕ), (4 : ℕ)]) * (↑(spanOf (w317.core.get (F.RAIL_CFG_RANGE ((8 : ℕ) * (↑(1 : Fin (6 : ℕ)) : ℕ) + (↑(3 : Fin (8 : ℕ)) : ℕ))))) : ℤ) + (↑([(1 : ℕ), (2 : ℕ), (3 : ℕ), (4 : ℕ)].length * (1073741824 : ℕ)) : ℤ)) / ((2 : ℤ) * (↑([(1 : ℕ), (2 : ℕ), (3 : ℕ), (4 : ℕ)].length * (1073741824 : ℕ)) : ℤ)) then spanOf (w317.core.get (F.RAIL_CFG_RANGE ((8 : ℕ) * (↑(1 : Fin (6 : ℕ)) : ℕ) + (↑(3 : Fin (8 : ℕ)) : ℕ)))) else (max (0 : ℤ) (((2 : ℤ) * List.foldl (fun x1 x2 => x1 + x2) (0 : ℤ) (List.map (fun w => w317.core.corrected (1 : Fin (6 : ℕ)) (↑(3 : Fin (8 : ℕ)) : ℕ) w) [(1 : ℕ), (2 : ℕ), (3 : ℕ), (4 : ℕ)]) * (↑(spanOf (w317.core.get (F.RAIL_CFG_RANGE ((8 : ℕ) * (↑(1 : Fin (6 : ℕ)) : ℕ) + (↑(3 : Fin (8 : ℕ)) : ℕ))))) : ℤ) + (↑([(1 : ℕ), (2 : ℕ), (3 : ℕ), (4 : ℕ)].length * (1073741824 : ℕ)) : ℤ)) / ((2 : ℤ) * (↑([(1 : ℕ), (2 : ℕ), (3 : ℕ), (4 : ℕ)].length * (1073741824 : ℕ)) : ℤ)))).toNat) ≤ w317.core.get (F.RAIL_OVTH_OVTH ((8 : ℕ) * (↑(1 : Fin (6 : ℕ)) : ℕ) + (↑(3 : Fin (8 : ℕ)) : ℕ)))) ∧
    (w318.core.live = true) ∧
    (w318.core.mainAlive = true) ∧
    ((w318.core.cv 1).flights = [{ kind := FlightKind.dwell { src := TrigSrc.door 2, ch := 9, burst := false, stamp := { boot := 1#32, usec := 2#48, rev := 3#32, angle := 4#16 : Stamp }, arrive := 5 : Trig }, began := 10, first := 10, last := 122, s := 3, n := 4, clk := 16, told := true : Flight }, { kind := FlightKind.scan 2, began := 9, first := 9, last := 121, s := 3, n := 4, clk := 16, told := true : Flight }]) ∧
    (266 ≤ w318.at 100000) ∧
    ((8 : ℕ) ≤ (9 : ℕ)) ∧
    ((9 : ℕ) ≤ (10 : ℕ)) ∧
    (w319.core.live = true) ∧
    (w319.core.mainAlive = true) ∧
    ((w319.core.cv 1).flights = [{ kind := FlightKind.own (Internal.plaus 9), began := 10, first := 10, last := 122, s := 3, n := 4, clk := 16, told := true : Flight }, { kind := FlightKind.scan 2, began := 9, first := 9, last := 121, s := 3, n := 4, clk := 16, told := true : Flight }]) ∧
    (266 ≤ w319.at 100000) ∧
    (w320.core.live = true) ∧
    (w320.core.mainAlive = true) ∧
    ((w320.core.cv 1).flights = [{ kind := FlightKind.dwell { src := TrigSrc.teller 3 7#16, ch := 9, burst := false, stamp := { boot := 1#32, usec := 2#48, rev := 3#32, angle := 4#16 : Stamp }, arrive := 5 : Trig }, began := 10, first := 10, last := 122, s := 3, n := 4, clk := 16, told := true : Flight }, { kind := FlightKind.scan 2, began := 9, first := 9, last := 121, s := 3, n := 4, clk := 16, told := true : Flight }]) ∧
    (266 ≤ w320.at 100000) ∧
    ((w320.core.teller 3).wait = some (Wait.inj 4 1 5)) ∧
    ((w320.core.teller 3).st = TRun.waiting) ∧
    ((w320.core.teller 3).step = false) ∧
    (w321.core.live = true) ∧
    (w321.core.mainAlive = true) ∧
    ((w321.core.cv 1).flights = [{ kind := FlightKind.scan 3, began := 10, first := 10, last := 122, s := 3, n := 4, clk := 16, told := true : Flight }]) ∧
    (266 ≤ w321.at 1000) ∧
    (true = true ∨ w321.core.capState 1 ≠ 1 ∧ w321.core.capState 1 ≠ 2) ∧
    (Option.any (fun w => w.ch == ↑3 && decide (2 ≤ w.step)) (w321.core.cv 1).wire = true ∨ Option.any (fun w => w.1 == ↑3 && decide (10 < w.2)) (w321.core.cv 1).wireOut = true) := by
  refine ⟨?_, ?_, ?_, ?_, ?_, ?_, ?_, ?_, ?_, ?_, ?_, ?_, ?_, ?_, ?_, ?_, ?_, ?_, ?_, ?_, ?_, ?_, ?_, ?_, ?_, ?_, ?_, ?_, ?_, ?_, ?_, ?_, ?_, ?_, ?_, ?_, ?_, ?_, ?_, ?_, ?_, ?_, ?_, ?_, ?_, ?_, ?_, ?_⟩ <;> decide +kernel

/-! ### Witnesses: ConverterOperations -/

def w322 : State := st { runDev with cvs := runDev.cvs.set 1 { began := 10, n := 4, s := 3, op := .scan, slot := 3, arriving := some ⟨.door 2, 9, false, ⟨1, 2, 3, 4⟩, 5⟩ } }
def w323 : State := st { (puts runDev [(F.CAP_STATUS_STATE 1, 0), (F.CAP_DCOUNT_NEWEST 1, 3), (F.CAP_STATUS_WPTR 1, 65535), (F.CAP_CFG_CAPLEN 1, 9)]) with cvs := runDev.cvs.set 1 { began := 10, n := 4, s := 3, op := .scan, slot := 3, arriving := some ⟨.door 2, 7, true, ⟨1, 2, 3, 4⟩, 5⟩ } }
def w324 : State := st { (puts runDev [(F.CAP_STATUS_STATE 1, 1), (F.CAP_DCOUNT_NEWEST 1, 3), (F.CAP_STATUS_WPTR 1, 65535), (F.CAP_CFG_CAPLEN 1, 9)]) with cvs := runDev.cvs.set 1 { began := 10, n := 4, s := 3, op := .scan, slot := 3, arriving := some ⟨.door 2, 7, true, ⟨1, 2, 3, 4⟩, 5⟩ } }
def w325 : State := st { runDev with cvs := runDev.cvs.set 1 { began := 10, n := 4, s := 3, op := .scan, slot := 7, must := 0, pend := some ⟨.door 2, 9, false, ⟨1, 2, 3, 4⟩, 5⟩, flights := [⟨.scan 6, 0, 0, 0+112, 3, 4, 16, false⟩] } }
def w326 : State := st { runDev with cvs := runDev.cvs.set 1 { began := 10, n := 4, s := 3, op := .scan, slot := 7, must := 1, pend := some ⟨.door 2, 9, false, ⟨1, 2, 3, 4⟩, 5⟩, flights := [⟨.scan 6, 0, 0, 0+112, 3, 4, 16, false⟩] } }
def w327 : State := st { runDev with cvs := runDev.cvs.set 1 { began := 10, n := 4, s := 3, op := .scan, slot := 3, own := [.plaus 9, .wire 3] } }
def w328 : State := st { runDev with cvs := runDev.cvs.set 1 { began := 10, n := 4, s := 3, op := .dwell ⟨.door 2, 9, false, ⟨1, 2, 3, 4⟩, 5⟩ true, slot := 3 } }
def w329 : State := st { runDev with cvs := runDev.cvs.set 1 { began := 10, n := 4, s := 3, op := .own (.plaus 9), slot := 3 } }
def w330 : State := { st { ((puts runDev [(F.CAP_STATUS_STATE 1, 2), (F.CAP_STATUS_WPTR 1, 0)]).setRail 15 { blankAt := some 60 }) with cvs := runDev.cvs.set 1 { began := 10, n := 4, s := 3, op := .burst ⟨.door 2, 7, true, ⟨1, 2, 3, 4⟩, 5⟩ false 4 0 } } with bufs := State.reset.bufs.set 1 [(2, 7), (9, 9)] }

/-- Every hypothesis of ConverterOperations is met. -/
theorem wit_ConverterOperations :
    (w322.core.live = true) ∧
    (w322.core.mainAlive = true) ∧
    ((w322.core.cv 1).op = CvOp.scan) ∧
    (w322.at 50 < (w322.core.cv 1).began + ((w322.core.cv 1).s + (w322.core.cv 1).n) * (w322.core.cv 1).clk) ∧
    ((w322.core.cv 1).arriving = some { src := TrigSrc.door 2, ch := 9, burst := false, stamp := { boot := 1#32, usec := 2#48, rev := 3#32, angle := 4#16 : Stamp }, arrive := 5 : Trig }) ∧
    (w323.core.live = true) ∧
    (w323.core.mainAlive = true) ∧
    ((w323.core.cv 1).op = CvOp.scan) ∧
    (w323.at 50 < (w323.core.cv 1).began + ((w323.core.cv 1).s + (w323.core.cv 1).n) * (w323.core.cv 1).clk) ∧
    ((w323.core.cv 1).arriving = some { src := TrigSrc.door 2, ch := 7, burst := true, stamp := { boot := 1#32, usec := 2#48, rev := 3#32, angle := 4#16 : Stamp }, arrive := 5 : Trig }) ∧
    (w323.core.get (F.CAP_STATUS_STATE ↑1) ≠ 1) ∧
    (w323.core.get (F.CAP_STATUS_STATE ↑1) ≠ 2) ∧
    (w324.core.live = true) ∧
    (w324.core.mainAlive = true) ∧
    ((w324.core.cv 1).op = CvOp.scan) ∧
    (w324.at 50 < (w324.core.cv 1).began + ((w324.core.cv 1).s + (w324.core.cv 1).n) * (w324.core.cv 1).clk) ∧
    ((w324.core.cv 1).arriving = some { src := TrigSrc.door 2, ch := 7, burst := true, stamp := { boot := 1#32, usec := 2#48, rev := 3#32, angle := 4#16 : Stamp }, arrive := 5 : Trig }) ∧
    (w324.core.get (F.CAP_STATUS_STATE ↑1) = 1 ∨ w324.core.get (F.CAP_STATUS_STATE ↑1) = 2) ∧
    ((7 : ℕ) < (8 : ℕ)) ∧
    (w324.core.get (F.CAP_STATUS_WPTR ↑1) < 65536) ∧
    (w325.core.live = true) ∧
    (w325.core.mainAlive = true) ∧
    ((w325.core.cv 1).op = CvOp.scan) ∧
    ((w325.core.cv 1).pend = some { src := TrigSrc.door 2, ch := 9, burst := false, stamp := { boot := 1#32, usec := 2#48, rev := 3#32, angle := 4#16 : Stamp }, arrive := 5 : Trig }) ∧
    ((9 : ℕ) ≠ (8 : ℕ)) ∧
    ((w325.core.cv 1).arriving = none) ∧
    (w325.at 50 < (w325.core.cv 1).began + ((w325.core.cv 1).s + (w325.core.cv 1).n) * (w325.core.cv 1).clk) ∧
    ((w325.core.cv 1).must = 0) ∧
    (w325.at 122 = (w325.core.cv 1).began + ((w325.core.cv 1).s + (w325.core.cv 1).n) * (w325.core.cv 1).clk) ∧
    (0 < ((w325.core.cv 1).s + (w325.core.cv 1).n) * (w325.core.cv 1).clk) ∧
    ((w325.core.cv 1).must ≤ 1) ∧
    (∀ f ∈ (w325.core.cv 1).flights, w325.at 122 < f.last + 9 * f.clk) ∧
    (w326.core.live = true) ∧
    (w326.core.mainAlive = true) ∧
    ((w326.core.cv 1).op = CvOp.scan) ∧
    ((w326.core.cv 1).pend = some { src := TrigSrc.door 2, ch := 9, burst := false, stamp := { boot := 1#32, usec := 2#48, rev := 3#32, angle := 4#16 : Stamp }, arrive := 5 : Trig }) ∧
    ((w326.core.cv 1).arriving = none) ∧
    (w326.at 50 < (w326.core.cv 1).began + ((w326.core.cv 1).s + (w326.core.cv 1).n) * (w326.core.cv 1).clk) ∧
    (1 ≤ (w326.core.cv 1).must) ∧
    (w327.core.live = true) ∧
    (w327.core.mainAlive = true) ∧
    ((w327.core.cv 1).op = CvOp.scan) ∧
    (w327.at 50 < (w327.core.cv 1).began + ((w327.core.cv 1).s + (w327.core.cv 1).n) * (w327.core.cv 1).clk) ∧
    ((w327.core.cv 1).own = [Internal.plaus 9, Internal.wire 3]) ∧
    ((w327.core.cv 1).must = 0) ∧
    ((w327.core.cv 1).ownMust = 0) ∧
    ((w327.core.cv 1).arriving = none) ∧
    ((w327.core.cv 1).pend = none) ∧
    (Internal.plaus 9 ≠ Internal.probe 8 ∨ (w327.core.cv 1).pAt + 5000 ≤ w327.at 50) ∧
    ((w328.core.cv 1).began + ((w328.core.cv 1).s + (w328.core.cv 1).n) * (w328.core.cv 1).clk ≤ w328.at 5000) ∧
    (w328.core.eff ≠ Mode.watch) ∧
    ((w328.core.cv 1).op = CvOp.dwell { src := TrigSrc.door 2, ch := 9, burst := false, stamp := { boot := 1#32, usec := 2#48, rev := 3#32, angle := 4#16 : Stamp }, arrive := 5 : Trig } true) ∧
    ((w329.core.cv 1).began + ((w329.core.cv 1).s + (w329.core.cv 1).n) * (w329.core.cv 1).clk ≤ w329.at 5000) ∧
    (w329.core.eff ≠ Mode.watch) ∧
    ((w329.core.cv 1).op = CvOp.own (Internal.plaus 9)) ∧
    ((w330.core.cv 1).op = CvOp.burst { src := TrigSrc.door 2, ch := 7, burst := true, stamp := { boot := 1#32, usec := 2#48, rev := 3#32, angle := 4#16 : Stamp }, arrive := 5 : Trig } false 4 0) ∧
    ((w330.core.cv 1).began + ((w330.core.cv 1).s + 4) * (w330.core.cv 1).clk ≤ w330.at 5000) ∧
    ([1, 2, 3, 4, 20000, 6, 7].length = (w330.core.cv 1).s + 4) ∧
    ((1 : ℕ) ≤ [(1 : ℕ), (2 : ℕ), (3 : ℕ), (4 : ℕ), (20000 : ℕ), (6 : ℕ), (7 : ℕ)].length) ∧
    ([(1 : ℕ), (2 : ℕ), (3 : ℕ), (4 : ℕ), (20000 : ℕ), (6 : ℕ), (7 : ℕ)].length ≤ (65536 : ℕ)) ∧
    (w330.core.get (F.CAP_STATUS_WPTR ↑1) < 65536) ∧
    (w330.core.eff ≠ Mode.watch) ∧
    ((w330.core.cap 1).disarm = false) ∧
    ((w330.core.cap 1).back = none) ∧
    (w330.core.get (F.CAP_CTL_FREEZE ↑1) ≠ 1) ∧
    (w330.core.get (F.CAP_DCOUNT_NEWEST ↑1) < 4) := by
  refine ⟨?_, ?_, ?_, ?_, ?_, ?_, ?_, ?_, ?_, ?_, ?_, ?_, ?_, ?_, ?_, ?_, ?_, ?_, ?_, ?_, ?_, ?_, ?_, ?_, ?_, ?_, ?_, ?_, ?_, ?_, ?_, ?_, ?_, ?_, ?_, ?_, ?_, ?_, ?_, ?_, ?_, ?_, ?_, ?_, ?_, ?_, ?_, ?_, ?_, ?_, ?_, ?_, ?_, ?_, ?_, ?_, ?_, ?_, ?_, ?_, ?_, ?_, ?_, ?_, ?_, ?_⟩ <;> decide +kernel

/-! ### Witnesses: ConverterTicks -/

def w331 : State := st { runDev with stats := runDev.stats.set 11 { lo := 1073741824 * 5 + 536870912, hi := 1073741824 * 5 + 536870912, sumM := 137438953472 * 15 + 68719476736, sumR := 18889465931478580854784 * 75, nres := 3, droops := 70000 } }
def w332 : State := st { (puts runDev [(F.SYS_MODE_EFF, 2)]) with tickAt := 7, cvFast := true }
def w333 : State := st { runDev with cvs := runDev.cvs.set 1 { began := 10, n := 4, s := 3, op := .scan, calPend := true } }
def w334 : State := st { runDev with cvs := runDev.cvs.set 1 { began := 10, n := 4, s := 3, op := .cal, pend := some ⟨.door 2, 9, false, ⟨1, 2, 3, 4⟩, 5⟩ } }
def w335 : State := st { bootDev 6 with cvs := runDev.cvs.set 1 { began := 10, n := 4, s := 3, op := .cal, pend := some ⟨.door 2, 9, false, ⟨1, 2, 3, 4⟩, 5⟩ } }
def w336 : State := st { (puts runDev [(F.CV_OWCTL_OWSET 1, 3), (F.CV_OWCTL_OWTHR 1, 4), (F.CV_OWRES_SEQ 1, 255)]) with cvs := runDev.cvs.set 1 { began := 10, n := 4, s := 3, op := .scan, wire := some ⟨3, 2, false, 7, 100, 90, 80, false⟩ } }
def w337 : State := st { (puts runDev [(F.CV_OWCTL_OWSET 1, 3), (F.CV_OWCTL_OWTHR 1, 4), (F.CV_OWRES_SEQ 1, 255)]) with cvs := runDev.cvs.set 1 { began := 10, n := 4, s := 3, op := .scan, wire := some ⟨3, 4, false, 7, 100, 90, 80, false⟩ } }
def w338 : State := st { (puts runDev [(F.CV_OWCTL_OWSET 1, 3), (F.CV_OWCTL_OWTHR 1, 4), (F.CV_OWRES_SEQ 1, 255)]) with cvs := runDev.cvs.set 1 { began := 10, n := 4, s := 3, op := .scan, wire := some ⟨3, 4, false, 7, 100, 9000, 80, false⟩ } }

/-- Every hypothesis of ConverterTicks is met. -/
theorem wit_ConverterTicks :
    (w331.core.live = true) ∧
    (w331.core.mainAlive = true) ∧
    (w331.core.eff ≠ Mode.watch) ∧
    ((w331.core.cv 1).plausAt + 10000000 ≤ w331.at 2000000000) ∧
    (w331.core.statAt + w331.core.statLen * 1000000 ≤ w331.at 2000000000) ∧
    (w332.core.live = true) ∧
    (w332.core.mainAlive = true) ∧
    (w332.core.eff = Mode.watch) ∧
    (w332.core.tickAt ≤ w332.at 20000000) ∧
    ((w333.core.cv 1).calPend = true) ∧
    ((w333.core.cv 1).calWait = 0) ∧
    ((w333.core.cv 1).wire = none) ∧
    (w333.core.mainAlive = true) ∧
    (w333.core.live = true ∧ (w333.core.cv 1).op = CvOp.scan ∧ w333.at 50 < (w333.core.cv 1).began + ((w333.core.cv 1).s + (w333.core.cv 1).n) * (w333.core.cv 1).clk ∨ w333.core.dev = DevState.boot ∧ (w333.core.cv 1).op = CvOp.idle) ∧
    ((w334.core.cv 1).op = CvOp.cal) ∧
    ([(4096 : ℕ), (0 : ℕ), (4294963200 : ℕ), (0 : ℕ), (996148 : ℕ), (1101004 : ℕ), (1000000 : ℕ), (1048576 : ℕ), (0 : ℕ), (0 : ℕ), (0 : ℕ), (0 : ℕ), (0 : ℕ), (0 : ℕ), (0 : ℕ), (0 : ℕ)].length = (16 : ℕ)) ∧
    ((w334.core.cv 1).calAt + 1200000 ≤ w334.at 20000000) ∧
    (w334.core.live = true) ∧
    (w334.core.mainAlive = true) ∧
    (∀ i < (16 : ℕ), if (4 : ℕ) ≤ i ∧ i < (8 : ℕ) then (996148 : ℕ) ≤ [(4096 : ℕ), (0 : ℕ), (4294963200 : ℕ), (0 : ℕ), (996148 : ℕ), (1101004 : ℕ), (1000000 : ℕ), (1048576 : ℕ), (0 : ℕ), (0 : ℕ), (0 : ℕ), (0 : ℕ), (0 : ℕ), (0 : ℕ), (0 : ℕ), (0 : ℕ)].getD i (0 : ℕ) ∧ [(4096 : ℕ), (0 : ℕ), (4294963200 : ℕ), (0 : ℕ), (996148 : ℕ), (1101004 : ℕ), (1000000 : ℕ), (1048576 : ℕ), (0 : ℕ), (0 : ℕ), (0 : ℕ), (0 : ℕ), (0 : ℕ), (0 : ℕ), (0 : ℕ), (0 : ℕ)].getD i (0 : ℕ) ≤ (1101004 : ℕ) else (-4096 : ℤ) ≤ signed (32 : ℕ) ([(4096 : ℕ), (0 : ℕ), (4294963200 : ℕ), (0 : ℕ), (996148 : ℕ), (1101004 : ℕ), (1000000 : ℕ), (1048576 : ℕ), (0 : ℕ), (0 : ℕ), (0 : ℕ), (0 : ℕ), (0 : ℕ), (0 : ℕ), (0 : ℕ), (0 : ℕ)].getD i (0 : ℕ)) ∧ signed (32 : ℕ) ([(4096 : ℕ), (0 : ℕ), (4294963200 : ℕ), (0 : ℕ), (996148 : ℕ), (1101004 : ℕ), (1000000 : ℕ), (1048576 : ℕ), (0 : ℕ), (0 : ℕ), (0 : ℕ), (0 : ℕ), (0 : ℕ), (0 : ℕ), (0 : ℕ), (0 : ℕ)].getD i (0 : ℕ)) ≤ (4096 : ℤ)) ∧
    ([(4096 : ℕ), (0 : ℕ), (4294963199 : ℕ), (0 : ℕ), (996148 : ℕ), (1101004 : ℕ), (1000000 : ℕ), (1048576 : ℕ), (0 : ℕ), (0 : ℕ), (0 : ℕ), (0 : ℕ), (0 : ℕ), (0 : ℕ), (0 : ℕ), (0 : ℕ)].length = (16 : ℕ)) ∧
    ((2 : ℕ) < (16 : ℕ)) ∧
    (¬if (4 : ℕ) ≤ (2 : ℕ) ∧ (2 : ℕ) < (8 : ℕ) then (996148 : ℕ) ≤ [(4096 : ℕ), (0 : ℕ), (4294963199 : ℕ), (0 : ℕ), (996148 : ℕ), (1101004 : ℕ), (1000000 : ℕ), (1048576 : ℕ), (0 : ℕ), (0 : ℕ), (0 : ℕ), (0 : ℕ), (0 : ℕ), (0 : ℕ), (0 : ℕ), (0 : ℕ)].getD (2 : ℕ) (0 : ℕ) ∧ [(4096 : ℕ), (0 : ℕ), (4294963199 : ℕ), (0 : ℕ), (996148 : ℕ), (1101004 : ℕ), (1000000 : ℕ), (1048576 : ℕ), (0 : ℕ), (0 : ℕ), (0 : ℕ), (0 : ℕ), (0 : ℕ), (0 : ℕ), (0 : ℕ), (0 : ℕ)].getD (2 : ℕ) (0 : ℕ) ≤ (1101004 : ℕ) else (-4096 : ℤ) ≤ signed (32 : ℕ) ([(4096 : ℕ), (0 : ℕ), (4294963199 : ℕ), (0 : ℕ), (996148 : ℕ), (1101004 : ℕ), (1000000 : ℕ), (1048576 : ℕ), (0 : ℕ), (0 : ℕ), (0 : ℕ), (0 : ℕ), (0 : ℕ), (0 : ℕ), (0 : ℕ), (0 : ℕ)].getD (2 : ℕ) (0 : ℕ)) ∧ signed (32 : ℕ) ([(4096 : ℕ), (0 : ℕ), (4294963199 : ℕ), (0 : ℕ), (996148 : ℕ), (1101004 : ℕ), (1000000 : ℕ), (1048576 : ℕ), (0 : ℕ), (0 : ℕ), (0 : ℕ), (0 : ℕ), (0 : ℕ), (0 : ℕ), (0 : ℕ), (0 : ℕ)].getD (2 : ℕ) (0 : ℕ)) ≤ (4096 : ℤ)) ∧
    (∀ i < (2 : ℕ), if (4 : ℕ) ≤ i ∧ i < (8 : ℕ) then (996148 : ℕ) ≤ [(4096 : ℕ), (0 : ℕ), (4294963199 : ℕ), (0 : ℕ), (996148 : ℕ), (1101004 : ℕ), (1000000 : ℕ), (1048576 : ℕ), (0 : ℕ), (0 : ℕ), (0 : ℕ), (0 : ℕ), (0 : ℕ), (0 : ℕ), (0 : ℕ), (0 : ℕ)].getD i (0 : ℕ) ∧ [(4096 : ℕ), (0 : ℕ), (4294963199 : ℕ), (0 : ℕ), (996148 : ℕ), (1101004 : ℕ), (1000000 : ℕ), (1048576 : ℕ), (0 : ℕ), (0 : ℕ), (0 : ℕ), (0 : ℕ), (0 : ℕ), (0 : ℕ), (0 : ℕ), (0 : ℕ)].getD i (0 : ℕ) ≤ (1101004 : ℕ) else (-4096 : ℤ) ≤ signed (32 : ℕ) ([(4096 : ℕ), (0 : ℕ), (4294963199 : ℕ), (0 : ℕ), (996148 : ℕ), (1101004 : ℕ), (1000000 : ℕ), (1048576 : ℕ), (0 : ℕ), (0 : ℕ), (0 : ℕ), (0 : ℕ), (0 : ℕ), (0 : ℕ), (0 : ℕ), (0 : ℕ)].getD i (0 : ℕ)) ∧ signed (32 : ℕ) ([(4096 : ℕ), (0 : ℕ), (4294963199 : ℕ), (0 : ℕ), (996148 : ℕ), (1101004 : ℕ), (1000000 : ℕ), (1048576 : ℕ), (0 : ℕ), (0 : ℕ), (0 : ℕ), (0 : ℕ), (0 : ℕ), (0 : ℕ), (0 : ℕ), (0 : ℕ)].getD i (0 : ℕ)) ≤ (4096 : ℤ)) ∧
    ((w335.core.cv 1).op = CvOp.cal) ∧
    ((w335.core.cv 1).calAt + 1200000 ≤ w335.at 20000000) ∧
    (w335.core.dev = DevState.boot) ∧
    (w335.core.mainAlive = true) ∧
    (w335.core.get F.SYS_STATE_BOOTSTEP = 6) ∧
    (∀ (v : Fin 6), v ≠ 1 → w335.core.calibrating v = false) ∧
    ((w335.core.cv 1).calPend = false) ∧
    (w336.core.live = true) ∧
    ((w336.core.cv 1).wire = some { ch := 3, step := 2, dwell := false, since := 7, v0 := 100, v1 := 90, v2 := 80, probe := false : Wire }) ∧
    (7 + w336.core.get (F.CV_OWCTL_OWSET ↑1) * 1000 ≤ w336.at 20000000) ∧
    ((2 : ℕ) = (2 : ℕ) ∨ (2 : ℕ) = (3 : ℕ)) ∧
    (w337.core.live = true) ∧
    ((w337.core.cv 1).wire = some { ch := 3, step := 4, dwell := false, since := 7, v0 := 100, v1 := 90, v2 := 80, probe := false : Wire }) ∧
    (7 + w337.core.get (F.CV_OWCTL_OWSET ↑1) * 1000 ≤ w337.at 20000000) ∧
    ((-1 : ℤ) ≤ (↑(w337.core.get (F.CV_OWCTL_OWTHR (↑(1 : Fin (6 : ℕ)) : ℕ))) : ℤ)) ∧
    ((-2 : ℤ) ≤ (↑(w337.core.get (F.CV_OWCTL_OWTHR (↑(1 : Fin (6 : ℕ)) : ℕ))) : ℤ)) ∧
    (w338.core.live = true) ∧
    ((w338.core.cv 1).wire = some { ch := 3, step := 4, dwell := false, since := 7, v0 := 100, v1 := 9000, v2 := 80, probe := false : Wire }) ∧
    (7 + w338.core.get (F.CV_OWCTL_OWSET ↑1) * 1000 ≤ w338.at 20000000) ∧
    ((3 : ℕ) < (8 : ℕ)) ∧
    ((↑(w338.core.get (F.CV_OWCTL_OWTHR (↑(1 : Fin (6 : ℕ)) : ℕ))) : ℤ) < (890 : ℤ) ∨ (↑(w338.core.get (F.CV_OWCTL_OWTHR (↑(1 : Fin (6 : ℕ)) : ℕ))) : ℤ) < (-2 : ℤ)) := by
  refine ⟨?_, ?_, ?_, ?_, ?_, ?_, ?_, ?_, ?_, ?_, ?_, ?_, ?_, ?_, ?_, ?_, ?_, ?_, ?_, ?_, ?_, ?_, ?_, ?_, ?_, ?_, ?_, ?_, ?_, ?_, ?_, ?_, ?_, ?_, ?_, ?_, ?_, ?_, ?_, ?_, ?_, ?_, ?_, ?_, ?_⟩ <;> decide +kernel

/-! ### Witnesses: Windows -/

def w339 : State := st ((puts runDev [(F.SYS_MODE_EFF, 2), (F.RAIL_CFG_RANGE 11, 0), (F.RAIL_CFG_RANGE 12, 0), (F.RAIL_WSTATUS_OVCODE 11, 500), (F.RAIL_WSTATUS_OVCODE 12, 500), (F.RAIL_WSTATUS_UVCODE 11, 300), (F.RAIL_WSTATUS_UVCODE 12, 300)]).setRail 11 { code := .good })
def w340 : State := st ((puts runDev [(F.RAIL_WCFG_OVSTAMP 11, 0), (F.RAIL_WCFG_OVALERT 11, 0), (F.RAIL_WSTATUS_STAMPV 11, 0), (F.RAIL_WCFG_OVCAP 11, 0), (F.RAIL_WCFG_OVWAKE 11, 0), (F.RAIL_WCFG_HYS 11, 3), (F.RAIL_CFG_RANGE 11, 0), (F.RAIL_WSTATUS_OVCODE 11, 500), (F.RAIL_WSTATUS_UVCODE 11, 300)]).setRail 11 { code := .good })
def w341 : State := st ((puts runDev [(F.RAIL_WCFG_OVSTAMP 11, 0), (F.RAIL_WCFG_OVALERT 11, 0), (F.RAIL_WSTATUS_STAMPV 11, 0), (F.RAIL_WCFG_OVCAP 11, 0), (F.RAIL_WCFG_OVWAKE 11, 0), (F.RAIL_WCFG_HYS 11, 3), (F.RAIL_CFG_RANGE 11, 0), (F.RAIL_WSTATUS_OVCODE 11, 500), (F.RAIL_WSTATUS_UVCODE 11, 300)]).setRail 11 { code := .good, uvLive := true, ovLive := true, uvAt := some 5, ovAt := some 6 })
def w342 : State := st ((puts runDev [(F.RAIL_WCFG_UVSTAMP 11, 0), (F.RAIL_WCFG_UVALERT 11, 0), (F.RAIL_WSTATUS_STAMPV 11, 0), (F.RAIL_WCFG_UVCAP 11, 0), (F.RAIL_WCFG_UVWAKE 11, 0), (F.RAIL_WCFG_HYS 11, 3), (F.RAIL_CFG_RANGE 11, 0), (F.RAIL_WSTATUS_OVCODE 11, 500), (F.RAIL_WSTATUS_UVCODE 11, 300)]).setRail 11 { code := .good, uvLive := true, ovLive := true, uvAt := some 5, ovAt := some 6 })
def w343 : State := st { ((puts runDev [(F.RAIL_WSTATUS_OVCODE 11, 0), (F.RAIL_WSTATUS_UVCODE 11, 0), (F.RAIL_WSTATUS_TESTING 11, 1), (F.RAIL_WSTATUS_BADUV 11, 1)]).setRail 11 { code := .good, uvLive := false, ovLive := false }) with cvs := runDev.cvs.set 1 { began := 10, n := 4, s := 3, wtest := some ⟨11, true, 1, 7, false, false, true⟩ } }
def w344 : State := st { ((puts runDev [(F.RAIL_WSTATUS_OVCODE 11, 500), (F.RAIL_WSTATUS_UVCODE 11, 500), (F.RAIL_WSTATUS_TESTING 11, 1), (F.RAIL_WSTATUS_BADUV 11, 1)]).setRail 11 { code := .good, uvLive := true, ovLive := true }) with cvs := runDev.cvs.set 1 { began := 10, n := 4, s := 3, wtest := some ⟨11, true, 1, 7, false, false, true⟩ } }
def w345 : State := st { ((puts runDev [(F.RAIL_WSTATUS_OVCODE 11, 0), (F.RAIL_WSTATUS_UVCODE 11, 0), (F.RAIL_WSTATUS_TESTING 11, 1), (F.RAIL_WSTATUS_BADUV 11, 1)]).setRail 11 { code := .good, uvLive := false, ovLive := false }) with cvs := runDev.cvs.set 1 { began := 10, n := 4, s := 3, wtest := some ⟨11, true, 4, 7, false, false, true⟩ } }
def w346 : State := st { ((puts runDev [(F.RAIL_WSTATUS_OVCODE 11, 0), (F.RAIL_WSTATUS_UVCODE 11, 0), (F.RAIL_WSTATUS_TESTING 11, 1), (F.RAIL_WSTATUS_BADUV 11, 1)]).setRail 11 { code := .good, uvLive := false, ovLive := false }) with cvs := runDev.cvs.set 1 { began := 10, n := 4, s := 3, wtest := some ⟨11, false, 4, 7, false, false, true⟩ } }
def w347 : State := st { runDev with cvs := runDev.cvs.set 1 { began := 10, n := 4, s := 3, restore := some 5 } }

/-- Every hypothesis of Windows is met. -/
theorem wit_Windows :
    (((w339.core.rail (11 : Fin (48 : ℕ))).shows true = false ∧ ¬if true = true then (↑(w339.core.get (F.RAIL_WSTATUS_OVCODE (↑(11 : Fin (48 : ℕ)) : ℕ))) : ℤ) * ((↑(spanOf (w339.core.get (F.RAIL_CFG_RANGE (↑(11 : Fin (48 : ℕ)) : ℕ)))) : ℤ) * (100 : ℤ)) < (0 : ℤ) else (0 : ℤ) < (↑(w339.core.get (F.RAIL_WSTATUS_UVCODE (↑(11 : Fin (48 : ℕ)) : ℕ))) : ℤ) * ((↑(spanOf (w339.core.get (F.RAIL_CFG_RANGE (↑(11 : Fin (48 : ℕ)) : ℕ)))) : ℤ) * (100 : ℤ))) ∨ (w339.core.rail (11 : Fin (48 : ℕ))).shows true = true ∧ ¬if true = true then (0 : ℤ) < ((↑(w339.core.get (F.RAIL_WSTATUS_OVCODE (↑(11 : Fin (48 : ℕ)) : ℕ))) : ℤ) - (↑(w339.core.get (F.RAIL_WCFG_HYS (↑(11 : Fin (48 : ℕ)) : ℕ))) : ℤ)) * ((↑(spanOf (w339.core.get (F.RAIL_CFG_RANGE (↑(11 : Fin (48 : ℕ)) : ℕ)))) : ℤ) * (100 : ℤ)) else ((↑(w339.core.get (F.RAIL_WSTATUS_UVCODE (↑(11 : Fin (48 : ℕ)) : ℕ))) : ℤ) + (↑(w339.core.get (F.RAIL_WCFG_HYS (↑(11 : Fin (48 : ℕ)) : ℕ))) : ℤ)) * ((↑(spanOf (w339.core.get (F.RAIL_CFG_RANGE (↑(11 : Fin (48 : ℕ)) : ℕ)))) : ℤ) * (100 : ℤ)) < (0 : ℤ)) ∧
    (w339.core.live = true) ∧
    (w339.core.mainAlive = true) ∧
    (w339.core.eff = Mode.watch) ∧
    (w339.core.sampled = false) ∧
    (w339.core.closeAt + 2000 ≤ w339.at 50000) ∧
    (∀ (c : Fin 6), (w339.core.cv c).wtest = none) ∧
    (w340.core.live = true) ∧
    (w340.core.eff ≠ Mode.watch) ∧
    ((w340.core.cv (cvOf 11)).wtest = none) ∧
    (if true = true then (w340.core.rail 11).code ≠ RailCode.unused else (w340.core.rail 11).code = RailCode.good) ∧
    ((w340.core.rail 11).shows true = false) ∧
    (if true = true then (↑(w340.core.get (F.RAIL_WSTATUS_OVCODE (↑(11 : Fin (48 : ℕ)) : ℕ))) : ℤ) * ((↑(spanOf (w340.core.get (F.RAIL_CFG_RANGE (↑(11 : Fin (48 : ℕ)) : ℕ)))) : ℤ) * (100 : ℤ)) < (800001024 : ℤ) else (800001024 : ℤ) < (↑(w340.core.get (F.RAIL_WSTATUS_UVCODE (↑(11 : Fin (48 : ℕ)) : ℕ))) : ℤ) * ((↑(spanOf (w340.core.get (F.RAIL_CFG_RANGE (↑(11 : Fin (48 : ℕ)) : ℕ)))) : ℤ) * (100 : ℤ))) ∧
    (w340.core.get (latchFld 11 true) = 0) ∧
    (w340.core.get (routeCap 11 true) = 0) ∧
    (w340.core.get (routeWake 11 true) = 0) ∧
    (w341.core.live = true) ∧
    (w341.core.eff ≠ Mode.watch) ∧
    ((w341.core.cv (cvOf 11)).wtest = none) ∧
    ((w341.core.rail 11).ovLive = true) ∧
    (if true = true then (795199488 : ℤ) < ((↑(w341.core.get (F.RAIL_WSTATUS_OVCODE (↑(11 : Fin (48 : ℕ)) : ℕ))) : ℤ) - (↑(w341.core.get (F.RAIL_WCFG_HYS (↑(11 : Fin (48 : ℕ)) : ℕ))) : ℤ)) * ((↑(spanOf (w341.core.get (F.RAIL_CFG_RANGE (↑(11 : Fin (48 : ℕ)) : ℕ)))) : ℤ) * (100 : ℤ)) else ((↑(w341.core.get (F.RAIL_WSTATUS_UVCODE (↑(11 : Fin (48 : ℕ)) : ℕ))) : ℤ) + (↑(w341.core.get (F.RAIL_WCFG_HYS (↑(11 : Fin (48 : ℕ)) : ℕ))) : ℤ)) * ((↑(spanOf (w341.core.get (F.RAIL_CFG_RANGE (↑(11 : Fin (48 : ℕ)) : ℕ)))) : ℤ) * (100 : ℤ)) < (795199488 : ℤ)) ∧
    (w342.core.live = true) ∧
    (w342.core.eff ≠ Mode.watch) ∧
    ((w342.core.cv (cvOf 11)).wtest = none) ∧
    ((w342.core.rail 11).uvLive = true) ∧
    (((↑(w342.core.get (F.RAIL_WSTATUS_UVCODE (↑(11 : Fin (48 : ℕ)) : ℕ))) : ℤ) + (↑(w342.core.get (F.RAIL_WCFG_HYS (↑(11 : Fin (48 : ℕ)) : ℕ))) : ℤ)) * ((↑(spanOf (w342.core.get (F.RAIL_CFG_RANGE (↑(11 : Fin (48 : ℕ)) : ℕ)))) : ℤ) * (100 : ℤ)) < (800001024 : ℤ)) ∧
    ((w342.core.rail 11).code = RailCode.good) ∧
    ((w343.core.cv (cvOf 11)).wtest = some { rail := 11, ov := true, step := 1, since := 7, badUv := false, badOv := false, probe := true : WTest }) ∧
    (w343.core.mainAlive = true) ∧
    (w343.core.testPaused { rail := 11, ov := true, step := 1, since := 7, badUv := false, badOv := false, probe := true : WTest } = false) ∧
    (1007 ≤ w343.at 9000) ∧
    (true = !(w343.core.rail 11).shows true) ∧
    ((1 : ℕ) ≤ (1 : ℕ)) ∧
    ((1 : ℕ) ≤ (3 : ℕ)) ∧
    ((w344.core.cv (cvOf 11)).wtest = some { rail := 11, ov := true, step := 1, since := 7, badUv := false, badOv := false, probe := true : WTest }) ∧
    (w344.core.mainAlive = true) ∧
    (w344.core.testPaused { rail := 11, ov := true, step := 1, since := 7, badUv := false, badOv := false, probe := true : WTest } = false) ∧
    (1007 ≤ w344.at 9000) ∧
    (true ≠ !(w344.core.rail 11).shows true) ∧
    ((w345.core.cv (cvOf 11)).wtest = some { rail := 11, ov := true, step := 4, since := 7, badUv := false, badOv := false, probe := true : WTest }) ∧
    (w345.core.mainAlive = true) ∧
    (w345.core.testPaused { rail := 11, ov := true, step := 4, since := 7, badUv := false, badOv := false, probe := true : WTest } = false) ∧
    (4007 ≤ w345.at 9000) ∧
    (false = !true) ∧
    ((w346.core.cv (cvOf 11)).wtest = some { rail := 11, ov := false, step := 4, since := 7, badUv := false, badOv := false, probe := true : WTest }) ∧
    (w346.core.mainAlive = true) ∧
    (w346.core.testPaused { rail := 11, ov := false, step := 4, since := 7, badUv := false, badOv := false, probe := true : WTest } = false) ∧
    (4007 ≤ w346.at 9000) ∧
    (true = !false) ∧
    ((w347.core.cv 1).restore = some 5) ∧
    (5005 ≤ w347.at 9000) := by
  refine ⟨?_, ?_, ?_, ?_, ?_, ?_, ?_, ?_, ?_, ?_, ?_, ?_, ?_, ?_, ?_, ?_, ?_, ?_, ?_, ?_, ?_, ?_, ?_, ?_, ?_, ?_, ?_, ?_, ?_, ?_, ?_, ?_, ?_, ?_, ?_, ?_, ?_, ?_, ?_, ?_, ?_, ?_, ?_, ?_, ?_, ?_, ?_, ?_, ?_, ?_, ?_⟩ <;> decide +kernel

/-! ### Witnesses: Modulator -/

def w348 : State := st { (puts runDev [(F.SC_MAP_COUNT 3, 2), (F.SC_MAP_FIRST 3, 4), (F.SC_MOD_FSW 3, 50), (F.SC_CFG_DIVK 3, 1), (F.PH_ICFG_GAIN 4, 5), (F.PH_ICFG_RIS 4, 100), (F.PH_ICFG_IZERO 4, 1000), (F.PH_ICFG_GAIN 5, 5), (F.PH_ICFG_RIS 5, 100), (F.SC_CFG_FFVNOM 3, 100), (F.SC_VOUT_VSET 3, 1000), (F.SC_LIM_IRATED 3, 100), (F.SC_LIM_IDIS 3, 10), (F.SC_SOFT_TIME 3, 10), (F.SC_SOFT_STOP 3, 10), (F.SC_PLIM_IVAL 3, 100), (F.SC_PLIM_IPK 3, 200), (F.SC_MOD_RAMP 3, 10), (F.SC_STATUS_OP 3, 2), (F.SC_CFG_DEM 3, 0)]) with scs := runDev.scs.set 3 { ref0 := 1000000, itot := 0, rampAt := none } }
def w349 : State := st { ((puts runDev [(F.SC_MAP_COUNT 3, 2), (F.SC_MAP_FIRST 3, 4), (F.SC_MOD_FSW 3, 50), (F.SC_CFG_DIVK 3, 1), (F.PH_ICFG_GAIN 4, 5), (F.PH_ICFG_RIS 4, 100), (F.PH_ICFG_IZERO 4, 1000), (F.PH_ICFG_GAIN 5, 5), (F.PH_ICFG_RIS 5, 100), (F.SC_CFG_FFVNOM 3, 100), (F.SC_VOUT_VSET 3, 1000), (F.SC_LIM_IRATED 3, 100), (F.SC_LIM_IDIS 3, 10), (F.SC_SOFT_TIME 3, 10), (F.SC_SOFT_STOP 3, 10), (F.SC_PLIM_IVAL 3, 100), (F.SC_PLIM_IPK 3, 200), (F.SC_MOD_RAMP 3, 10), (F.SC_STATUS_OP 3, 4), (F.SC_CFG_DEM 3, 0), (F.PH_IMEAS_WORD 4, 0), (F.SC_CFG_OVLOW 3, 0)]).setRail 3 { ovLive := false }) with phs := runDev.phs.set 4 { onAt := some 5, onLen := 100, mid := true, dmid := true }, scs := runDev.scs.set 3 { ref0 := 0, rampAt := some 3 } }
def w350 : State := st ((puts runDev [(F.MD_CODE_TARGET 3, 5), (F.MD_CODE_PRESENT 3, 3), (F.MD_CFG_RAIL 3, 9), (F.MD_CODE_STOPPED 3, 0), (F.MD_CODE_VAULT 3, 0), (F.RAIL_UVTH_UVTH 9, 9000), (F.RAIL_OVTH_OVTH 9, 11000), (F.MG_CFG_MDSTEP, 1), (F.MG_CFG_GUARD, 1)]).setRail 9 { result := none, code := .good })
def w351 : State := st { ((puts runDev [(F.SC_MAP_COUNT 3, 2), (F.SC_MAP_FIRST 3, 4), (F.SC_MOD_FSW 3, 50), (F.SC_CFG_DIVK 3, 1), (F.PH_ICFG_GAIN 4, 5), (F.PH_ICFG_RIS 4, 100), (F.PH_ICFG_IZERO 4, 1000), (F.PH_ICFG_GAIN 5, 5), (F.PH_ICFG_RIS 5, 100), (F.SC_CFG_FFVNOM 3, 100), (F.SC_VOUT_VSET 3, 1000), (F.SC_LIM_IRATED 3, 100), (F.SC_LIM_IDIS 3, 10), (F.SC_SOFT_TIME 3, 10), (F.SC_SOFT_STOP 3, 10), (F.SC_PLIM_IVAL 3, 100), (F.SC_PLIM_IPK 3, 200), (F.SC_MOD_RAMP 3, 10), (F.SC_STATUS_OP 3, 0), (F.SC_CFG_DEM 3, 0), (F.PH_IMEAS_WORD 4, 1038576), (F.SC_CFG_OVLOW 3, 0)]).setRail 3 { ovLive := false }) with phs := runDev.phs.set 4 { onAt := some 5, onLen := 100, mid := true, dmid := true }, scs := runDev.scs.set 3 { ref0 := 0, rampAt := some 3 } }
def w352 : State := st { ((puts runDev [(F.SC_MAP_COUNT 3, 2), (F.SC_MAP_FIRST 3, 4), (F.SC_MOD_FSW 3, 50), (F.SC_CFG_DIVK 3, 1), (F.PH_ICFG_GAIN 4, 5), (F.PH_ICFG_RIS 4, 100), (F.PH_ICFG_IZERO 4, 1000), (F.PH_ICFG_GAIN 5, 5), (F.PH_ICFG_RIS 5, 100), (F.SC_CFG_FFVNOM 3, 100), (F.SC_VOUT_VSET 3, 1000), (F.SC_LIM_IRATED 3, 100), (F.SC_LIM_IDIS 3, 10), (F.SC_SOFT_TIME 3, 10), (F.SC_SOFT_STOP 3, 10), (F.SC_PLIM_IVAL 3, 100), (F.SC_PLIM_IPK 3, 200), (F.SC_MOD_RAMP 3, 10), (F.SC_STATUS_OP 3, 1), (F.SC_CFG_DEM 3, 0), (F.PH_IMEAS_WORD 4, 1038576), (F.SC_CFG_OVLOW 3, 1)]).setRail 3 { ovLive := true }) with phs := runDev.phs.set 4 { onAt := none, onLen := 100, mid := false, dmid := false }, scs := runDev.scs.set 3 { ref0 := 0, rampAt := none } }
def w353 : State := st { (puts runDev [(F.SC_MAP_COUNT 3, 2), (F.SC_MAP_FIRST 3, 4), (F.SC_MOD_FSW 3, 50), (F.SC_CFG_DIVK 3, 1), (F.PH_ICFG_GAIN 4, 5), (F.PH_ICFG_RIS 4, 100), (F.PH_ICFG_IZERO 4, 1000), (F.PH_ICFG_GAIN 5, 5), (F.PH_ICFG_RIS 5, 100), (F.SC_CFG_FFVNOM 3, 100), (F.SC_VOUT_VSET 3, 1000), (F.SC_LIM_IRATED 3, 100), (F.SC_LIM_IDIS 3, 10), (F.SC_SOFT_TIME 3, 10), (F.SC_SOFT_STOP 3, 10), (F.SC_PLIM_IVAL 3, 100), (F.SC_PLIM_IPK 3, 200), (F.SC_MOD_RAMP 3, 10), (F.SC_STATUS_OP 3, 2), (F.SC_CFG_DEM 3, 0)]) with scs := runDev.scs.set 3 { ref0 := 1000000, itot := 0, rampAt := none }, phs := runDev.phs.set 5 { onAt := some 9 } }
def w354 : State := st { (puts runDev [(F.SC_MAP_COUNT 3, 2), (F.SC_MAP_FIRST 3, 4), (F.SC_MOD_FSW 3, 50), (F.SC_CFG_DIVK 3, 1), (F.PH_ICFG_GAIN 4, 5), (F.PH_ICFG_RIS 4, 100), (F.PH_ICFG_IZERO 4, 1000), (F.PH_ICFG_GAIN 5, 5), (F.PH_ICFG_RIS 5, 100), (F.SC_CFG_FFVNOM 3, 100), (F.SC_VOUT_VSET 3, 1000), (F.SC_LIM_IRATED 3, 100), (F.SC_LIM_IDIS 3, 10), (F.SC_SOFT_TIME 3, 10), (F.SC_SOFT_STOP 3, 10), (F.SC_PLIM_IVAL 3, 100), (F.SC_PLIM_IPK 3, 200), (F.SC_MOD_RAMP 3, 10), (F.SC_STATUS_OP 3, 2), (F.SC_CFG_DEM 3, 0)]) with scs := runDev.scs.set 3 { ref0 := 1000000, itot := 10000000, rampAt := none } }
def w355 : State := st { ((puts runDev [(F.SC_MAP_COUNT 3, 2), (F.SC_MAP_FIRST 3, 4), (F.SC_MOD_FSW 3, 50), (F.SC_CFG_DIVK 3, 1), (F.PH_ICFG_GAIN 4, 5), (F.PH_ICFG_RIS 4, 100), (F.PH_ICFG_IZERO 4, 1000), (F.PH_ICFG_GAIN 5, 5), (F.PH_ICFG_RIS 5, 100), (F.SC_CFG_FFVNOM 3, 100), (F.SC_VOUT_VSET 3, 1000), (F.SC_LIM_IRATED 3, 100), (F.SC_LIM_IDIS 3, 10), (F.SC_SOFT_TIME 3, 10), (F.SC_SOFT_STOP 3, 10), (F.SC_PLIM_IVAL 3, 100), (F.SC_PLIM_IPK 3, 200), (F.SC_MOD_RAMP 3, 10), (F.SC_STATUS_OP 3, 5), (F.SC_CFG_DEM 3, 0), (F.PH_IMEAS_WORD 4, 0), (F.SC_CFG_OVLOW 3, 0)]).setRail 3 { ovLive := false }) with phs := runDev.phs.set 4 { onAt := none, onLen := 100, mid := true, dmid := true }, scs := runDev.scs.set 3 { ref0 := 0, rampAt := some 3 } }
def w356 : State := st ((puts runDev [(F.MD_CODE_TARGET 3, 5), (F.MD_CODE_PRESENT 3, 3), (F.MD_CFG_RAIL 3, 9), (F.MD_CODE_STOPPED 3, 0), (F.MD_CODE_VAULT 3, 1), (F.RAIL_UVTH_UVTH 9, 9000), (F.RAIL_OVTH_OVTH 9, 11000), (F.MG_CFG_MDSTEP, 1), (F.MG_CFG_GUARD, 1)]).setRail 9 { result := none, code := .good })
def w357 : State := st ((puts runDev [(F.MD_CODE_TARGET 3, 5), (F.MD_CODE_PRESENT 3, 3), (F.MD_CFG_RAIL 3, 9), (F.MD_CODE_STOPPED 3, 0), (F.MD_CODE_VAULT 3, 0), (F.RAIL_UVTH_UVTH 9, 9000), (F.RAIL_OVTH_OVTH 9, 11000), (F.MG_CFG_MDSTEP, 1), (F.MG_CFG_GUARD, 1)]).setRail 9 { result := some 10000, code := .good })

/-- Every hypothesis of Modulator is met. -/
theorem wit_Modulator :
    (w348.core.live = true) ∧
    (w348.core.mainAlive = true) ∧
    (w348.core.get (F.SC_STATUS_OP ↑3) = 2 ∨ w348.core.get (F.SC_STATUS_OP ↑3) = 3 ∨ w348.core.get (F.SC_STATUS_OP ↑3) = 4) ∧
    (w348.core.get F.SAFE_STATUS_CLKFAIL ≠ 1) ∧
    ((w348.core.rail 3).ovLive = false) ∧
    (w348.core.pwr.vsupLow = false) ∧
    (w348.core.phasesOf ↑3 ≠ []) ∧
    ((w348.core.sc (3 : Fin (8 : ℕ))).want = true ∨ (↑((12000 : ℕ) * w348.core.get (F.SC_CFG_DIVK (↑(3 : Fin (8 : ℕ)) : ℕ))) : ℤ) < (↑((w348.advance (5000 : ℕ)).core.scRef (3 : Fin (8 : ℕ))) : ℤ) + ((w348.core.sc (3 : Fin (8 : ℕ))).rampAt.elim (-(↑(w348.core.get (F.SC_MOD_RAMP (↑(3 : Fin (8 : ℕ)) : ℕ)) * (500 : ℕ)) : ℤ)) fun a => max (-(↑(w348.core.get (F.SC_MOD_RAMP (↑(3 : Fin (8 : ℕ)) : ℕ)) * (500 : ℕ)) : ℤ)) ((↑(w348.core.get (F.SC_MOD_RAMP (↑(3 : Fin (8 : ℕ)) : ℕ)) * (500 : ℕ)) : ℤ) - (↑(w348.core.get (F.SC_MOD_RAMP (↑(3 : Fin (8 : ℕ)) : ℕ)) * w348.core.get (F.SC_MAP_COUNT (↑(3 : Fin (8 : ℕ)) : ℕ)) * w348.core.get (F.SC_MOD_FSW (↑(3 : Fin (8 : ℕ)) : ℕ)) * (w348.at (5000 : ℕ) - a) / (100 : ℕ)) : ℤ))) * (↑(w348.core.get (F.SC_CFG_DIVK (↑(3 : Fin (8 : ℕ)) : ℕ))) : ℤ)) ∧
    (w348.core.overTotal 3 = false) ∧
    (List.filter (w348.advance 5000).core.phaseReady ((w348.advance 5000).core.rotation 3) = [4, 5]) ∧
    ((8 : ℤ) * [(50000 : ℤ), (50000 : ℤ), (50000 : ℤ), (50000 : ℤ), (50000 : ℤ), (50000 : ℤ), (50000 : ℤ), (50000 : ℤ), (50000 : ℤ), (50000 : ℤ), (50000 : ℤ), (50000 : ℤ), (50000 : ℤ), (50000 : ℤ), (50000 : ℤ), (50000 : ℤ), (50000 : ℤ), (50000 : ℤ), (50000 : ℤ), (50000 : ℤ), (50000 : ℤ), (50000 : ℤ), (50000 : ℤ), (50000 : ℤ)].getD (↑(4 : Fin (24 : ℕ)) : ℕ) (0 : ℤ) ≤ (↑(w348.core.get (F.SC_PLIM_IVAL (↑(3 : Fin (8 : ℕ)) : ℕ)) * (500 : ℕ) * ((8 : ℕ) - (w348.core.level - (4 : ℕ)))) : ℤ)) ∧
    ((w348.advance 5000).core.ffVolts ↑3 * w348.core.get (F.SC_MOD_FSW ↑3) ≠ 0) ∧
    ((if (2 * (w348.advance 5000).core.scRef 3 * 1000 + (w348.advance 5000).core.ffVolts ↑3 * w348.core.get (F.SC_MOD_FSW ↑3)) / (2 * ((w348.advance 5000).core.ffVolts ↑3 * w348.core.get (F.SC_MOD_FSW ↑3))) + w348.core.get (F.SC_CFG_TADD ↑3) < 30 then 30 else if 100000 < ((2 * (w348.advance 5000).core.scRef 3 * 1000 + (w348.advance 5000).core.ffVolts ↑3 * w348.core.get (F.SC_MOD_FSW ↑3)) / (2 * ((w348.advance 5000).core.ffVolts ↑3 * w348.core.get (F.SC_MOD_FSW ↑3))) + w348.core.get (F.SC_CFG_TADD ↑3) + 150) * w348.core.get (F.SC_MOD_FSW ↑3) then 100000 / w348.core.get (F.SC_MOD_FSW ↑3) - 150 else (2 * (w348.advance 5000).core.scRef 3 * 1000 + (w348.advance 5000).core.ffVolts ↑3 * w348.core.get (F.SC_MOD_FSW ↑3)) / (2 * ((w348.advance 5000).core.ffVolts ↑3 * w348.core.get (F.SC_MOD_FSW ↑3))) + w348.core.get (F.SC_CFG_TADD ↑3)) < 8192) ∧
    (w348.core.ctlOf 4 = some 3) ∧
    ((w348.core.ph 4).onAt = none) ∧
    (w348.core.get (F.PH_STATUS_EXCL ↑4) ≠ 1) ∧
    (w348.core.get (F.SC_STATUS_OP ↑3) = 2 ∨ w348.core.get (F.SC_STATUS_OP ↑3) = 3 ∧ w348.core.get (F.SC_CFG_DEM ↑3) = 1) ∧
    (signed (20 : ℕ) (w348.core.get (F.PH_IMEAS_WORD (↑(4 : Fin (24 : ℕ)) : ℕ)) % (1048576 : ℕ)) ≤ (0 : ℤ)) ∧
    (w348.core.get (F.SC_STATUS_OP ↑3) = 2) ∧
    ((w348.advance 5000).core.scRef 3 = (w348.advance 5000).core.scTarget ↑3) ∧
    (w349.core.live = true) ∧
    (w349.core.mainAlive = true) ∧
    (w349.core.get (F.SC_STATUS_OP ↑3) = 2 ∨ w349.core.get (F.SC_STATUS_OP ↑3) = 3 ∨ w349.core.get (F.SC_STATUS_OP ↑3) = 4) ∧
    (w349.core.get F.SAFE_STATUS_CLKFAIL ≠ 1) ∧
    ((w349.core.rail 3).ovLive = false) ∧
    (w349.core.pwr.vsupLow = false) ∧
    (w349.core.phasesOf ↑3 ≠ []) ∧
    ((w349.core.sc 3).want = false) ∧
    (¬(↑((12000 : ℕ) * w349.core.get (F.SC_CFG_DIVK (↑(3 : Fin (8 : ℕ)) : ℕ))) : ℤ) < (↑((w349.advance (5000 : ℕ)).core.scRef (3 : Fin (8 : ℕ))) : ℤ) + ((w349.core.sc (3 : Fin (8 : ℕ))).rampAt.elim (-(↑(w349.core.get (F.SC_MOD_RAMP (↑(3 : Fin (8 : ℕ)) : ℕ)) * (500 : ℕ)) : ℤ)) fun a => max (-(↑(w349.core.get (F.SC_MOD_RAMP (↑(3 : Fin (8 : ℕ)) : ℕ)) * (500 : ℕ)) : ℤ)) ((↑(w349.core.get (F.SC_MOD_RAMP (↑(3 : Fin (8 : ℕ)) : ℕ)) * (500 : ℕ)) : ℤ) - (↑(w349.core.get (F.SC_MOD_RAMP (↑(3 : Fin (8 : ℕ)) : ℕ)) * w349.core.get (F.SC_MAP_COUNT (↑(3 : Fin (8 : ℕ)) : ℕ)) * w349.core.get (F.SC_MOD_FSW (↑(3 : Fin (8 : ℕ)) : ℕ)) * (w349.at (5000 : ℕ) - a) / (100 : ℕ)) : ℤ))) * (↑(w349.core.get (F.SC_CFG_DIVK (↑(3 : Fin (8 : ℕ)) : ℕ))) : ℤ)) ∧
    (w349.core.ctlOf 4 = some 3) ∧
    ((w349.core.ph 4).onAt = some 5) ∧
    (5 + (w349.core.ph 4).onLen ≤ w349.at 5000) ∧
    ((800000 : ℤ) ≤ (↑(w349.core.get (F.SC_PLIM_IPK (↑(3 : Fin (8 : ℕ)) : ℕ)) * (500 : ℕ) * ((8 : ℕ) - (w349.core.level - (4 : ℕ)))) : ℤ)) ∧
    (w349.core.get (F.SC_STATUS_OP ↑3) = 4) ∧
    ((w349.advance 5000).core.scRef 3 = 0) ∧
    (w350.core.live = true) ∧
    (w350.core.mainAlive = true) ∧
    (w350.core.get (F.MD_CODE_TARGET ↑3) < 1024) ∧
    (w350.core.get (F.MD_CODE_PRESENT ↑3) < 1024) ∧
    (signed (10 : ℕ) (w350.core.get (F.MD_CODE_PRESENT (↑(3 : Fin (16 : ℕ)) : ℕ))) ≠ signed (10 : ℕ) (w350.core.get (F.MD_CODE_TARGET (↑(3 : Fin (16 : ℕ)) : ℕ)))) ∧
    (w350.core.mdAt.get 3 + w350.core.get F.MG_CFG_MDSTEP * 1000 ≤ w350.at 5000000) ∧
    (w350.core.get (F.MD_CODE_VAULT ↑3) ≠ 1) ∧
    (w350.core.mdInside 3 = false) ∧
    ((signed (10 : ℕ) (w350.core.get (F.MD_CODE_PRESENT (↑(3 : Fin (16 : ℕ)) : ℕ)))).natAbs < (if signed (10 : ℕ) (w350.core.get (F.MD_CODE_PRESENT (↑(3 : Fin (16 : ℕ)) : ℕ))) < signed (10 : ℕ) (w350.core.get (F.MD_CODE_TARGET (↑(3 : Fin (16 : ℕ)) : ℕ))) then signed (10 : ℕ) (w350.core.get (F.MD_CODE_PRESENT (↑(3 : Fin (16 : ℕ)) : ℕ))) + (1 : ℤ) else signed (10 : ℕ) (w350.core.get (F.MD_CODE_PRESENT (↑(3 : Fin (16 : ℕ)) : ℕ))) - (1 : ℤ)).natAbs) ∧
    (w350.core.get (F.MD_CODE_STOPPED ↑3) = 0) ∧
    (w351.core.ctlOf 4 = some 3) ∧
    ((w351.core.ph 4).onAt = some 5) ∧
    ((↑(w351.core.get (F.SC_PLIM_IPK (↑(3 : Fin (8 : ℕ)) : ℕ)) * (500 : ℕ) * ((8 : ℕ) - (w351.core.level - (4 : ℕ)))) : ℤ) < (800008 : ℤ)) ∧
    (w352.core.ctlOf 4 = some 3) ∧
    ((w352.core.ph 4).onAt = none) ∧
    (w352.core.get (F.PH_STATUS_EXCL ↑4) ≠ 1) ∧
    (w352.core.get (F.SC_STATUS_OP ↑3) = 5 ∧ (w352.core.rail 3).ovLive = false ∨ w352.core.get (F.SC_STATUS_OP ↑3) ≠ 0 ∧ w352.core.get (F.SC_STATUS_OP ↑3) ≠ 6 ∧ (w352.core.rail 3).ovLive = true ∧ w352.core.get (F.SC_CFG_OVLOW ↑3) = 1) ∧
    ((w352.core.ph 4).dmid = false) ∧
    (signed (20 : ℕ) (w352.core.get (F.PH_IMEAS_WORD (↑(4 : Fin (24 : ℕ)) : ℕ)) % (1048576 : ℕ)) ≤ -(↑(w352.core.get (F.SC_LIM_IDIS (↑(3 : Fin (8 : ℕ)) : ℕ)) * (1000 : ℕ)) : ℤ)) ∧
    (w353.core.live = true) ∧
    (w353.core.mainAlive = true) ∧
    (w353.core.get (F.SC_STATUS_OP ↑3) = 2 ∨ w353.core.get (F.SC_STATUS_OP ↑3) = 3 ∨ w353.core.get (F.SC_STATUS_OP ↑3) = 4) ∧
    (w353.core.get F.SAFE_STATUS_CLKFAIL ≠ 1) ∧
    ((w353.core.rail 3).ovLive = false) ∧
    (w353.core.pwr.vsupLow = false) ∧
    (w353.core.phasesOf ↑3 ≠ []) ∧
    ((w353.core.sc (3 : Fin (8 : ℕ))).want = true ∨ (↑((12000 : ℕ) * w353.core.get (F.SC_CFG_DIVK (↑(3 : Fin (8 : ℕ)) : ℕ))) : ℤ) < (↑((w353.advance (5000 : ℕ)).core.scRef (3 : Fin (8 : ℕ))) : ℤ) + ((w353.core.sc (3 : Fin (8 : ℕ))).rampAt.elim (-(↑(w353.core.get (F.SC_MOD_RAMP (↑(3 : Fin (8 : ℕ)) : ℕ)) * (500 : ℕ)) : ℤ)) fun a => max (-(↑(w353.core.get (F.SC_MOD_RAMP (↑(3 : Fin (8 : ℕ)) : ℕ)) * (500 : ℕ)) : ℤ)) ((↑(w353.core.get (F.SC_MOD_RAMP (↑(3 : Fin (8 : ℕ)) : ℕ)) * (500 : ℕ)) : ℤ) - (↑(w353.core.get (F.SC_MOD_RAMP (↑(3 : Fin (8 : ℕ)) : ℕ)) * w353.core.get (F.SC_MAP_COUNT (↑(3 : Fin (8 : ℕ)) : ℕ)) * w353.core.get (F.SC_MOD_FSW (↑(3 : Fin (8 : ℕ)) : ℕ)) * (w353.at (5000 : ℕ) - a) / (100 : ℕ)) : ℤ))) * (↑(w353.core.get (F.SC_CFG_DIVK (↑(3 : Fin (8 : ℕ)) : ℕ))) : ℤ)) ∧
    (w353.core.overTotal 3 = false) ∧
    (List.filter (w353.advance 5000).core.phaseReady ((w353.advance 5000).core.rotation 3) = [4]) ∧
    ((↑(w353.core.get (F.SC_PLIM_IVAL (↑(3 : Fin (8 : ℕ)) : ℕ)) * (500 : ℕ) * ((8 : ℕ) - (w353.core.level - (4 : ℕ)))) : ℤ) < (8 : ℤ) * [(60000 : ℤ), (60000 : ℤ), (60000 : ℤ), (60000 : ℤ), (60000 : ℤ), (60000 : ℤ), (60000 : ℤ), (60000 : ℤ), (60000 : ℤ), (60000 : ℤ), (60000 : ℤ), (60000 : ℤ), (60000 : ℤ), (60000 : ℤ), (60000 : ℤ), (60000 : ℤ), (60000 : ℤ), (60000 : ℤ), (60000 : ℤ), (60000 : ℤ), (60000 : ℤ), (60000 : ℤ), (60000 : ℤ), (60000 : ℤ)].getD (↑(4 : Fin (24 : ℕ)) : ℕ) (0 : ℤ)) ∧
    (w354.core.live = true) ∧
    (w354.core.mainAlive = true) ∧
    (w354.core.get (F.SC_STATUS_OP ↑3) = 2 ∨ w354.core.get (F.SC_STATUS_OP ↑3) = 3 ∨ w354.core.get (F.SC_STATUS_OP ↑3) = 4) ∧
    (w354.core.get F.SAFE_STATUS_CLKFAIL ≠ 1) ∧
    ((w354.core.rail 3).ovLive = false) ∧
    (w354.core.pwr.vsupLow = false) ∧
    (w354.core.phasesOf ↑3 ≠ []) ∧
    ((w354.core.sc (3 : Fin (8 : ℕ))).want = true ∨ (↑((12000 : ℕ) * w354.core.get (F.SC_CFG_DIVK (↑(3 : Fin (8 : ℕ)) : ℕ))) : ℤ) < (↑((w354.advance (5000 : ℕ)).core.scRef (3 : Fin (8 : ℕ))) : ℤ) + ((w354.core.sc (3 : Fin (8 : ℕ))).rampAt.elim (-(↑(w354.core.get (F.SC_MOD_RAMP (↑(3 : Fin (8 : ℕ)) : ℕ)) * (500 : ℕ)) : ℤ)) fun a => max (-(↑(w354.core.get (F.SC_MOD_RAMP (↑(3 : Fin (8 : ℕ)) : ℕ)) * (500 : ℕ)) : ℤ)) ((↑(w354.core.get (F.SC_MOD_RAMP (↑(3 : Fin (8 : ℕ)) : ℕ)) * (500 : ℕ)) : ℤ) - (↑(w354.core.get (F.SC_MOD_RAMP (↑(3 : Fin (8 : ℕ)) : ℕ)) * w354.core.get (F.SC_MAP_COUNT (↑(3 : Fin (8 : ℕ)) : ℕ)) * w354.core.get (F.SC_MOD_FSW (↑(3 : Fin (8 : ℕ)) : ℕ)) * (w354.at (5000 : ℕ) - a) / (100 : ℕ)) : ℤ))) * (↑(w354.core.get (F.SC_CFG_DIVK (↑(3 : Fin (8 : ℕ)) : ℕ))) : ℤ)) ∧
    (w354.core.overTotal 3 = true) ∧
    (w355.core.ctlOf 4 = some 3) ∧
    ((w355.core.ph 4).onAt = none) ∧
    (w355.core.get (F.PH_STATUS_EXCL ↑4) ≠ 1) ∧
    (w355.core.get (F.SC_STATUS_OP ↑3) = 5 ∧ (w355.core.rail 3).ovLive = false ∨ w355.core.get (F.SC_STATUS_OP ↑3) ≠ 0 ∧ w355.core.get (F.SC_STATUS_OP ↑3) ≠ 6 ∧ (w355.core.rail 3).ovLive = true ∧ w355.core.get (F.SC_CFG_OVLOW ↑3) = 1) ∧
    ((w355.core.ph 4).dmid = true) ∧
    ((0 : ℤ) ≤ signed (20 : ℕ) (w355.core.get (F.PH_IMEAS_WORD (↑(4 : Fin (24 : ℕ)) : ℕ)) % (1048576 : ℕ))) ∧
    (w356.core.live = true) ∧
    (w356.core.mainAlive = true) ∧
    (w356.core.get (F.MD_CODE_TARGET ↑3) < 1024) ∧
    (w356.core.get (F.MD_CODE_PRESENT ↑3) < 1024) ∧
    (signed (10 : ℕ) (w356.core.get (F.MD_CODE_PRESENT (↑(3 : Fin (16 : ℕ)) : ℕ))) ≠ signed (10 : ℕ) (w356.core.get (F.MD_CODE_TARGET (↑(3 : Fin (16 : ℕ)) : ℕ)))) ∧
    (w356.core.mdAt.get 3 + w356.core.get F.MG_CFG_MDSTEP * 1000 ≤ w356.at 5000000) ∧
    (w356.core.get (F.MD_CODE_VAULT ↑3) = 1) ∧
    (w357.core.live = true) ∧
    (w357.core.mainAlive = true) ∧
    (w357.core.get (F.MD_CODE_TARGET ↑3) < 1024) ∧
    (w357.core.get (F.MD_CODE_PRESENT ↑3) < 1024) ∧
    (signed (10 : ℕ) (w357.core.get (F.MD_CODE_PRESENT (↑(3 : Fin (16 : ℕ)) : ℕ))) ≠ signed (10 : ℕ) (w357.core.get (F.MD_CODE_TARGET (↑(3 : Fin (16 : ℕ)) : ℕ)))) ∧
    (w357.core.mdAt.get 3 + w357.core.get F.MG_CFG_MDSTEP * 1000 ≤ w357.at 5000000) ∧
    (w357.core.get (F.MD_CODE_VAULT ↑3) ≠ 1) ∧
    (w357.core.mdInside (3 : Fin (16 : ℕ)) = true ∨ (if signed (10 : ℕ) (w357.core.get (F.MD_CODE_PRESENT (↑(3 : Fin (16 : ℕ)) : ℕ))) < signed (10 : ℕ) (w357.core.get (F.MD_CODE_TARGET (↑(3 : Fin (16 : ℕ)) : ℕ))) then signed (10 : ℕ) (w357.core.get (F.MD_CODE_PRESENT (↑(3 : Fin (16 : ℕ)) : ℕ))) + (1 : ℤ) else signed (10 : ℕ) (w357.core.get (F.MD_CODE_PRESENT (↑(3 : Fin (16 : ℕ)) : ℕ))) - (1 : ℤ)).natAbs ≤ (signed (10 : ℕ) (w357.core.get (F.MD_CODE_PRESENT (↑(3 : Fin (16 : ℕ)) : ℕ)))).natAbs) := by
  refine ⟨?_, ?_, ?_, ?_, ?_, ?_, ?_, ?_, ?_, ?_, ?_, ?_, ?_, ?_, ?_, ?_, ?_, ?_, ?_, ?_, ?_, ?_, ?_, ?_, ?_, ?_, ?_, ?_, ?_, ?_, ?_, ?_, ?_, ?_, ?_, ?_, ?_, ?_, ?_, ?_, ?_, ?_, ?_, ?_, ?_, ?_, ?_, ?_, ?_, ?_, ?_, ?_, ?_, ?_, ?_, ?_, ?_, ?_, ?_, ?_, ?_, ?_, ?_, ?_, ?_, ?_, ?_, ?_, ?_, ?_, ?_, ?_, ?_, ?_, ?_, ?_, ?_, ?_, ?_, ?_, ?_, ?_, ?_, ?_, ?_, ?_, ?_, ?_, ?_, ?_, ?_, ?_, ?_, ?_, ?_⟩ <;> decide +kernel

/-! ### Witnesses: Protections -/

def w358 : State := st { ((puts runDev [(F.SC_MAP_COUNT 3, 2), (F.SC_MAP_FIRST 3, 4), (F.SC_MOD_FSW 3, 50), (F.SC_CFG_DIVK 3, 1), (F.PH_ICFG_GAIN 4, 5), (F.PH_ICFG_RIS 4, 100), (F.PH_ICFG_IZERO 4, 1000), (F.PH_ICFG_GAIN 5, 5), (F.PH_ICFG_RIS 5, 100), (F.SC_CFG_FFVNOM 3, 100), (F.SC_VOUT_VSET 3, 1000), (F.SC_LIM_IRATED 3, 100), (F.SC_LIM_IDIS 3, 10), (F.SC_SOFT_TIME 3, 10), (F.SC_SOFT_STOP 3, 10), (F.SC_PLIM_IVAL 3, 100), (F.SC_PLIM_IPK 3, 200), (F.SC_MOD_RAMP 3, 10), (F.SC_STATUS_OP 3, 2), (F.SC_FREACT_SHORT_SS 3, 0), (F.SC_FREACT_OC 3, 0), (F.SC_FREACT_STAGE_FLT 3, 0), (F.SC_FREACT_STAGE_OT 3, 0)]).setRail 3 { code := .rising, out := .on }) with scs := runDev.scs.set 3 { shortAt := some 5, totHold := true, ref0 := 1000000 }, phs := runDev.phs.set 4 { onAt := some 9, shutUp := 8, warnUp := 8, openAt := some 5, badN := 10, tBad := 8 } }
def w359 : State := st { ((puts (puts runDev [(F.SC_MAP_COUNT 3, 2), (F.SC_MAP_FIRST 3, 4), (F.SC_MOD_FSW 3, 50), (F.SC_CFG_DIVK 3, 1), (F.PH_ICFG_GAIN 4, 5), (F.PH_ICFG_RIS 4, 100), (F.PH_ICFG_IZERO 4, 1000), (F.PH_ICFG_GAIN 5, 5), (F.PH_ICFG_RIS 5, 100), (F.SC_CFG_FFVNOM 3, 100), (F.SC_VOUT_VSET 3, 1000), (F.SC_LIM_IRATED 3, 100), (F.SC_LIM_IDIS 3, 10), (F.SC_SOFT_TIME 3, 10), (F.SC_SOFT_STOP 3, 10), (F.SC_PLIM_IVAL 3, 100), (F.SC_PLIM_IPK 3, 200), (F.SC_MOD_RAMP 3, 10), (F.SC_STATUS_OP 3, 2), (F.SC_FREACT_SHORT_SS 3, 0), (F.SC_FREACT_OC 3, 0), (F.SC_FREACT_STAGE_FLT 3, 0), (F.SC_FREACT_STAGE_OT 3, 0)]) [(F.SC_STATUS_OP 3, 3)]).setRail 3 { code := .rising, out := .on }) with scs := runDev.scs.set 3 { totHold := true, imb := 8, imbAt := some 4 } }
def w360 : State := st { ((puts (puts (puts runDev [(F.SC_MAP_COUNT 3, 2), (F.SC_MAP_FIRST 3, 4), (F.SC_MOD_FSW 3, 50), (F.SC_CFG_DIVK 3, 1), (F.PH_ICFG_GAIN 4, 5), (F.PH_ICFG_RIS 4, 100), (F.PH_ICFG_IZERO 4, 1000), (F.PH_ICFG_GAIN 5, 5), (F.PH_ICFG_RIS 5, 100), (F.SC_CFG_FFVNOM 3, 100), (F.SC_VOUT_VSET 3, 1000), (F.SC_LIM_IRATED 3, 100), (F.SC_LIM_IDIS 3, 10), (F.SC_SOFT_TIME 3, 10), (F.SC_SOFT_STOP 3, 10), (F.SC_PLIM_IVAL 3, 100), (F.SC_PLIM_IPK 3, 200), (F.SC_MOD_RAMP 3, 10), (F.SC_STATUS_OP 3, 2), (F.SC_FREACT_SHORT_SS 3, 0), (F.SC_FREACT_OC 3, 0), (F.SC_FREACT_STAGE_FLT 3, 0), (F.SC_FREACT_STAGE_OT 3, 0)]) [(F.SC_STATUS_OP 3, 3)]) [(F.SC_MAP_N1_ALLOWED 3, 1), (F.PH_STATUS_EXCL 5, 0)]).setRail 3 { code := .rising, out := .on }) with phs := runDev.phs.set 4 { onAt := some 9, openAt := some 5, badN := 10 } }
def w361 : State := st ((puts runDev [(F.SC_MAP_COUNT 3, 2), (F.SC_MAP_FIRST 3, 4), (F.SC_MOD_FSW 3, 50), (F.SC_CFG_DIVK 3, 1), (F.PH_ICFG_GAIN 4, 5), (F.PH_ICFG_RIS 4, 100), (F.PH_ICFG_IZERO 4, 1000), (F.PH_ICFG_GAIN 5, 5), (F.PH_ICFG_RIS 5, 100), (F.SC_CFG_FFVNOM 3, 100), (F.SC_VOUT_VSET 3, 1000), (F.SC_LIM_IRATED 3, 100), (F.SC_LIM_IDIS 3, 10), (F.SC_SOFT_TIME 3, 10), (F.SC_SOFT_STOP 3, 10), (F.SC_PLIM_IVAL 3, 100), (F.SC_PLIM_IPK 3, 200), (F.SC_MOD_RAMP 3, 10)]).setRail 3 { code := .unused })
def w362 : State := st { ((puts runDev [(F.SC_MAP_COUNT 3, 2), (F.SC_MAP_FIRST 3, 4), (F.SC_MOD_FSW 3, 50), (F.SC_CFG_DIVK 3, 1), (F.PH_ICFG_GAIN 4, 5), (F.PH_ICFG_RIS 4, 100), (F.PH_ICFG_IZERO 4, 1000), (F.PH_ICFG_GAIN 5, 5), (F.PH_ICFG_RIS 5, 100), (F.SC_CFG_FFVNOM 3, 100), (F.SC_VOUT_VSET 3, 1000), (F.SC_LIM_IRATED 3, 100), (F.SC_LIM_IDIS 3, 10), (F.SC_SOFT_TIME 3, 10), (F.SC_SOFT_STOP 3, 10), (F.SC_PLIM_IVAL 3, 100), (F.SC_PLIM_IPK 3, 200), (F.SC_MOD_RAMP 3, 10)]).setRail 3 { code := .good, out := .on }) with phs := runDev.phs.set 4 { fltDone := true } }

/-- Every hypothesis of Protections is met. -/
theorem wit_Protections :
    (w358.core.live = true) ∧
    (w358.core.mainAlive = true) ∧
    ((w358.core.sc 3).shortAt = some 5) ∧
    ((w358.advance 90000000000).core.shortNow 3 = true) ∧
    (max 5 (w358.core.sc 3).limAt + 50000 ≤ w358.at 90000000000) ∧
    ((w358.core.rail 3).code ≠ RailCode.unused) ∧
    (w358.core.ctlOf 4 = some 3) ∧
    ((w358.core.ph 4).fltDone = false) ∧
    ((w358.core.ph 4).shutUp = 8) ∧
    (w358.core.get (F.PH_STATUS_OT ↑4) = 0) ∧
    ((w358.core.ph 4).warnUp = 8) ∧
    (w358.core.get (F.PH_STATUS_OTW ↑4) = 0) ∧
    ((w358.core.ph 4).openAt = some 5) ∧
    (100005 ≤ w358.at 90000000000) ∧
    (w358.core.get (F.PH_STATUS_EXCL ↑4) = 0) ∧
    (w358.core.get (F.SC_MAP_N1_ALLOWED ↑3) ≠ 1 ∨ w358.core.get (F.SC_MAP_COUNT ↑3) = 1 ∨ ∃ q ∈ w358.core.phasesOf ↑3, w358.core.get (F.PH_STATUS_EXCL ↑q) = 1) ∧
    ((w358.core.ph 4).badN = 10) ∧
    ((w358.core.ph 4).tBad = 8) ∧
    (w358.core.get (F.PH_TMEAS_FAIL ↑4) = 0) ∧
    (w358.core.get F.THERM_SUBST_TS < 16) ∧
    (w358.core.get F.THERM_SUBST_NTC < 16) ∧
    (w359.core.live = true) ∧
    (w359.core.mainAlive = true) ∧
    (w359.core.get (F.SC_STATUS_OP ↑3) = 3) ∧
    ((w359.advance 90000000000).core.inLimit 3 = true) ∧
    (max (w359.core.sc 3).limAt (w359.core.sc 3).rampEnd + w359.core.get (F.SC_LIM_OCT ↑3) * 10000 ≤ w359.at 90000000000) ∧
    ((w359.core.rail 3).code ≠ RailCode.unused) ∧
    ((w359.core.sc 3).imb = 8) ∧
    (∀ (i : ℕ), (w359.core.sc 3).imbAt = some i → i + 1000000000 ≤ w359.at 90000000000) ∧
    (w360.core.live = true) ∧
    (w360.core.mainAlive = true) ∧
    (w360.core.ctlOf 4 = some 3) ∧
    ((w360.core.ph 4).openAt = some 5) ∧
    (100005 ≤ w360.at 90000000000) ∧
    (w360.core.get (F.PH_STATUS_EXCL ↑4) = 0) ∧
    (¬(w360.core.get (F.SC_MAP_N1_ALLOWED ↑3) ≠ 1 ∨ w360.core.get (F.SC_MAP_COUNT ↑3) = 1 ∨ ∃ q ∈ w360.core.phasesOf ↑3, w360.core.get (F.PH_STATUS_EXCL ↑q) = 1)) ∧
    ((w360.core.ph 4).badN = 10) ∧
    (w361.core.live = true) ∧
    (w361.core.mainAlive = true) ∧
    (w361.core.ctlOf 4 = some 3) ∧
    ((w361.core.ph 4).fltDone = false) ∧
    ((w361.core.rail 3).code = RailCode.unused) ∧
    ((w362.core.ph 4).fltDone = true) := by
  refine ⟨?_, ?_, ?_, ?_, ?_, ?_, ?_, ?_, ?_, ?_, ?_, ?_, ?_, ?_, ?_, ?_, ?_, ?_, ?_, ?_, ?_, ?_, ?_, ?_, ?_, ?_, ?_, ?_, ?_, ?_, ?_, ?_, ?_, ?_, ?_, ?_, ?_, ?_, ?_, ?_, ?_, ?_, ?_⟩ <;> decide +kernel

/-! ### Witnesses: Ledger -/

def w363 : State := st { (puts runDev [(F.SAFE_RAMECC_CORR, 65534)]) with lat := { ns := 1000000000, since := some 4 } }
def w364 : State := { st { runDev with hday := some day1, bootno := 9, bootnoOk := true } with ledger := [(0x1A10C00, 7), (0x1A10BFF, 1)] }
def w365 : State := { st { runDev with folio := some (progDev.freeze 0x301 2 true 3 4), bootno := 0, bootnoOk := true } with ledger := [(0x101, 7), (0x1ff, 1), (0x200, 9), (0x1f8, 3)] }
def w366 : State := st { (puts runDev [(F.LEDG_SCRUB_PASSES, 65535)]) with scrubAt := 0, ledgBad := [], bootnoOk := true }
def w367 : State := { st { (puts runDev [(F.LEDG_STATUS_JREADY, 1), (F.LEDG_JHEAD_NEXT, 0), (F.LEDG_JLAP_LAP, 5)]) with jq := [(4, ⟨0x8001, 3, true, false, true, ⟨1, 2, 3, 4⟩, 0xFFFFFFFF, 2, none⟩)], bootnoOk := true } with ledger := [(0x210001, 7), (0x21001f, 1), (0x210020, 9)] }
def w368 : State := { st { runDev with folio := some (progDev.freeze 0x301 2 true 3 4), bootno := 0, bootnoOk := true, folioVer := some (.lasting, 77) } with ledger := [(0x101, 7), (0x1ff, 1), (0x200, 9), (0x1f8, 3)] }
def w369 : State := { st { runDev with hday := some day2, bootno := 9, bootnoOk := true } with ledger := [(0x1A10C00, 7), (0x1A10BFF, 1)] }
def w370 : State := { st { (puts runDev [(F.CAP_STATUS_ARCH 5, 1), (F.CAP_STATUS_STATE 5, 3)]) with arch := some ⟨32, false, 3, ⟨1, 2, 3, 4⟩⟩, afill := (132096, 1), caps := runDev.caps.set 5 { back := some 1 }, heatRes := [⟨.arch, 5, 5, true⟩], bootnoOk := true } with bufs := State.reset.bufs.set 5 [(0, 7), (65535, 9)] }

/-- Every hypothesis of Ledger is met. -/
theorem wit_Ledger :
    (w363.core.live = true) ∧
    (w363.core.eff ≠ Mode.watch) ∧
    (w363.core.arrayFree = true) ∧
    ((w363.advance 50).core.healthDue = false) ∧
    (w363.core.arch = none) ∧
    (∀ (p : Fin 4), (w363.core.ports.get p).wwin = none) ∧
    (w363.core.scrubAt ∉ w363.core.ledgBad) ∧
    (w363.core.dev = DevState.run) ∧
    (w363.core.sag < 2) ∧
    (w363.core.mainAlive = true) ∧
    (w363.core.lat.ramAt + 1000000000 ≤
  w363.core.lat.ns +
    match w363.core.lat.since with
    | some b => w363.at 50 - b
    | none => 0) ∧
    (w364.core.live = true) ∧
    (w364.core.arrayFree = true) ∧
    (w364.core.hday = some day1) ∧
    ((Option.map (fun g => g.ns) w364.core.hsaved).getD 0 + 60000000000 ≤ (day1.sync (w364.at 86400000000100)).ns) ∧
    (86400000000000 ≤ (day1.sync (w364.at 86400000000100)).ns) ∧
    ((w364.advance 86400000000100).core.healthDue = true) ∧
    (w365.core.ledgerOn = true) ∧
    (w365.core.folioWaits = true) ∧
    (w365.core.folio = some (progDev.freeze 769 2 true 3#32 4#32)) ∧
    (w365.core.bootnoOk = true) ∧
    (w365.core.folioDone = false) ∧
    ((progDev.freeze (769 : ℕ) (2 : ℕ) true (BitVec.ofNat (32 : ℕ) (3 : ℕ)) (BitVec.ofNat (32 : ℕ) (4 : ℕ))).meas.length = (48 : ℕ)) ∧
    ((progDev.freeze (769 : ℕ) (2 : ℕ) true (BitVec.ofNat (32 : ℕ) (3 : ℕ)) (BitVec.ofNat (32 : ℕ) (4 : ℕ))).pcs.length = (8 : ℕ)) ∧
    (w365.core.folioVer = none) ∧
    ((progDev.freeze (769 : ℕ) (2 : ℕ) true (BitVec.ofNat (32 : ℕ) (3 : ℕ)) (BitVec.ofNat (32 : ℕ) (4 : ℕ))).kind < (49152 : ℕ)) ∧
    (w366.core.live = true) ∧
    (w366.core.eff ≠ Mode.watch) ∧
    (w366.core.arrayFree = true) ∧
    ((w366.advance 50).core.healthDue = false) ∧
    (w366.core.arch = none) ∧
    (∀ (p : Fin 4), (w366.core.ports.get p).wwin = none) ∧
    (w366.core.scrubAt ∉ w366.core.ledgBad) ∧
    (¬(w366.core.dev = DevState.run ∧ w366.core.eff ≠ Mode.watch ∧ w366.core.sag < 2 ∧ w366.core.mainAlive = true) ∨
  ¬w366.core.lat.ramAt + 1000000000 ≤
      w366.core.lat.ns +
        match w366.core.lat.since with
        | some b => w366.at 50 - b
        | none => 0) ∧
    (w367.core.ledgerOn = true) ∧
    (w367.core.folioWaits = false) ∧
    (w367.core.get F.LEDG_STATUS_JREADY = 1) ∧
    (w367.core.jq = [(4, { typ := 32769, obj := 3, ff := true, probe := false, shadow := true, stamp := { boot := 1#32, usec := 2#48, rev := 3#32, angle := 4#16 : Stamp }, arg0 := 4294967295#32, arg1 := 2#32, slotOf := none : JRec })]) ∧
    (w367.core.get F.LEDG_JHEAD_NEXT < 786432) ∧
    (w368.core.ledgerOn = true) ∧
    (w368.core.folio = some (progDev.freeze 769 2 true 3#32 4#32)) ∧
    (w368.core.bootnoOk = true) ∧
    (w368.core.folioDone = false) ∧
    (w368.core.folioVer = some (Verdict.lasting, 77#32)) ∧
    (w368.core.folioVdone = false) ∧
    (w369.core.live = true) ∧
    (w369.core.arrayFree = true) ∧
    (w369.core.hday = some day2) ∧
    ((day2.sync (w369.at 86400000000100)).ns < (Option.map (fun g => g.ns) w369.core.hsaved).getD 0 + 60000000000) ∧
    (w370.core.live = true) ∧
    (w370.core.arrayFree = true) ∧
    ((w370.advance 86400000000100).core.healthDue = false) ∧
    (w370.core.arch = some { mask := 32#6, door := false, num := 3, stamp0 := { boot := 1#32, usec := 2#48, rev := 3#32, angle := 4#16 : Stamp } : Arch }) ∧
    (BitVec.ofNat (6 : ℕ) (32 : ℕ) = BitVec.ofNat 6 (2 ^ 5)) ∧
    (w370.core.get (F.CAP_STATUS_STATE ↑5) = 0 ∨ w370.core.get (F.CAP_STATUS_STATE ↑5) = 3) ∧
    (w366.core.scrubAt ∈ w366.core.ledgBad ∨ Ecc.uncorrectable = Ecc.uncorrectable) := by
  refine ⟨?_, ?_, ?_, ?_, ?_, ?_, ?_, ?_, ?_, ?_, ?_, ?_, ?_, ?_, ?_, ?_, ?_, ?_, ?_, ?_, ?_, ?_, ?_, ?_, ?_, ?_, ?_, ?_, ?_, ?_, ?_, ?_, ?_, ?_, ?_, ?_, ?_, ?_, ?_, ?_, ?_, ?_, ?_, ?_, ?_, ?_, ?_, ?_, ?_, ?_, ?_, ?_, ?_, ?_, ?_, ?_⟩ <;> decide +kernel

/-! ### Witnesses: Probes -/

def w371 : State := st { runDev with probing := [⟨.pin 7, 0xA17, 7, some 3, false, 0, none, false, 0, false⟩] }
def w372 : State := st { runDev with probes := [⟨.pin 7, 0xA17, 7, some 3, false, 0, none, false, 0, false⟩, ⟨.pin 8, 0xA17, 7, some 3, false, 0, none, false, 0, false⟩, ⟨.pin 7, 5, 7, some 3, false, 0, none, false, 0, false⟩], probing := [⟨.pin 8, 0xA17, 7, some 3, false, 0, none, false, 0, false⟩] }
def w373 : State := st { runDev with probes := [⟨.window 9, 0xA17, 7, some 3, false, 0, none, false, 0, false⟩, ⟨.pin 8, 0xA17, 7, some 3, false, 0, none, false, 0, false⟩] }
def w374 : State := st { (puts runDev [(F.TALLY_POS_STATE, 1)]) with probes := [⟨.tally, 0xA17, 7, some 3, false, 0, none, false, 0, false⟩] }
def w375 : State := st { runDev with probing := [⟨.conv 1, 0xA17, 7, some 3, false, 0, none, false, 0, false⟩], cvs := runDev.cvs.set 1 { pstep := 5, pbad := 3, op := .scan } }
def w376 : State := { st { runDev with probing := [⟨.dword 5, 0xA17, 7, some 3, false, 0, none, false, 0, false⟩], dramBad := [5, 6] } with dram := [(19, 1), (20, 2), (23, 3), (24, 4)] }
def w377 : State := st { (puts runDev [(F.SAFE_CFG_LATFLT, 1), (F.SAFE_CFG_LATWIN, 1), (F.SAFE_CFG_LATCONV, 1)]) with lat := { ns := 3, since := some 4, due := Vector.replicate 4 0 } }
def w378 : State := st { runDev with vault := { runDev.vault with mainDead := true }, probing := [⟨.pin 7, 0xA17, 7, some 3, false, 0, none, false, 0, false⟩] }
def w379 : State := st { runDev with vault := { runDev.vault with mainDead := true }, probes := [⟨.pin 7, 0xA17, 7, some 3, false, 0, none, false, 0, false⟩] }
def w380 : State := tell { (puts runDev []) with dev := .run, probing := [⟨.sense 9, 0, 7, none, false, 0, some 3, false, 0, false⟩], cvs := runDev.cvs.set 1 { op := .scan } } { st := .waiting, wait := some (.probe 4 (.sense 9)), pc := 7 }
def w381 : State := tell { (puts runDev [(F.CV_OWRES_OPEN_N 1, 1)]) with dev := .run, probing := [⟨.sense 9, 0, 7, none, false, 0, some 3, false, 0, false⟩], cvs := runDev.cvs.set 1 { op := .scan } } { st := .waiting, wait := some (.probe 4 (.sense 9)), pc := 7 }
def w382 : State := tell { (puts runDev [(F.CV_OWRES_ABORTED 1, 1)]) with dev := .run, probing := [⟨.sense 9, 0, 7, none, false, 0, some 3, false, 0, false⟩], cvs := runDev.cvs.set 1 { op := .scan } } { st := .waiting, wait := some (.probe 4 (.sense 9)), pc := 7 }
def w383 : State := st { (puts runDev [(F.CV_STATUS_INVALID 1, 0)]) with probing := [⟨.conv 1, 0, 7, none, false, 0, none, true, 0, false⟩], cvs := runDev.cvs.set 1 { pstep := 5, pbad := 3, op := .scan } }
def w384 : State := st { runDev with probing := [⟨.pin 0x49, 0xA17, 7, some 3, false, 0, none, false, 0, false⟩], vault := { runDev.vault with mainDead := true } }

/-- Every hypothesis of Probes is met. -/
theorem wit_Probes :
    (w371.core.live = true) ∧
    (w371.core.mainAlive = true) ∧
    (w371.core.probing = [{ path := Path.pin 7, typ := 2583, obj := 7, recNo := some 3, folio := false, cls := 0, teller := none, latent := false : Probe }]) ∧
    (w371.core.folioVer = none) ∧
    (∀ (n : Fin 48), w371.core.get (F.RAIL_WSTATUS_BADOV ↑n) ≠ 1) ∧
    ((2583 : ℕ) ≠ (0 : ℕ)) ∧
    (7 = 73 → w371.core.get F.SAFE_STATUS_VAULTLOST ≠ 1) ∧
    ((3 : ℕ) ≠ (0 : ℕ)) ∧
    (w371.core.dev = DevState.run) ∧
    (w371.core.eff ≠ Mode.watch) ∧
    (w371.core.sag < 2) ∧
    (w371.core.lat.due.get LatKind.window.idx ≤
  w371.core.lat.ns +
    match w371.core.lat.since with
    | some b => w371.at 50 - b
    | none => 0) ∧
    (w371.core.lat.going.get LatKind.window.idx = false) ∧
    (w371.core.dacIdle (cvOf (Fin.ofNat 48 (w371.core.get F.SAFE_LATSTAT_NEXTRAIL))) = true) ∧
    (w371.core.get (F.RAIL_CFG_PGUSE ↑(Fin.ofNat 48 (w371.core.get F.SAFE_LATSTAT_NEXTRAIL))) ≠ 1) ∧
    (w371.core.get F.SAFE_STATUS_VAULTLOST ≠ 1) ∧
    (w371.core.get F.SAFE_CFG_LATFLT ≠ 0) ∧
    (w371.core.lat.due.get LatKind.flt.idx ≤
  w371.core.lat.ns +
    match w371.core.lat.since with
    | some b => w371.at 50 - b
    | none => 0) ∧
    (w371.core.fltLow = false) ∧
    (w372.core.live = true) ∧
    (w372.core.mainAlive = true) ∧
    (∃ q ∈ w372.core.probes, q.path = Path.pin 7) ∧
    (∀ q ∈ w372.core.probing, q.path ≠ Path.pin 7) ∧
    (w372.core.eff ≠ Mode.watch) ∧
    ((7 : ℕ) < (256 : ℕ)) ∧
    (7 = 73 → w372.core.get F.SAFE_STATUS_VAULTLOST ≠ 1) ∧
    (w373.core.live = true) ∧
    (w373.core.mainAlive = true) ∧
    (∃ q ∈ w373.core.probes, q.path = Path.window 9) ∧
    (∀ q ∈ w373.core.probing, q.path ≠ Path.window 9) ∧
    (w373.core.eff ≠ Mode.watch) ∧
    ((w373.core.cv (cvOf 9)).wtest = none) ∧
    ((w373.core.cv (cvOf 9)).restore = none) ∧
    (w373.core.convProbed (cvOf 9) = false) ∧
    (∀ q ∈ w373.core.probes, dacOf q.path = some (cvOf 9) → q.path = Path.window 9) ∧
    (w374.core.live = true) ∧
    (w374.core.mainAlive = true) ∧
    (∃ q ∈ w374.core.probes, q.path = Path.tally) ∧
    (∀ q ∈ w374.core.probing, q.path ≠ Path.tally) ∧
    (w374.core.eff ≠ Mode.watch) ∧
    (w374.core.tst ≠ tLost) ∧
    (w374.core.probes = [{ path := Path.tally, typ := 2583, obj := 7, recNo := some 3, folio := false, cls := 0, teller := none, latent := false : Probe }]) ∧
    (w375.core.live = true) ∧
    (w375.core.mainAlive = true) ∧
    (w375.core.probing = [{ path := Path.conv 1, typ := 2583, obj := 7, recNo := some 3, folio := false, cls := 0, teller := none, latent := false : Probe }]) ∧
    (w375.core.folioVer = none) ∧
    (∀ (n : Fin 48), w375.core.get (F.RAIL_WSTATUS_BADOV ↑n) ≠ 1) ∧
    (w375.core.dev = DevState.run) ∧
    (w375.core.folioDone = false) ∧
    (5 ≤ (w375.core.cv 1).pstep) ∧
    ((w375.core.cv 1).restore = none) ∧
    ((w375.core.cv 1).pbad ≠ 0) ∧
    (w376.core.live = true) ∧
    (w376.core.mainAlive = true) ∧
    (w376.core.probing = [{ path := Path.dword 5, typ := 2583, obj := 7, recNo := some 3, folio := false, cls := 0, teller := none, latent := false : Probe }]) ∧
    (w376.core.folioVer = none) ∧
    (∀ (n : Fin 48), w376.core.get (F.RAIL_WSTATUS_BADOV ↑n) ≠ 1) ∧
    (w377.core.live = true) ∧
    (w377.core.latEvery LatKind.window ≠ 0) ∧
    (w377.core.lat.due.get LatKind.window.idx + w377.core.latEvery LatKind.window ≤
  w377.core.lat.ns +
    match w377.core.lat.since with
    | some b => w377.at 999999999999999 - b
    | none => 0) ∧
    (w377.core.lat.late.get LatKind.window.idx = false) ∧
    (w378.core.live = true) ∧
    (w378.core.mainAlive = false) ∧
    ((7 : ℕ) ≠ (73 : ℕ)) ∧
    (w378.core.probing = [{ path := Path.pin 7, typ := 2583, obj := 7, recNo := some 3, folio := false, cls := 0, teller := none, latent := false : Probe }]) ∧
    (w378.core.folioVer = none) ∧
    (∀ (n : Fin 48), w378.core.get (F.RAIL_WSTATUS_BADOV ↑n) ≠ 1) ∧
    (w379.core.live = true) ∧
    (w379.core.mainAlive = false) ∧
    (w379.core.probes = [{ path := Path.pin 7, typ := 2583, obj := 7, recNo := some 3, folio := false, cls := 0, teller := none, latent := false : Probe }]) ∧
    (w380.core.live = true) ∧
    (w380.core.mainAlive = true) ∧
    (w380.core.probing = [{ path := Path.sense 9, typ := 0, obj := 7, recNo := none, folio := false, cls := 0, teller := some 3, latent := false : Probe }]) ∧
    (w380.core.folioVer = none) ∧
    (∀ (n : Fin 48), w380.core.get (F.RAIL_WSTATUS_BADOV ↑n) ≠ 1) ∧
    (w380.core.probeOver (Path.sense 9) = true) ∧
    (w380.core.eff ≠ Mode.watch) ∧
    (w380.core.folioDone = false) ∧
    ((w380.core.teller 3).wait = some (Wait.probe 4 (Path.sense 9))) ∧
    ((w380.core.teller 3).st = TRun.waiting) ∧
    ((w380.core.teller 3).step = false) ∧
    (¬∃ m, Path.sense 9 = Path.sense m ∧ w380.core.get (F.CV_OWRES_ABORTED ↑(cvOf m)) = 1) ∧
    (w380.core.get (F.CV_OWRES_OPEN_P ↑(cvOf 9)) = 0) ∧
    (w380.core.get (F.CV_OWRES_OPEN_N ↑(cvOf 9)) = 0) ∧
    (w381.core.live = true) ∧
    (w381.core.mainAlive = true) ∧
    (w381.core.probing = [{ path := Path.sense 9, typ := 0, obj := 7, recNo := none, folio := false, cls := 0, teller := some 3, latent := false : Probe }]) ∧
    (w381.core.folioVer = none) ∧
    (∀ (n : Fin 48), w381.core.get (F.RAIL_WSTATUS_BADOV ↑n) ≠ 1) ∧
    (w381.core.probeOver (Path.sense 9) = true) ∧
    (w381.core.eff ≠ Mode.watch) ∧
    (w381.core.folioDone = false) ∧
    ((w381.core.teller 3).wait = some (Wait.probe 4 (Path.sense 9))) ∧
    ((w381.core.teller 3).st = TRun.waiting) ∧
    ((w381.core.teller 3).step = false) ∧
    (¬∃ m, Path.sense 9 = Path.sense m ∧ w381.core.get (F.CV_OWRES_ABORTED ↑(cvOf m)) = 1) ∧
    (¬(w381.core.get (F.CV_OWRES_OPEN_P ↑(cvOf 9)) = 0 ∧ w381.core.get (F.CV_OWRES_OPEN_N ↑(cvOf 9)) = 0)) ∧
    (w382.core.live = true) ∧
    (w382.core.mainAlive = true) ∧
    (w382.core.probing = [{ path := Path.sense 9, typ := 0, obj := 7, recNo := none, folio := false, cls := 0, teller := some 3, latent := false : Probe }]) ∧
    (w382.core.folioVer = none) ∧
    (∀ (n : Fin 48), w382.core.get (F.RAIL_WSTATUS_BADOV ↑n) ≠ 1) ∧
    (w382.core.probeOver (Path.sense 9) = true) ∧
    (w382.core.eff ≠ Mode.watch) ∧
    (w382.core.folioDone = false) ∧
    ((w382.core.teller 3).wait = some (Wait.probe 4 (Path.sense 9))) ∧
    ((w382.core.teller 3).st = TRun.waiting) ∧
    ((w382.core.teller 3).step = false) ∧
    (∃ m, Path.sense 9 = Path.sense m ∧ w382.core.get (F.CV_OWRES_ABORTED ↑(cvOf m)) = 1) ∧
    (w383.core.live = true) ∧
    (w383.core.mainAlive = true) ∧
    (w383.core.probing = [{ path := Path.conv 1, typ := 0, obj := 7, recNo := none, folio := false, cls := 0, teller := none, latent := true : Probe }]) ∧
    (w383.core.eff ≠ Mode.watch) ∧
    (5 ≤ (w383.core.cv 1).pstep) ∧
    ((w383.core.cv 1).restore = none) ∧
    ((w383.core.cv 1).pbad ≠ 0) ∧
    (w383.core.probes = []) ∧
    (w384.core.live = true) ∧
    (w384.core.mainAlive = false) ∧
    (w384.core.probing = [{ path := Path.pin 73, typ := 2583, obj := 7, recNo := some 3, folio := false, cls := 0, teller := none, latent := false : Probe }]) ∧
    (w384.core.folioVer = none) ∧
    (∀ (n : Fin 48), w384.core.get (F.RAIL_WSTATUS_BADOV ↑n) ≠ 1) ∧
    (w384.core.vault.mainHeld = false) ∧
    (w384.core.get F.SAFE_STATUS_VAULTLOST ≠ 1) := by
  refine ⟨?_, ?_, ?_, ?_, ?_, ?_, ?_, ?_, ?_, ?_, ?_, ?_, ?_, ?_, ?_, ?_, ?_, ?_, ?_, ?_, ?_, ?_, ?_, ?_, ?_, ?_, ?_, ?_, ?_, ?_, ?_, ?_, ?_, ?_, ?_, ?_, ?_, ?_, ?_, ?_, ?_, ?_, ?_, ?_, ?_, ?_, ?_, ?_, ?_, ?_, ?_, ?_, ?_, ?_, ?_, ?_, ?_, ?_, ?_, ?_, ?_, ?_, ?_, ?_, ?_, ?_, ?_, ?_, ?_, ?_, ?_, ?_, ?_, ?_, ?_, ?_, ?_, ?_, ?_, ?_, ?_, ?_, ?_, ?_, ?_, ?_, ?_, ?_, ?_, ?_, ?_, ?_, ?_, ?_, ?_, ?_, ?_, ?_, ?_, ?_, ?_, ?_, ?_, ?_, ?_, ?_, ?_, ?_, ?_, ?_, ?_, ?_, ?_, ?_, ?_, ?_, ?_, ?_, ?_, ?_, ?_, ?_, ?_, ?_⟩ <;> decide +kernel

/-! ### Witnesses: RegionChecks -/

def w385 : State := st (puts runDev [(F.VLT_CLK_BAD, 2), (F.VLT_CLK_COUNT, 77), (F.SC_STATUS_OP 3, 3), (F.SC_MAP_COUNT 3, 2)])
def w386 : State := st { runDev with checks := { refBad := 2 } }
def w387 : State := st ((puts runDev [(F.RAIL_CFG_USED 9, 1), (F.RAIL_CFG_CLAIM 9, 1), (F.RAIL_CFG_ENPOL 9, 0), (F.RSTO_CFG_CLAIM 3, 1)]).setRail 9 { code := .good, out := .on })

/-- Every hypothesis of RegionChecks is met. -/
theorem wit_RegionChecks :
    (w385.core.dev = DevState.boot ∨ w385.core.dev = DevState.bootFail ∨ w385.core.dev = DevState.run ∨ w385.core.dev = DevState.holdUp) ∧
    (w385.core.get F.SAFE_STATUS_VAULTLOST ≠ 1) ∧
    (w385.core.usecOn = true) ∧
    (w385.core.get F.VLT_CLK_BAD = 2) ∧
    (w385.core.get F.SAFE_STATUS_CLKFAIL = 0) ∧
    (w385.core.mainAlive = true) ∧
    (false = true ∨ w385.core.live = true ∧ (w385.core.closeAt + 3 * if w385.core.eff = Mode.watch then 51200 else 10240) ≤ w385.at 90000000) ∧
    (w385.core.vault.mainHeld = false) ∧
    (w385.core.still (w385.at 90000000) = true) ∧
    (w385.core.live = true ∨ w385.core.dev = DevState.boot ∨ w385.core.dev = DevState.bootFail) ∧
    (w385.core.get F.SAFE_STATUS_VAULTLOST = 0) ∧
    (w386.core.dev = DevState.boot ∨ w386.core.dev = DevState.bootFail ∨ w386.core.dev = DevState.run ∨ w386.core.dev = DevState.holdUp) ∧
    (w386.core.get F.SAFE_STATUS_VAULTLOST ≠ 1) ∧
    (w386.core.checks.refBad = 2) ∧
    ((8 : ℕ) ≤ ↑(9 : Fin (48 : ℕ))) ∧
    (w387.core.live = true) ∧
    (w387.core.mainAlive = true) ∧
    (w387.core.pwr.vsupLow = false) ∧
    (w387.core.get (F.RAIL_CFG_CLAIM ↑9) = 1) ∧
    (w387.core.get (F.RAIL_CFG_ENMODE ↑9) = 0) := by
  refine ⟨?_, ?_, ?_, ?_, ?_, ?_, ?_, ?_, ?_, ?_, ?_, ?_, ?_, ?_, ?_, ?_, ?_, ?_, ?_, ?_⟩ <;> decide +kernel

/-! ### Witnesses: OutputPins -/

def w388 : State := st { ((puts runDev [(F.PWR_VIN_V, 500000), (F.PWR_START_VSTART, 300), (F.RAIL_CFG_USED 9, 1), (F.RAIL_CFG_CLAIM 9, 1), (F.RAIL_CFG_CLAIM 4, 1), (F.RSTO_CFG_CLAIM 2, 1), (F.MD_CFG_CLAIM 3, 1), (F.CASC_CFG_CLAIM, 1)]).setRail 9 { code := .good, out := .on }) with pwr := { ((puts runDev [(F.PWR_VIN_V, 500000), (F.PWR_START_VSTART, 300), (F.RAIL_CFG_USED 9, 1), (F.RAIL_CFG_CLAIM 9, 1), (F.RAIL_CFG_CLAIM 4, 1), (F.RSTO_CFG_CLAIM 2, 1), (F.MD_CFG_CLAIM 3, 1), (F.CASC_CFG_CLAIM, 1)])).pwr with vsupLow := true } }
def w389 : State := st { Dev.reset with dev := .powerHold }
def w390 : State := st ((puts (puts runDev [(F.PWR_VIN_V, 500000), (F.PWR_START_VSTART, 300), (F.RAIL_CFG_USED 9, 1), (F.RAIL_CFG_CLAIM 9, 1), (F.RAIL_CFG_CLAIM 4, 1), (F.RSTO_CFG_CLAIM 2, 1), (F.MD_CFG_CLAIM 3, 1), (F.CASC_CFG_CLAIM, 1)]) [(F.RAIL_CFG_ENPOL 9, 0), (F.RAIL_CFG_ENMODE 9, 0)]).setRail 9 { code := .armed, inrush := .granted, heat := .granted })
def w391 : State := st { Dev.reset with dev := .bootFail, usecOn := true, tapIr := 0 }
def w392 : State := st ((puts (puts runDev [(F.PWR_VIN_V, 500000), (F.PWR_START_VSTART, 300), (F.RAIL_CFG_USED 9, 1), (F.RAIL_CFG_CLAIM 9, 1), (F.RAIL_CFG_CLAIM 4, 1), (F.RSTO_CFG_CLAIM 2, 1), (F.MD_CFG_CLAIM 3, 1), (F.CASC_CFG_CLAIM, 1)]) [(F.RAIL_CFG_ENPOL 9, 0), (F.RAIL_CFG_ENMODE 9, 0)]).setRail 9 { code := .good, out := .on })

/-- Every hypothesis of OutputPins is met. -/
theorem wit_OutputPins :
    (w388.core.pwr.vsupLow = true) ∧
    (¬(w389.core.dev = DevState.run ∨ w389.core.dev = DevState.holdUp)) ∧
    (w389.core.dev = DevState.bootFail → w389.core.tapIr ≠ 0#4) ∧
    (w389.core.pwr.vsupLow = false) ∧
    (↑9 < 8 ∨ w389.core.dev ≠ DevState.bootFail ∧ w389.core.get (F.RAIL_CFG_CLAIM ↑9) = 0) ∧
    (w389.core.tapTakes = false) ∧
    (w389.core.dev = DevState.powerHold) ∧
    (w390.core.muted = false) ∧
    (↑(1 : Fin (4 : ℕ)) < (2 : ℕ)) ∧
    (w390.core.doorsUp = true) ∧
    (w390.core.dev = DevState.run ∨ w390.core.dev = DevState.holdUp) ∧
    (w390.core.pwr.vsupLow = false) ∧
    ((8 : ℕ) ≤ ↑(9 : Fin (48 : ℕ))) ∧
    (w390.core.get (F.RAIL_CFG_CLAIM ↑9) = 1) ∧
    ((w390.core.rail 9).out ≠ RailOut.on) ∧
    (w390.core.startOk 9 = true) ∧
    (w391.core.dev = DevState.bootFail) ∧
    (w391.core.pwr.vsupLow = false) ∧
    (w392.core.dev = DevState.run ∨ w392.core.dev = DevState.holdUp) ∧
    (w392.core.pwr.vsupLow = false) ∧
    (w392.core.get (F.RAIL_CFG_CLAIM ↑9) = 1) ∧
    ((w392.core.rail 9).out = RailOut.on) := by
  refine ⟨?_, ?_, ?_, ?_, ?_, ?_, ?_, ?_, ?_, ?_, ?_, ?_, ?_, ?_, ?_, ?_, ?_, ?_, ?_, ?_, ?_, ?_⟩ <;> decide +kernel

/-! ### What is not well formed -/

theorem test_wf_self_test_part : (Instr.startUpSelftest 0 [(1, 6, 1)] 0 0 []).wf = false := by decide
theorem test_wf_self_test_ledger : (Instr.startUpSelftest 0 [(3, 12, 1)] 0 0 []).wf = false := by decide
theorem test_wf_self_test_result : (Instr.startUpSelftest 0 [] 0 0 [(5, 2, 0x100000)]).wf = false := by decide
theorem test_wf_wreg_count : (Instr.wreg 0 0 frame2 0x0400 (List.replicate 256 0)).wf = false := by decide +kernel
theorem test_wf_wwin_count : (Instr.wwin 0 0 frame2 0x200000 (List.replicate 256 0)).wf = false := by decide +kernel
theorem test_wf_rwin_corrected : (Instr.rwin 0 0 frame2 0x200000 3 (List.replicate 4 .corrected)).wf = false := by decide
theorem test_wf_window_end : (Instr.windowWriteDone 0 0 (List.replicate 3 .clean)).wf = false := by decide
theorem test_wf_thermal_die : (Instr.thermalReading 0 [(25, false)] [] []).wf = false := by decide
theorem test_wf_thermal_phases :
    (Instr.thermalReading 0 (List.replicate 4 (25, false)) (List.replicate 4 (25, false)) (List.replicate 23 0)).wf = false := by decide
theorem test_wf_settle_code : (Instr.dwellPublish 0 0 [16384] [] 25).wf = false := by decide
theorem test_wf_raw_code : (Instr.triggerAccept 0 0 [16383, 16384]).wf = false := by decide
theorem test_wf_burst_code : (Instr.injectedOperationEnd 0 0 [16384]).wf = false := by decide
theorem test_wf_pending_code : (Instr.pendingTriggerServe 0 0 [16384]).wf = false := by decide
theorem test_wf_own_code : (Instr.internalDwellServe 0 0 [16384]).wf = false := by decide
theorem test_wf_calibration_code : (Instr.calibrationBegin 0 0 [16384]).wf = false := by decide
theorem test_wf_calibration_factors : (Instr.calibrationEnd 0 0 (List.replicate 15 0) 25).wf = false := by decide
theorem test_wf_phase_count : (Instr.phaseMonitorSample 0 (List.replicate 23 0)).wf = false := by decide
theorem test_wf_phase_code : (Instr.phaseMonitorSample 0 (List.replicate 24 4096)).wf = false := by decide
theorem test_wf_scrub_iram : (Instr.ramScrub 0 0 [65536] []).wf = false := by decide
theorem test_wf_scrub_dram : (Instr.ramScrub 0 0 [] [16384]).wf = false := by decide
theorem test_wf_probe_word : (Instr.probeStart 0 (.lword 4)).wf = false := by decide
theorem test_wf_probe_pin : (Instr.probeEnd 0 (.pin 0x4A) 0 []).wf = false := by decide
theorem test_wf_mismatch_pin : (Instr.outMismatch 0 0x68).wf = false := by decide
theorem test_wf_good : (Instr.outMismatch 0 0x67).wf = true ∧ (Instr.probeStart 0 (.lword 8)).wf = true := by decide

/-! ### Worked examples of the spec -/

/-- 06, the listing of its example and ON L21. -/
theorem test_words : wordI 0x0C 5 0 20000 = 0x31404E20 ∧ wordD 0x24 0 0 0 8 0 = 0x90000800 ∧ wordD 0x20 0 0 0 0 2 = 0x80000002 ∧
    wordJ 0x1C 13 0x40 = 0x73400040 ∧ wordD 0x2A 0 0 5 3 0 = 0xA8014300 ∧ wordJ 0x1C 11 0x48 = 0x72C00048 ∧
    wordD 0x24 0 0 0 21 0 = 0x90001500 := by decide

/-- R206: those words are legal; a NOP with a bit set, B with condition 15, and opcode 0 are not. -/
theorem test_legal : ([0x31404E20, 0x90000800, 0x80000002, 0x73400040, 0xA8014300, 0x72C00048].all legalWord) = true ∧
    legalWord 0x04000001 = false ∧ legalWord 0x73C00040 = false ∧ legalWord 0 = false := by decide

/-- 18, its example's register numbers, and 00's RAIL[17]. -/
theorem test_numbers : (F.SC_MRGN_OFS 5).reg = 0x11F0 ∧ (F.PH_TMEAS_T 17).reg = 0x1414 ∧ (F.CV_CALF 4 9).reg = 0x1719 ∧
    (F.DOOR_ACAUSE_CAUSE 2).reg = 0x1F90 ∧ (F.RAIL_CFG_RANGE 17).reg = 0x0840 := by decide

/-- 12, its example's on-times: 850 mV at 12.0 V and at 13.2 V, and 892.5 mV at 12.0 V. -/
theorem test_on_times : onTime 850000 120000 60 10 = (128, false, false) ∧ onTime 850000 132000 60 10 = (117, false, false) ∧
    onTime 892500 120000 60 10 = (134, false, false) := by decide

/-- 13 and 11, the codes of UVTH and OVTH on RANGE 1 and RANGE 2. -/
theorem test_codes : uvCode 29700 (spanOf 1) = 476 ∧ ovCode 36300 (spanOf 1) = 580 ∧ uvCode 140000 (spanOf 2) = 560 ∧
    ovCode 165000 (spanOf 2) = 660 := by decide

/-- 17, the CRCs of its example's frame: HCRC 0x5E, then DCRC 0x24 over A5 E8 80 A0 C5 from there. -/
theorem test_crc8 : crc8 [0x01, 0x50, 0x07, 0x01] = 0x5E ∧
    crc8 [0x01, 0x50, 0x07, 0x01, 0xA5, 0xE8, 0x80, 0xA0, 0xC5] = 0x24 := by decide

/-- The bytes under HCRC of that frame, as the model lays them. -/
theorem test_frame_bytes : crc8 (frame0.bytes 0 (.rreg 0x0750 1)) = 0x5E := by decide

/-- 17, that frame's word: V 33,000, SEQ 0x5A, READY and VALID. -/
theorem test_meas_word : measWord 33000 0x5A false true true = 0xC5A080E8 := by decide

/-- R287: the check value of this CRC over the digits 1 to 9. -/
theorem test_crc32 : crc32 [0x31, 0x32, 0x33, 0x34, 0x35, 0x36, 0x37, 0x38, 0x39] = 0xCBF43926 := by decide +kernel

/-- 02 and 08, the bank of the example: 321 coins in it, 301 available, 4 for an archive of six buffers. -/
theorem test_hold :
    let d := puts runDev [(F.PWR_HOLDV_V, 440000), (F.PWR_HOLDCFG_CAP, 37), (F.PWR_HOLDCFG_VFLOOR, 14 * 10), (F.PURSE_HOLDCFG_ARCHCOST, 6)]
    d.holdEnergy / 1000000 = 321 ∧ d.holdUpdate.avail = 301 ∧ d.archCost 0x3F = 4 := by decide +kernel

/-- 14, the folio of BOOTNO 0x2C41. -/
theorem test_folio : ({ runDev with bootno := 0x2C41 } : Dev).folioAddr = 0x000C4100 := by decide +kernel

/-- 03, shutter SH2 of the example: its window holds 0xF000 and 0x0FFF, and neither 0xEFFF nor 0x1000. -/
theorem test_shutter : [0xF000, 0x0FFF, 0xEFFF, 0x1000].map (fun a =>
    (puts { runDev with angle := a } [(F.SH_WIN_START 2, 0xF000), (F.SH_WIN_END 2, 0x1000), (F.SH_CTL_EN 2, 1),
      (F.TALLY_POS_STATE, 2)]).inShutter 2) = [true, true, false, false] := by decide +kernel

/-! ### Single commands -/

/-- What `f` reads in the state that a command answers. -/
def after {α : Type} (c : Instr) (s : State) (f : State → α) : Option α :=
  match exec c s with
  | .next t => some (f t)
  | _ => none

/-- 0x80000005 + 0xFFFFFFFF wraps to 0x80000004 with a carry. -/
theorem test_add_wraps : after (.add 50 3 .clean 4 1 2) w0 (fun t => ((t.core.teller 3).x.get 4, (t.core.teller 3).c, (t.core.teller 3).n)) =
    some (0x80000004, true, true) := by decide +kernel

/-- 0x80000005 shifted right by 5 with its sign: bit 4 goes to C. -/
theorem test_sar_sign : after (.sar 50 3 .clean 4 1 3) w17 (fun t => ((t.core.teller 3).x.get 4, (t.core.teller 3).c)) =
    some (0xFC000000, false) := by decide +kernel

/-- A teller whose PC holds another word does nothing. -/
theorem test_other_word : after (.add 50 3 .clean 5 1 2) w0 (fun t => (t.core.teller 3).x.get 5) = some 6 := by decide +kernel

/-- The first command from reset that does something: power. -/
theorem test_supply : after (.supplyPresent 9) State.reset (fun t => (t.core.dev, t.core.now)) = some (.powerHold, 9) := by decide +kernel

/-- An empty queue idles; the front of the queue leaves it. -/
theorem test_idle : step State.reset = .next State.reset := rfl
theorem test_front : (match step { w0 with pending := [.add 50 3 .clean 4 1 2, .nop 60 3 .clean] } with
    | .next t => t.pending | _ => []) = [.nop 60 3 .clean] := by decide +kernel

/-- No word spells a command. -/
theorem test_no_word : decodeTableWord 32 0x31404E20 = none := rfl

/-- The hypotheses of MemoryFormKept are met: memories in canonical form and a step that answers. -/
theorem wit_MemoryFormKept :
    ({ State.reset with iram := [(3, 5)], dram := [(0, 1), (7, 2)] } : State).memWf = true ∧
    step { State.reset with iram := [(3, 5)], dram := [(0, 1), (7, 2)] } =
      .next { State.reset with iram := [(3, 5)], dram := [(0, 1), (7, 2)] } := by
  refine ⟨by decide +kernel, rfl⟩

/-- What reset leaves keeps the memories' form. -/
theorem test_reset_form : State.reset.memWf = true ∧ State.reset.ledgerIn = true := by decide +kernel

end Sys2Proof.Tests
end

section
/-! SUPPORT. What an instruction of a teller answers in its slot: the rules that the proofs of chapter 06 share. -/

namespace Sys2Proof.Machine

/-! ### Instructions that end in their teller -/

/-- An instruction whose effect on the device is to set its teller. -/
theorem State.issueDev_setTeller {s : State} {k : Fin 8} {e : Ecc} {w : Word} (h : s.ready k e w = true) (ts : Nat)
    {f : Dev → Dev} {t : Teller} (hf : f (s.slot ts e).core = (s.slot ts e).core.setTeller k t) (ht : t.stall = none) :
    s.issueDev ts k e w f = (s.slot ts e).done k t := by
  rw [State.issueDev_ready h]
  unfold State.done State.lift
  beta_reduce
  rw [hf, Dev.stepDone_setTeller _ _ _ ht]

theorem Dev.onward_eq (s : Dev) (k : Fin 8) (f : Teller → Teller) : s.onward k f = s.setTeller k (f (s.teller k)).onto := rfl

/-- R233: an instruction that changes its teller by `g` and goes on with the next instruction. -/
theorem State.issueDev_onward {s : State} {k : Fin 8} {e : Ecc} {w : Word} (h : s.ready k e w = true) (ts : Nat)
    {f : Dev → Dev} {g : Teller → Teller} (hf : f (s.slot ts e).core = (s.slot ts e).core.onward k g)
    (hg : (g (s.core.teller k)).stall = none) :
    s.issueDev ts k e w f = (s.slot ts e).done k (g (s.core.teller k)).onto :=
  State.issueDev_setTeller h ts (by rw [hf, Dev.onward_eq, State.slot_teller]) hg

theorem State.ready_stall {s : State} {k : Fin 8} {e : Ecc} {w : Word} (h : s.ready k e w = true) :
    (s.core.teller k).stall = none := by
  obtain ⟨-, -, -, hstall⟩ := State.ready_running h
  exact hstall

/-- A ready instruction was fetched without an uncorrectable error, so its slot counts at most a corrected one. -/
theorem State.slot_onlyRegs {s : State} {k : Fin 8} {e : Ecc} {w : Word} (h : s.ready k e w = true) (ts : Nat) :
    s.core.onlyRegs [F.SAFE_RAMECC_CORR] (s.slot ts e).core := by
  have he : e ≠ .uncorrectable := by
    simp only [State.ready, Bool.and_eq_true, bne_iff_ne] at h
    obtain ⟨⟨⟨-, he⟩, -⟩, -⟩ := h
    exact he
  cases e with
  | clean => exact (s.core.advance ts).onlyRegs_refl _
  | corrected => exact (s.core.advance ts).put_onlyRegs _ _
  | uncorrectable => exact absurd rfl he

/-- R37, R200: a teller with an instruction ready does not doze. -/
theorem State.ready_not_dozing {s : State} {k : Fin 8} {e : Ecc} {w : Word} (h : s.ready k e w = true) :
    s.core.dozes k = false := by
  simp only [State.ready, Bool.and_eq_true, Bool.or_eq_true, bne_iff_ne] at h
  obtain ⟨⟨⟨⟨-, hwatch⟩, -⟩, -⟩, -⟩ := h
  unfold Dev.dozes
  rcases hwatch with hmode | ⟨hawake, -⟩
  · simp [hmode]
  · simp [hawake]

/-! ### Sets of rails -/

theorem mem_railsOf {m : RailSet} {n : Fin 48} : n ∈ railsOf m ↔ m.getLsbD n = true := by
  simp [railsOf, railIn, allRails]

theorem Dev.allGood_iff (s : Dev) (m : RailSet) :
    s.allGood m = true ↔ ∀ n : Fin 48, m.getLsbD n = true → (s.rail n).code = .good := by
  simp [Dev.allGood, Dev.isGood, mem_railsOf]

theorem RailCode.starting_iff (c : RailCode) : c.starting = true ↔ c = .armed ∨ c = .rising ∨ c = .qualifying := by
  cases c <;> simp [RailCode.starting]

@[simp] theorem Dev.testMask_stall (s : Dev) (set : RailSet) (t : Teller) : (s.testMask set t).stall = t.stall := by
  cases t; rfl

/-- R248: the flags of TSTM, as the rails of the set stand. -/
theorem Dev.testMask_eq (s : Dev) (set : RailSet) (t : Teller) : s.testMask set t = { t with
    z := decide (∀ n : Fin 48, set.getLsbD n = true → (s.rail n).code = .good)
    n := decide (∃ n : Fin 48, set.getLsbD n = true ∧ ((s.rail n).code = .armed ∨
      (s.rail n).code = .rising ∨ (s.rail n).code = .qualifying))
    c := decide (∃ n : Fin 48, set.getLsbD n = true ∧ (s.rail n).code = .faulted) } := by
  have hz : s.allGood set = decide (∀ n : Fin 48, set.getLsbD n = true → (s.rail n).code = .good) := by
    rw [Bool.eq_iff_iff, decide_eq_true_iff, Dev.allGood_iff]
  have hn : (railsOf set).any (fun n => (s.rail n).code.starting) = decide (∃ n : Fin 48, set.getLsbD n = true ∧
      ((s.rail n).code = .armed ∨ (s.rail n).code = .rising ∨ (s.rail n).code = .qualifying)) := by
    rw [Bool.eq_iff_iff, decide_eq_true_iff, List.any_eq_true]
    simp only [mem_railsOf, RailCode.starting_iff]
  have hc : (railsOf set).any (fun n => (s.rail n).code == RailCode.faulted) =
      decide (∃ n : Fin 48, set.getLsbD n = true ∧ (s.rail n).code = .faulted) := by
    rw [Bool.eq_iff_iff, decide_eq_true_iff, List.any_eq_true]
    simp only [mem_railsOf, beq_iff_eq]
  rw [Dev.testMask, hz, hn, hc]

/-- MLD (R240): the two words of a mask. -/
theorem maskWord_eq (set : RailSet) (h : Bool) :
    (if h then (set.extractLsb' 32 16).setWidth 32 else set.extractLsb' 0 32) =
      BitVec.ofNat 32 (if h then set.toNat / 2 ^ 32 else set.toNat) := by
  have hlt := set.isLt
  cases h
  · apply BitVec.eq_of_toNat_eq; simp
  · apply BitVec.eq_of_toNat_eq
    simp [Nat.shiftRight_eq_div_pow]
    omega

/-! ### The door that owns a teller -/

/-- A cause set on the door that owns a resource; on none where no door does. -/
def Dev.causeOwner (s : Dev) (o : Owner) (bit : Nat) : Dev :=
  match o with
  | .door x => s.cause x bit
  | _ => s

theorem Dev.causeOwner_only (s : Dev) (o : Owner) (bit : Nat) : s.only alertParts (s.causeOwner o bit) := by
  cases o with
  | door x => exact s.cause_only x bit
  | none => exact s.only_refl _
  | program => exact s.only_refl _

theorem causeFld_mem (x : Fin 4) : F.DOOR_ACAUSE_CAUSE x ∈ causeFlds := by revert x; decide

theorem Dev.causeOwner_onlyRegs (s : Dev) (o : Owner) (bit : Nat) : s.onlyRegs causeFlds (s.causeOwner o bit) := by
  cases o with
  | door x => exact (s.onlyRegs_refl _).step (s.cause_onlyRegs x bit) (by simpa using causeFld_mem x)
  | none => exact s.onlyRegs_refl _
  | program => exact s.onlyRegs_refl _

end Sys2Proof.Machine
end

section
/-! Reads, mailboxes and the watchdog's KICK (O4). -/

namespace Sys2Proof.Machine

/-! ### The instructions in their slot -/

theorem execRdr_ready {s : State} {ts : Nat} {k : Fin 8} {e : Ecc} {rd ra : Fin 16} {imm : BitVec 16}
    (h : s.ready k e (wordI 0x1A rd ra imm.toNat) = true) (ha : ((s.core.teller k).xr ra).toNat + imm.toNat ≤ 0xFFFF) :
    exec (.rdr ts k e rd ra imm) s = .next ((s.slot ts e).done k ((s.core.teller k).xw rd
      ((s.slot ts e).core.readReg (((s.core.teller k).xr ra).toNat + imm.toNat))).onto) := by
  refine congrArg Host.Outcome.next (State.issueDev_onward h ts
    (g := fun t => t.xw rd ((s.slot ts e).core.readReg (((s.core.teller k).xr ra).toNat + imm.toNat))) ?_ ?_)
  · rw [State.slot_teller]
    exact Dev.inRange_in _ _ _ _ _ (Nat.lt_succ_of_le ha)
  · simp [State.ready_stall h]

theorem execMld_ready {s : State} {ts : Nat} {k : Fin 8} {e : Ecc} {rd ra : Fin 16} {obj : BitVec 6} {h : Bool}
    (hr : s.ready k e (wordD 0x2E rd ra 0 obj (if h then 1 else 0)) = true) (hm : (s.core.teller k).opA ra obj ≤ 63) :
    exec (.mld ts k e rd ra obj h) s = .next ((s.slot ts e).done k ((s.core.teller k).xw rd (BitVec.ofNat 32
      (if h then ((s.slot ts e).core.maskSet ((s.core.teller k).opA ra obj)).toNat / 2 ^ 32
        else ((s.slot ts e).core.maskSet ((s.core.teller k).opA ra obj)).toNat))).onto) := by
  rw [← maskWord_eq]
  refine congrArg Host.Outcome.next (State.issueDev_onward hr ts (g := fun t => t.xw rd _) ?_ ?_)
  · rw [State.slot_teller]
    exact Dev.inRange_in _ _ _ _ _ (Nat.lt_succ_of_le hm)
  · simp [State.ready_stall hr]

theorem execTstm_ready {s : State} {ts : Nat} {k : Fin 8} {e : Ecc} {ra : Fin 16} {obj : BitVec 6}
    (h : s.ready k e (wordD 0x2C 0 ra 0 obj 0) = true) (hm : (s.core.teller k).opA ra obj ≤ 63) :
    exec (.tstm ts k e ra obj) s = .next ((s.slot ts e).done k ((s.slot ts e).core.testMask
      ((s.slot ts e).core.maskSet ((s.core.teller k).opA ra obj)) (s.core.teller k)).onto) := by
  refine congrArg Host.Outcome.next (State.issueDev_onward h ts
    (g := (s.slot ts e).core.testMask ((s.slot ts e).core.maskSet ((s.core.teller k).opA ra obj))) ?_ ?_)
  · rw [State.slot_teller]
    exact Dev.inRange_in _ _ _ _ _ (Nat.lt_succ_of_le hm)
  · rw [Dev.testMask_stall, State.ready_stall h]

theorem execMbin_ready {s : State} {ts : Nat} {k : Fin 8} {e : Ecc} {rd : Fin 16}
    (h : s.ready k e (wordD 0x21 rd 0 0 0 0x00) = true) :
    exec (.mbin ts k e rd) s = .next ((s.slot ts e).done k
      ((s.core.teller k).xw rd (BitVec.ofNat 32 ((s.slot ts e).core.get (F.TELLER_MBOXIN_MBOXIN k)))).onto) :=
  congrArg Host.Outcome.next (State.issueDev_onward h ts
    (g := fun t => t.xw rd (BitVec.ofNat 32 ((s.slot ts e).core.get (F.TELLER_MBOXIN_MBOXIN k)))) rfl (by simp [State.ready_stall h]))

theorem execKick_ready {s : State} {ts : Nat} {k : Fin 8} {e : Ecc} (h : s.ready k e (wordD 0x20 0 0 0 0 0x01) = true) :
    exec (.kick ts k e) s = .next ((s.slot ts e).done k
      { (s.core.teller k).onto with
          wdogNs := 0
          runAt := s.at ts }) :=
  congrArg Host.Outcome.next (State.issueDev_onward h ts (g := fun t => { t with wdogNs := 0, runAt := s.at ts })
    (by rw [State.slot_now]) (State.ready_stall h))

/-! ### MBOUT -/

/-- The mailbox of a teller and the causes of the doors are different fields. -/
theorem mboxOut_not_cause (k : Fin 8) : (F.TELLER_MBOXOUT_MBOXOUT k).key ∉ causeFlds.map Fld.key := by revert k; decide

/-- What MBOUT leaves of the device `c` of its slot (R203, R608): the mailbox, the teller one instruction on, the owner's cause. -/
def Dev.mailed (c : Dev) (k : Fin 8) (m : Nat) : Dev :=
  ((c.put (F.TELLER_MBOXOUT_MBOXOUT k) m).onward k id).causeOwner (c.owner (BitVec.ofNat 8 (0x38 + k.val))) cMbox

theorem instrMbout_eq (ts : Nat) (k : Fin 8) (e : Ecc) (ra : Fin 16) (obj : BitVec 6) (s : State) :
    instrMbout ts k e ra obj s =
      s.issueDev ts k e (wordD 0x21 0 ra 0 obj 0x01) (fun c => c.mailed k ((c.teller k).opA ra obj)) := rfl

theorem Dev.mailed_only (c : Dev) (k : Fin 8) (m : Nat) : c.only (.tellers :: alertParts) (c.mailed k m) :=
  (((c.put_only _ _).mono (by decide)).step (Dev.setTeller_only _ _ _) (by decide)).step (Dev.causeOwner_only _ _ _) (by decide)

theorem Dev.mailed_onlyRegs (c : Dev) (k : Fin 8) (m : Nat) :
    c.onlyRegs (F.TELLER_MBOXOUT_MBOXOUT k :: causeFlds) (c.mailed k m) :=
  ((c.onlyRegs_refl _).step (c.put_onlyRegs (F.TELLER_MBOXOUT_MBOXOUT k) m) (by simp)).step
    (Dev.causeOwner_onlyRegs ((c.put _ m).onward k id) _ _) (fun _ h => List.mem_cons_of_mem _ h)

theorem Dev.mailed_get_mboxOut (c : Dev) (k : Fin 8) (m : Nat) :
    (c.mailed k m).get (F.TELLER_MBOXOUT_MBOXOUT k) = m % 2 ^ 32 := by
  rw [Dev.mailed, Dev.causeOwner_onlyRegs _ _ _ _ (mboxOut_not_cause k)]
  exact c.get_put_same _ m

theorem Dev.mailed_tellers (c : Dev) (k : Fin 8) (m : Nat) : (c.mailed k m).tellers = (c.setTeller k (c.teller k).onto).tellers :=
  (Dev.causeOwner_only _ _ _).tellers (by decide)

/-- R608: the door that owns the teller has its MBOX cause set. -/
theorem Dev.mailed_cause {c : Dev} {k : Fin 8} {x : Fin 4} (m : Nat) (ho : c.owner (BitVec.ofNat 8 (0x38 + k.val)) = .door x) :
    ((c.mailed k m).get (F.DOOR_ACAUSE_CAUSE x)).testBit 7 = true := by
  rw [Dev.mailed, ho]
  exact Dev.cause_sets _ x (by decide)

theorem Dev.mailed_stepDone {c : Dev} {k : Fin 8} (m : Nat) (hs : (c.teller k).stall = none) :
    (c.mailed k m).stepDone k = (c.mailed k m).setTeller k ((c.teller k).onto.stepped c.now) := by
  have ht : (c.mailed k m).teller k = (c.teller k).onto := by
    unfold Dev.teller; rw [Dev.mailed_tellers]; exact c.teller_setTeller_same k _
  have hst : ((c.teller k).onto).stall = none := hs
  rw [Dev.stepDone, ht, (c.mailed_only k m).now (by decide)]
  simp [hst]

/-- MBOUT leaves the mailed device, its teller stepped. -/
theorem execMbout_ready {s : State} {ts : Nat} {k : Fin 8} {e : Ecc} {ra : Fin 16} {obj : BitVec 6}
    (h : s.ready k e (wordD 0x21 0 ra 0 obj 0x01) = true) :
    exec (.mbout ts k e ra obj) s = .next { s with
      core := ((s.slot ts e).core.mailed k ((s.core.teller k).opA ra obj)).setTeller k
        ((s.core.teller k).onto.stepped (s.slot ts e).core.now) } := by
  have hs : ((s.slot ts e).core.teller k).stall = none := by rw [State.slot_teller, State.ready_stall h]
  show Host.Outcome.next (instrMbout ts k e ra obj s) = _
  rw [instrMbout_eq, State.issueDev_ready h]
  unfold State.lift
  beta_reduce
  rw [Dev.mailed_stepDone _ hs, State.slot_teller]
  rfl

/-- Settles O4: each instruction's effect on its teller in the slot; MBOUT by the frames of what it mails. -/
theorem tellerReads : Obligations.TellerReads := by
  unfold Obligations.TellerReads
  intro s ts k e rd ra imm obj h t u m set
  have hm : t.opA ra obj = m := t.opA_eq ra obj
  refine ⟨execRdr_ready, fun hr hle => ?_, fun hr hle => ?_, execMbin_ready, execKick_ready, fun hr => ?_⟩
  · rw [execMld_ready hr (hm ▸ hle), hm]
  · rw [execTstm_ready hr (hm ▸ hle), hm, Dev.testMask_eq]
    simp only [State.slot_rail]
    rfl
  · refine ⟨_, execMbout_ready hr, ?_, ?_, fun x hx => ?_, ?_, ?_⟩
    · rw [hm, Dev.setTeller_get, Dev.mailed_get_mboxOut]
      exact Nat.mod_eq_of_lt (Nat.mod_lt _ (by decide))
    · show ((u.core.mailed k _).tellers.set k.val _ k.isLt) = _
      rw [Dev.mailed_tellers, State.slot_teller]
      exact congrArg Dev.tellers (u.core.setTeller_setTeller k _ _)
    · rw [Dev.setTeller_get]
      exact Dev.mailed_cause _ ((s.slot_owner ts e _).trans hx)
    · exact (((s.slot_only ts e).mono (by decide)).step (Dev.mailed_only _ k _) (by decide)).step
        (Dev.setTeller_only _ k _) (by decide)
    · intro g hg
      rw [Dev.setTeller_get]
      exact ((((s.core.onlyRegs_refl _).step (State.slot_onlyRegs hr ts) (by simp)).step
        (Dev.mailed_onlyRegs _ k _) (by simp))) g hg

end Sys2Proof.Machine
end

section
/-! Control flow and HALT (O5). -/

namespace Sys2Proof.Machine

/-- R213: B goes to its target where its condition holds, else on to the next instruction. -/
theorem execB_ready {s : State} {ts : Nat} {k : Fin 8} {e : Ecc} {c : Cond} {target : BitVec 16}
    (h : s.ready k e (wordJ 0x1C c.code target) = true) :
    exec (.b ts k e c target) s = .next ((s.slot ts e).done k
      (if (s.core.teller k).holds c then { s.core.teller k with pc := target } else (s.core.teller k).onto)) := by
  refine congrArg Host.Outcome.next (State.issueRegs_ready h ts _ ?_)
  split <;> exact State.ready_stall h

theorem execCall_ready {s : State} {ts : Nat} {k : Fin 8} {e : Ecc} {target : BitVec 16}
    (h : s.ready k e (wordJ 0x1D 0 target) = true) (hd : (s.core.teller k).stack.length < 16) :
    exec (.call ts k e target) s = .next ((s.slot ts e).done k
      { s.core.teller k with
          stack := ((s.core.teller k).pc + 1) :: (s.core.teller k).stack
          pc := target }) := by
  refine congrArg Host.Outcome.next (State.issueDev_setTeller h ts ?_ (State.ready_stall h))
  simp only [State.slot_teller]
  exact if_neg (Nat.not_le.mpr hd)

theorem execRet_ready {s : State} {ts : Nat} {k : Fin 8} {e : Ecc} {p : BitVec 16} {rest : List (BitVec 16)}
    (h : s.ready k e (wordJ 0x1E 0 0) = true) (hd : (s.core.teller k).stack = p :: rest) :
    exec (.ret ts k e) s = .next ((s.slot ts e).done k
      { s.core.teller k with
          stack := rest
          pc := p }) := by
  refine congrArg Host.Outcome.next (State.issueDev_setTeller h ts ?_ (State.ready_stall h))
  simp only [State.slot_teller, hd]

theorem execRett_ready {s : State} {ts : Nat} {k : Fin 8} {e : Ecc} {ra : Fin 16}
    (h : s.ready k e (wordR 0x1F 0 ra 0) = true) (ht : (s.core.teller k).trapped = true) :
    exec (.rett ts k e ra) s = .next ((s.slot ts e).done k
      { s.core.teller k with
          trapped := false
          pc := ((s.core.teller k).xr ra).setWidth 16 }) := by
  refine congrArg Host.Outcome.next (State.issueDev_setTeller h ts ?_ (State.ready_stall h))
  simp only [State.slot_teller]
  exact if_pos ht

/-! ### HALT -/

@[simp] theorem State.slot_dozes (s : State) (ts : Nat) (e : Ecc) (k : Fin 8) : (s.slot ts e).core.dozes k = s.core.dozes k := by
  have hmode := s.slot_get ts e (f := F.SYS_MODE_EFF) (by decide) (by decide)
  have hwatch := s.slot_get ts e (f := F.SYS_MODE_WTELLER) (by decide) (by decide)
  unfold Dev.dozes Dev.eff Dev.isWatchTeller
  rw [hmode, hwatch, (s.slot_only ts e).awake (by decide), State.slot_teller]

theorem Dev.setTeller_dozes {c : Dev} {k : Fin 8} {t : Teller} (h : t.st = (c.teller k).st) :
    (c.setTeller k t).dozes k = c.dozes k := by
  simp [Dev.dozes, Dev.eff, Dev.isWatchTeller, h]

/-- R192, R193, R195: a RUNNING teller that neither stalls nor dozes halts at once, its time RUNNING counted, and its requests to
the purses are withdrawn. -/
theorem Dev.tellerHalt_running {c : Dev} {k : Fin 8} (hst : (c.teller k).st = .running) (hs : (c.teller k).stall = none)
    (hd : c.dozes k = false) : c.tellerHalt k = (c.setTeller k { c.teller k with
      st := .halted
      wait := none
      step := false
      wdogNs := (c.teller k).wdogNs + (c.now - (c.teller k).runAt) }).withdrawTeller k := by
  simp [Dev.tellerHalt, Dev.wdogNow, hst, hs, hd]

@[simp] theorem Dev.withdrawTeller_teller (c : Dev) (k j : Fin 8) : (c.withdrawTeller k).teller j = c.teller j := rfl

theorem Dev.withdrawTeller_stepDone (c : Dev) (k : Fin 8) :
    (c.withdrawTeller k).stepDone k = (c.stepDone k).withdrawTeller k := by
  unfold Dev.stepDone
  rw [Dev.withdrawTeller_teller]
  dsimp only
  split <;> rfl

/-- A teller as HALT leaves it at the instant `now` (R192, R195, R232). -/
def Teller.haltedOnto (t : Teller) (now : Nat) : Teller :=
  { t.onto with
      st := .halted
      exc := false
      wait := none
      stall := none
      step := false
      wdogNs := t.wdogNs + (now - t.runAt) }

/-- HALT on a device: the PC advances, then the teller halts. -/
theorem Dev.onward_tellerHalt {c : Dev} {k : Fin 8} (hst : (c.teller k).st = .running) (hs : (c.teller k).stall = none)
    (hd : c.dozes k = false) : (c.onward k (fun t => { t with exc := false })).tellerHalt k =
      (c.setTeller k ((c.teller k).haltedOnto c.now)).withdrawTeller k := by
  rw [Dev.onward_eq, Dev.tellerHalt_running]
  · simp [Teller.haltedOnto, Teller.onto, hs]
  · simpa [Teller.onto] using hst
  · simpa [Teller.onto] using hs
  · rw [Dev.setTeller_dozes (by rfl), hd]

theorem execHalt_ready {s : State} {ts : Nat} {k : Fin 8} {e : Ecc} (h : s.ready k e (wordD 0x20 0 0 0 0 0x00) = true) :
    exec (.halt ts k e) s = .next (((s.slot ts e).done k ((s.core.teller k).haltedOnto (s.at ts))).lift
      (fun d => d.withdrawTeller k)) := by
  obtain ⟨-, -, hst, hs⟩ := State.ready_running h
  have heffect : ((s.slot ts e).core.onward k (fun t => { t with exc := false })).tellerHalt k = _ :=
    Dev.onward_tellerHalt (by rw [State.slot_teller, hst]) (by rw [State.slot_teller, hs])
      (by rw [State.slot_dozes, State.ready_not_dozing h])
  show Host.Outcome.next (instrHalt ts k e s) = _
  rw [instrHalt, State.issueDev_ready h]
  unfold State.done State.lift
  beta_reduce
  rw [heffect, Dev.withdrawTeller_stepDone, Dev.stepDone_setTeller _ _ _ rfl, State.slot_teller, State.slot_now]

/-- Settles O5: each instruction's effect on its teller in the slot; HALT withdraws the teller's requests too. -/
theorem tellerControl : Obligations.TellerControl := by
  unfold Obligations.TellerControl
  intro s ts k e c ra target t u taken
  have htaken : taken ↔ t.holds c = true := by
    cases c <;> simp [taken, Teller.holds]
  refine ⟨fun h hc => ?_, fun h hc => ?_, execCall_ready, fun p rest h hd => execRet_ready h hd, fun h ht => ?_, execHalt_ready⟩
  · rw [execB_ready h, if_pos (htaken.mp hc)]
  · rw [execB_ready h, if_neg (mt htaken.mpr hc)]
  · rw [execRett_ready h ht, ← BitVec.ofNat_toNat]

end Sys2Proof.Machine
end
